-- ==== Sys2Proof/Word.lean ====
section
/-!
DEFINITION. The byte of the ports and of the log pages. Everything else the manual counts (ticks,
frames, log indices) is a natural number or an integer, as R6 asks for exact arithmetic.
-/

namespace Sys2Proof

/-- One byte on a port line or in a log page (R177, R136). -/
abbrev Byte := BitVec 8

/-- A text of a message: its characters' byte values (R184, form "text"). -/
abbrev Text := List Byte

end Sys2Proof
end

