-- ==== Sys2Proof/Config.lean ====
section
/-!
DEFINITION. The free values: what the manual leaves without a value although the part goes on.
Each is an opaque constant, a function of what it depends on, so that nothing can be proved of it
but what holds for every value.
-/

namespace Sys2Proof

/-- The bits a port or log field of `width` bytes carries when the value lies outside what its
form can hold. R184 gives each form its width and states no encoding past it. Log entry 9. -/
opaque Config.wireOverflow (width : Nat) (value : Int) : Nat

/-- The number that stands on a port for a word that no table of the manual lists (the device state
EMPTY, the run sense levels). R184 numbers words by "the order the owning table lists the values".
Log entry 10. -/
opaque Config.unlistedCode (word : String) : Nat

/-- What the session and log index of an UNLOGGED current take read as on a port. Log entry 10. -/
opaque Config.unloggedFill (position : Nat) : Nat

/-- A mark of a committed take that is in neither the take table nor the request, as MARK_TAKE's
reply reports it (R133): the manual names "the resulting marks" and reads no record for them.
`bit` is 0 for CIRCLED, 1 for FALSE_START and 2 for TIME_UNCERTAIN, and `counter` the house counter
as the request is taken, so that two requests need not agree. Log entry 11. -/
opaque Config.unreadMark (session index bit counter : Nat) : Bool

/-- The note of such a take. Log entry 11. -/
opaque Config.unreadNote (session index counter : Nat) : Option Text

/-- What a count whose range ends at 65,535 becomes when it should rise past its range and no
rule says that it stays there (follow losses, amendments lost). Log entry 12. -/
opaque Config.countOverflow (count : Nat) : Nat

/-- The drift rate of a measurement at a mark earlier than the baseline's: R104 works the rate for a
later mark and keeps it for an equal one, and states nothing for an earlier one. The arguments are
the baseline and the new measurement. Log entry 13. -/
opaque Config.backwardRate (offset1 mark1 offset2 mark2 : Int) : Int

/-- Whether such a measurement sets RATE_LIMITED. Log entry 13. -/
opaque Config.backwardLimited (offset1 mark1 offset2 mark2 : Int) : Bool

end Sys2Proof
end

