-- ==== Sys2Proof/Syntax.lean ====
section
/-!
DEFINITION. The commands of the block: one constructor of `Instr` for each row of the table of
operations and events, with the operands the row's rule gives it. A request carries its port and
tag (R178); an event carries what arrives from outside (a byte, an edge, a packet, a read-back
result). An event of the part's own clock carries at most the slot or line it is about.
-/

namespace Sys2Proof

/-- The two message ports (Message Ports). -/
inductive Port where
  | control
  | suite
  deriving DecidableEq, Repr

/-- A timecode label's four fields as they travel on a port (R184, form "label"). -/
structure Label where
  hh : Nat
  mm : Nat
  ss : Nat
  ff : Nat
  deriving DecidableEq, Repr

/-- The frame header of a request: the port it arrives at, its tag, and its more-frames flag
(R178). A request is a single frame, so one with the flag set is MALFORMED (R179). -/
structure Req where
  port : Port
  tag  : Nat
  more : Bool := false
  deriving DecidableEq, Repr

/-- The settings a DECLARE_DEVICE or SET_DEVICE carries, each present or absent (R42, R44, R46).
Codes travel as their numbers; an attachment is a type (0 line, 1 radio) and a number; unit and
profile use 255 for none. -/
structure DeviceArgs where
  kind      : Option Nat := none
  att       : Option (Nat × Nat) := none
  unit      : Option Nat := none
  rate      : Option Nat := none
  audio     : Option Nat := none
  pull      : Option Nat := none
  phase     : Option Nat := none
  origin    : Option Nat := none
  autoRoll  : Option Bool := none
  tolerance : Option Nat := none
  poll      : Option Nat := none
  periodic  : Option Nat := none
  quiet     : Option Bool := none
  profile   : Option Nat := none
  deriving DecidableEq, Repr

/-- The fields of a REF_CONFIG (R24). -/
structure RefArgs where
  source    : Nat
  rate      : Nat
  ltcOrigin : Bool
  threshold : Nat
  slew      : Nat
  holdover  : Nat
  trim      : Option Int
  deriving DecidableEq, Repr

/-- The fields of a SET_SLATE (R118). -/
structure SlateArgs where
  unit   : Nat
  scene  : Option Text
  takeNo : Option Nat
  rolls  : List (Nat × Text)
  deriving DecidableEq, Repr

/-- The fields of a MARK_TAKE (R132). -/
structure MarkArgs where
  session    : Nat
  index      : Nat
  circled    : Option Bool
  falseStart : Option Bool
  note       : Option Text
  deriving DecidableEq, Repr

/-- The fields of a WHERE_IS as they arrive (R157). The scope is 0 for TABLE and 1 for ALL. -/
structure WhereArgs where
  session : Nat
  slot    : Nat
  label   : Label
  scope   : Nat
  rate    : Option Nat
  index   : Option Nat
  deriving DecidableEq, Repr

/-- The fields of an AT_TICK as they arrive (R165). -/
structure AtTickArgs where
  session : Nat
  tick    : Nat
  scope   : Nat
  deriving DecidableEq, Repr

/-- The fields of an EXPORT_TAKES (R169). -/
structure ExportArgs where
  session   : Nat
  start     : Nat
  count     : Nat
  blockSize : Nat
  follow    : Bool
  deriving DecidableEq, Repr

/-- What arrives at the reference inputs (R25): a rising edge of the house pulse, or a frame
boundary of the incoming timecode with the label it carries. -/
inductive EdgeInput where
  | housePulse
  | timecode (label : Label)
  deriving DecidableEq, Repr

/-- The sense of a line's load (R56). -/
inductive Sense where
  | present
  | opened
  | short
  deriving DecidableEq, Repr

/-- The fields of an ECHO packet (the packet table of section 5.2). -/
structure Echo where
  address   : Nat
  beacon    : Nat
  frames    : Nat
  phase     : Nat
  age       : Nat
  clap      : Option (Nat × Nat)
  clapCount : Nat
  deriving DecidableEq, Repr

/-- What a page write cut off by a reset left behind (R138: the write stops where it stands). -/
inductive PageLeft where
  | blank
  | damaged
  | whole
  deriving DecidableEq, Repr

/-- The commands of the DH-16, one for each row of the table. -/
inductive Instr where
  -- start-up
  | reset (pinA pinB : Bool) (left : PageLeft) (erased : List Nat)
  | settingsApply
  | logScanPageRead
  | scanComplete (first second : Bool)
  -- time and reference requests
  | timeNow (q : Req)
  | refConfig (q : Req) (a : RefArgs)
  | setHouseRate (q : Req) (code : Nat)
  | setOrigin (q : Req) (label : Label)
  | originBoundary
  -- devices and lines
  | declareDevice (q : Req) (slot : Nat) (a : DeviceArgs)
  | setDevice (q : Req) (slot : Nat) (a : DeviceArgs)
  | removeDevice (q : Req) (slot : Nat)
  | deviceStatus (q : Req) (slot : Nat)
  | jamDevice (q : Req) (slot : Nat) (label : Option Label)
  | lineEnable (q : Req) (line : Nat) (on : Bool)
  -- profiles
  | profileBegin (q : Req) (profile count : Nat) (bias : Int)
  | profilePoints (q : Req) (profile : Nat) (points : List (Nat × Int))
  | profileRead (q : Req) (profile : Nat)
  -- radio requests
  | radioEnable (q : Req) (on : Bool)
  | radioStatus (q : Req)
  -- units and takes
  | setSlate (q : Req) (a : SlateArgs)
  | unitStatus (q : Req) (unit : Nat)
  | startTake (q : Req) (unit : Nat)
  | endTake (q : Req) (unit : Nat)
  | markTake (q : Req) (a : MarkArgs)
  | takeTableStatus (q : Req)
  -- log store requests
  | setCommitDelay (q : Req) (seconds : Nat)
  | flush (q : Req)
  | clearLog (q : Req)
  | saveSettings (q : Req)
  | storeStatus (q : Req)
  -- conform and export requests
  | whereIs (q : Req) (a : WhereArgs)
  | atTick (q : Req) (a : AtTickArgs)
  | exportTakes (q : Req) (a : ExportArgs)
  | cancelExport (q : Req)
  -- the ports
  | unknownRequest (q : Req) (kind : Nat)
  | frameGapTimeout (p : Port)
  | messageSent (p : Port)
  -- reference events
  | referenceEdge (e : EdgeInput)
  | acquisitionTimeout
  | referenceLoss
  | holdoverExpiry
  -- line events
  | lineFrameEdge (line : Nat)
  | lineSenseChange (line : Nat) (sense : Sense)
  | runSenseChange (line : Nat) (active : Bool)
  -- slate link and tracking events
  | beaconMark
  | pollDue (slot : Nat)
  | periodicExpiry (slot : Nat)
  | slotStart
  | echoReceived (e : Echo) (intact : Bool)
  | transactionEnd
  -- log store events
  | commitDelayExpiry
  | pageWriteCheck (ok : Bool)
  | storeReadDone
  | settingsWriteDone (ok : Bool)
  | logEraseDone (failed : Option Nat)
  -- bytes
  | portByteReceived (p : Port) (byte : Byte) (stopFound : Bool)
  deriving DecidableEq, Repr

end Sys2Proof
end

