-- ==== Sys2Proof/Machine/Timeline.lean ====
section
/-!
DEFINITION. The timeline's arithmetic (Picture Time and Labels): the rates table, the two roundings,
and stages 1 to 6 as pure functions. Every other block converts time through these.
-/

namespace Sys2Proof.Machine

/-- House ticks in a house second. -/
def ticksPerSecond : Nat := 2400000

/-- Ticks between slot boundaries of the slate link (R77). -/
def ticksPerSlot : Nat := 120000

/-- The largest value of the house counter, at which it stays (R1, R26). -/
def maxCounter : Nat := 281474976710655

/-- The largest house origin (R1). -/
def maxOrigin : Nat := 207359999999

/-- The largest house time, `maxCounter + maxOrigin` (R1, R165). -/
def maxHouseTime : Nat := 281682336710654

/-- The four constants of a picture rate (R4). -/
structure Rate where
  base   : Nat
  drop   : Nat
  period : Nat
  day    : Nat
  deriving DecidableEq, Repr

/-- The rates table of R4, codes 1 to 17 in order. -/
def rateTable : List Rate :=
  [⟨24, 0, 100100, 2073600⟩, ⟨24, 0, 100000, 2073600⟩, ⟨25, 0, 96000, 2160000⟩,
   ⟨30, 0, 80080, 2592000⟩, ⟨30, 2, 80080, 2589408⟩, ⟨30, 0, 80000, 2592000⟩,
   ⟨48, 0, 50050, 4147200⟩, ⟨48, 0, 50000, 4147200⟩, ⟨50, 0, 48000, 4320000⟩,
   ⟨60, 0, 40040, 5184000⟩, ⟨60, 4, 40040, 5178816⟩, ⟨60, 0, 40000, 5184000⟩,
   ⟨96, 0, 25025, 8294400⟩, ⟨96, 0, 25000, 8294400⟩, ⟨100, 0, 24000, 8640000⟩,
   ⟨120, 0, 20020, 10368000⟩, ⟨120, 0, 20000, 10368000⟩]

/-- A rate code is one of 1 to 17 (R4). -/
def rateCodeOk (code : Nat) : Bool := decide (1 ≤ code ∧ code ≤ 17)

/-- The constants of a rate code. A code outside 1 to 17 never reaches this (every block refuses
it); it reads as code 2. -/
def rateOf (code : Nat) : Rate :=
  if rateCodeOk code then (rateTable[code - 1]?).getD ⟨24, 0, 100000, 2073600⟩
  else ⟨24, 0, 100000, 2073600⟩

/-- P of a rate code (R4). -/
def periodOf (code : Nat) : Nat := (rateOf code).period

/-- D of a rate code (R4). -/
def dayOf (code : Nat) : Nat := (rateOf code).day

/-- "Rounded to nearest": a half goes away from zero (R6). The divisor is positive. -/
def roundDiv (a b : Int) : Int :=
  if 0 ≤ a then (2 * a + b) / (2 * b) else -((2 * -a + b) / (2 * b))

/-- A value limited to a range (R31, R34, R104). -/
def clamp (lo hi x : Int) : Int := if x < lo then lo else if hi < x then hi else x

/-! ### Stage 2: wired devices -/

/-- The frame count `N = floor((t + φ)/P)` of a wired device (R7). -/
def wiredCount (code phase : Nat) (t : Int) : Int := (t + phase) / periodOf code

/-- The label frame `n = (N + o) mod D` of a wired device (R7). -/
def wiredFrame (code phase origin : Nat) (t : Int) : Nat :=
  ((wiredCount code phase t + origin) % dayOf code).toNat

/-- The sub-frame of a wired device, in hundredths (R7). -/
def wiredSub (code phase : Nat) (t : Int) : Nat :=
  (100 * ((t + phase) % periodOf code) / periodOf code).toNat

/-! ### Stages 3 and 4: labels -/

/-- The fields of a frame number counted without dropping (R11). -/
def plainLabel (base n : Nat) : Label :=
  { hh := n / (3600 * base)
    mm := n % (3600 * base) / (60 * base)
    ss := n % (60 * base) / base
    ff := n % base }

/-- The frame number of a label frame: the skipped numbers added back (R12, R13). -/
def undropped (code n : Nat) : Nat :=
  if code = 5 then
    let g := n / 17982
    let m := n % 17982
    if 2 ≤ m then n + 18 * g + 2 * ((m - 2) / 1798) else n + 18 * g
  else if code = 11 then
    let g := n / 35964
    let m := n % 35964
    if 4 ≤ m then n + 36 * g + 4 * ((m - 4) / 3596) else n + 36 * g
  else n

/-- Stage 3: the label of a label frame (R11 to R13). -/
def labelOf (code n : Nat) : Label := plainLabel (rateOf code).base (undropped code n)

/-- The drop-frame rules apply at codes 5 and 11 (R14, R57). -/
def isDrop (code : Nat) : Bool := decide (code = 5 ∨ code = 11)

/-- The check of R14 on a label at a rate code. -/
def labelOk (code : Nat) (l : Label) : Bool :=
  decide (l.hh ≤ 23 ∧ l.mm ≤ 59 ∧ l.ss ≤ 59 ∧ l.ff < (rateOf code).base) &&
  !decide (l.mm % 10 ≠ 0 ∧ l.ss = 0 ∧ l.ff < (rateOf code).drop)

/-- Stage 4: the label frame of a label that passes R14 (R15). -/
def frameOf (code : Nat) (l : Label) : Nat :=
  let m := 60 * l.hh + l.mm
  (rateOf code).base * (3600 * l.hh + 60 * l.mm + l.ss) + l.ff -
    (rateOf code).drop * (m - m / 10)

/-! ### Stage 5: radio devices over a jam segment -/

/-- One hundred million: the unit of a drift rate is 0.01 ppm. -/
def rateUnit : Int := 100000000

/-- The house ticks in which a device of rate `r` counts `e` device ticks (R17). -/
def houseElapsed (r e : Int) : Int := roundDiv (e * rateUnit) (rateUnit + r)

/-- The device ticks counted in `h` house ticks (R18). -/
def deviceElapsed (r h : Int) : Int := roundDiv (h * (rateUnit + r)) rateUnit

/-- The house tick at which label frame `n` began on the device (R17). -/
def radioTick (code : Nat) (j : Int) (n0 : Nat) (r : Int) (n : Nat) : Int :=
  j + houseElapsed r ((((n : Int) - n0) % dayOf code) * periodOf code)

/-- The device frame count since the jam at house tick `t` (R18). -/
def radioCount (code : Nat) (j r t : Int) : Int := deviceElapsed r (t - j) / periodOf code

/-- The label frame a radio device shows at house tick `t` (R18). -/
def radioFrame (code : Nat) (j : Int) (n0 : Nat) (r t : Int) : Nat :=
  (((n0 : Int) + radioCount code j r t) % dayOf code).toNat

/-- The sub-frame of a radio device at house tick `t` (R18). -/
def radioSub (code : Nat) (j r t : Int) : Nat :=
  (100 * (deviceElapsed r (t - j) % periodOf code) / periodOf code).toNat

/-! ### Stage 6: samples -/

/-- The audio rate in hertz of its code, 0 to 4 (R184). -/
def audioHz (code : Nat) : Nat := ([44100, 48000, 88200, 96000, 192000][code]?).getD 48000

/-- The ratio pn/pd of a pull, by its code NONE 0, DOWN 1, UP 2 (R19, R184). -/
def pullRatio (code : Nat) : Nat × Nat :=
  if code = 1 then (1000, 1001) else if code = 2 then (1001, 1000) else (1, 1)

/-- `floor(e·X)` for device-elapsed ticks `e` (R19). -/
def samplesOf (audio pull : Nat) (e : Int) : Int :=
  e * (audioHz audio * (pullRatio pull).1) / (ticksPerSecond * (pullRatio pull).2)

/-- The sample position: the two floors taken separately, and 0 where the sum is negative (R19). -/
def samplePosition (code audio pull : Nat) (n0 : Nat) (e : Int) : Nat :=
  (samplesOf audio pull e + samplesOf audio pull ((n0 : Int) * periodOf code)).toNat

/-! ### A device's position -/

/-- A device's position at a house tick: the frame count (N of a wired device, k since the jam of a
radio device), the label frame, its label, the sub-frame, and for a recorder the sample position
(R21). -/
structure Position where
  count  : Int
  frame  : Nat
  label  : Label
  sub    : Nat
  sample : Option Nat
  deriving DecidableEq, Repr

/-- The position of a wired device, from its rate code, audio rate, pull, φ and o (R7, R20, R21). -/
def wiredPosition (code audio pull : Nat) (recorder : Bool) (phase origin : Nat) (t : Int) :
    Position :=
  { count := wiredCount code phase t
    frame := wiredFrame code phase origin t
    label := labelOf code (wiredFrame code phase origin t)
    sub := wiredSub code phase t
    sample := if recorder then some (samplePosition code audio pull origin (t + phase)) else none }

/-- The position of a radio device, from its rate code, audio rate and pull, over the jam segment
`(j, n0, r)` that the asking block supplies (R18, R19, R21). -/
def radioPosition (code audio pull : Nat) (recorder : Bool) (j : Int) (n0 : Nat) (r t : Int) :
    Position :=
  { count := radioCount code j r t
    frame := radioFrame code j n0 r t
    label := labelOf code (radioFrame code j n0 r t)
    sub := radioSub code j r t
    sample := if recorder then
      some (samplePosition code audio pull n0 (deviceElapsed r (t - j))) else none }

/-! ### The house label -/

/-- The house label frame at house time `t` (R10). -/
def houseFrame (code : Nat) (t : Int) : Nat := wiredFrame code 0 0 t

/-- The house label at house time `t` (R10). -/
def houseLabel (code : Nat) (t : Int) : Label := labelOf code (houseFrame code t)

/-- The house sub-frame at house time `t` (R10). -/
def houseSub (code : Nat) (t : Int) : Nat := wiredSub code 0 t

/-! ### Reference edges and origins -/

/-- A value reduced into the range above −P/2 and up to P/2 (R27). -/
def reduceError (p : Nat) (x : Int) : Int :=
  let y := x % p
  if (p : Int) < 2 * y then y - p else y

/-- An interval of `d` counter ticks is regular with period count `m` (R27). -/
def regular (p m d : Nat) : Bool := decide (((d : Int) - m * p).natAbs ≤ p / 100)

/-- The period count of an interval in LOCKED: 1, 2 or 3, or none when it is irregular (R27, R30). -/
def regularCount (p d : Nat) : Option Nat :=
  if regular p 1 d then some 1 else if regular p 2 d then some 2
  else if regular p 3 d then some 3 else none

/-- The origin for a label frame at a rate, taking effect at counter value `c` (R37): the current
origin when it is a candidate, else the smallest candidate, else none. -/
def originFor (code n : Nat) (c : Int) (current : Nat) : Option Nat :=
  let whole := (dayOf code : Int) * periodOf code
  let want := ((n : Int) * periodOf code - c) % whole
  if ((current : Int) - want) % whole = 0 ∧ current ≤ maxOrigin then some current
  else if want.toNat ≤ maxOrigin then some want.toNat else none

end Sys2Proof.Machine
end

