-- ==== Sys2Proof/Machine/Wire.lean ====
section
/-!
DEFINITION. The forms in which every field travels (R184), the CRC-16 of ports, profiles and log
pages, and the frames into which a message is cut (R178).
-/

namespace Sys2Proof.Machine

/-- A field of a message or of a page: its width in bytes, whether its form is signed, its value. -/
structure Field where
  width  : Nat
  signed : Bool
  value  : Int
  deriving DecidableEq, Repr

/-- The value lies in what the form holds (R184). -/
def Field.fits (f : Field) : Bool :=
  if f.signed then
    decide (-(2 ^ (8 * f.width - 1) : Nat) ≤ f.value ∧ f.value < (2 ^ (8 * f.width - 1) : Nat))
  else decide (0 ≤ f.value ∧ f.value < (2 ^ (8 * f.width) : Nat))

/-- The number whose bits the field's bytes carry: two's complement for a signed form. -/
def Field.code (f : Field) : Nat :=
  if f.fits then (f.value % (2 ^ (8 * f.width) : Nat)).toNat
  else Config.wireOverflow f.width f.value % 2 ^ (8 * f.width)

/-- `width` bytes of a number, the least significant first (Conventions, "Byte order"). -/
def leBytes : Nat → Nat → List Byte
  | 0, _ => []
  | w + 1, n => BitVec.ofNat 8 (n % 256) :: leBytes w (n / 256)

/-- The number that little-endian bytes carry. -/
def ofLeBytes : List Byte → Nat
  | [] => 0
  | b :: bs => b.toNat + 256 * ofLeBytes bs

/-- The bytes of a field. -/
def Field.bytes (f : Field) : List Byte := leBytes f.width f.code

/-- The bytes of a message body. -/
def encodeFields (fs : List Field) : List Byte := fs.flatMap Field.bytes

/-! ### The forms of R184 -/

/-- An unsigned field of `w` bytes. -/
def uint (w n : Nat) : Field := ⟨w, false, n⟩
/-- A tick, counter or origin. -/
def fTick (n : Int) : Field := ⟨8, false, n⟩
/-- A session number. -/
def fSession (n : Nat) : Field := uint 2 n
/-- A log index. -/
def fIndex (n : Nat) : Field := uint 4 n
/-- A label frame. -/
def fFrame (n : Nat) : Field := uint 4 n
/-- A sample position. -/
def fSample (n : Nat) : Field := uint 8 n
/-- A rate, offset, trim or edge error. -/
def fSigned (n : Int) : Field := ⟨4, true, n⟩
/-- A predicted offset. -/
def fPredicted (n : Int) : Field := ⟨8, true, n⟩
/-- A slot, line, address, code, enumeration, sub-frame or beacon number. -/
def fByte (n : Nat) : Field := uint 1 n
/-- A flag, mark or on/off setting. -/
def fFlag (b : Bool) : Field := uint 1 (if b then 1 else 0)
/-- A CRC, or a count whose range ends at 65,535 or below. -/
def fCount (n : Nat) : Field := uint 2 n
/-- A longer count, seconds, a power-on age or a residual. -/
def fLong (n : Nat) : Field := uint 4 n
/-- A profile level. -/
def fLevel (n : Int) : Field := ⟨1, true, n⟩
/-- A unit, 0xFF for none. -/
def fUnit (u : Option Nat) : Field := fByte (u.getD 255)

/-- A label's four bytes. -/
def fLabel (l : Label) : List Field := [fByte l.hh, fByte l.mm, fByte l.ss, fByte l.ff]

/-- A text: its length, then its bytes. -/
def fText (t : Text) : List Field := fByte t.length :: t.map (fun b => fByte b.toNat)

/-- An optional field: a presence byte, then the field when present. -/
def fOpt (f : α → List Field) : Option α → List Field
  | none => [fByte 0]
  | some a => fByte 1 :: f a

/-- An optional field of one simple form. -/
def fOpt1 (f : α → Field) (o : Option α) : List Field := fOpt (fun a => [f a]) o

/-- A list: the item count, then the items. -/
def fList (f : α → List Field) (l : List α) : List Field := fByte l.length :: l.flatMap f

/-- The bias as the profile encoding gives it: bit 7 for minus, bits 0 to 3 the magnitude. -/
def biasCode (b : Int) : Nat := if b < 0 then 128 + b.natAbs else b.natAbs

/-! ### CRC-16 -/

/-- One shift of the CRC register, most significant bit first, polynomial 0x1021 (R178). -/
def crcShift (c : Nat) : Nat :=
  if c / 32768 % 2 = 1 then (c * 2 % 65536) ^^^ 0x1021 else c * 2 % 65536

/-- The CRC register after one byte. -/
def crcByte (c : Nat) (b : Byte) : Nat :=
  crcShift (crcShift (crcShift (crcShift (crcShift (crcShift (crcShift (crcShift
    (c ^^^ (b.toNat * 256)))))))))

/-- The CRC-16 of the Conventions: polynomial 0x1021, initial value 0xFFFF (R178). -/
def crc16 (bs : List Byte) : Nat := bs.foldl crcByte 0xFFFF

/-! ### Messages and frames -/

/-- A message of either port before it is cut into frames (R178). -/
structure Message where
  kind : Nat
  tag  : Nat
  body : List Field
  deriving DecidableEq, Repr

/-- A body cut into pieces of `n` bytes, at least one piece; fuel bounds the number of pieces. -/
def chunksFrom (n : Nat) : Nat → List Byte → List (List Byte)
  | 0, bs => [bs]
  | fuel + 1, bs => if bs.length ≤ n then [bs] else bs.take n :: chunksFrom n fuel (bs.drop n)

/-- The pieces of at most `n` bytes that `bs` is cut into, in order; one empty piece for no bytes. -/
def chunks (n : Nat) (bs : List Byte) : List (List Byte) := chunksFrom n bs.length bs

/-- The seven bits of a kind code; a reply to an unknown kind of 0x60 or more has none (log entry
9). -/
def kindBits (kind : Nat) : Nat := if kind < 128 then kind else Config.wireOverflow 1 kind % 128

/-- One frame: start byte, length, kind with the more-frames flag, tag, body, CRC (section 11.5). -/
def frameBytes (kind tag : Nat) (more : Bool) (body : List Byte) : List Byte :=
  let inner := leBytes 2 (body.length + 2) ++
    leBytes 1 (kindBits kind + if more then 128 else 0) ++ leBytes 1 tag ++ body
  BitVec.ofNat 8 0xA5 :: inner ++ leBytes 2 (crc16 inner)

/-- The frames of a message's pieces: every one but the last with the more-frames flag. -/
def frameAll (kind tag : Nat) : List (List Byte) → List (List Byte)
  | [] => []
  | [b] => [frameBytes kind tag false b]
  | b :: bs => frameBytes kind tag true b :: frameAll kind tag bs

/-- The frames a message is sent as, bodies of at most 1,022 bytes each (R178). -/
def Message.frames (m : Message) : List (List Byte) :=
  frameAll m.kind m.tag (chunks 1022 (encodeFields m.body))

end Sys2Proof.Machine
end

