-- ==== Sys2Proof/Machine/State.lean ====
section
/-!
DEFINITION. The state of the DH-16 as plain data, block by block, and the state after reset.
Fields that are the model's own (latches that say an event of the part's own clock is due, the
fraction of the running total) are marked so in their docstrings and in INVENTORY.md.
-/

namespace Sys2Proof.Machine

/-! ### Devices and lines -/

/-- The kind of a device (R42). -/
inductive Kind where
  | camera | recorder | slate | display
  deriving DecidableEq, Repr

/-- How a device reaches the part (R42). -/
inductive Attachment where
  | line (n : Nat)
  | radio (address : Nat)
  deriving DecidableEq, Repr

/-- The settings of a declared slot but for the line enable, which the line holds (R42).
`audio` and `pull` are the codes of R184; a setting that does not apply keeps its default. -/
structure DeviceSettings where
  kind      : Kind
  att       : Attachment
  unit      : Option Nat
  rate      : Nat
  audio     : Nat
  pull      : Nat
  phase     : Nat
  origin    : Nat
  autoRoll  : Bool
  tolerance : Nat
  poll      : Nat
  periodic  : Nat
  quiet     : Bool
  profile   : Option Nat
  deriving DecidableEq, Repr

/-- The device states (R43, R98). -/
inductive DevState where
  | wired | unjammed | jamPending | tracked | drifting | outOfRange
  deriving DecidableEq, Repr

/-- The current take of a device or of a unit (R43, R117). -/
inductive CurrentTake where
  | none
  | logged (session index : Nat)
  | unlogged (unit : Nat)
  deriving DecidableEq, Repr

/-- The live state of a declared slot: the fields of R43, then the tracking unit's own values of
R96 (poll countdown, periodic countdown, anchor age, rate baseline, last residual, last clap
count). House ticks that a time change moves are integers. -/
structure Live where
  state         : DevState
  current       : CurrentTake
  jam           : Option (Int × Nat)
  rate          : Int
  tMeas         : Option Int
  offset        : Option Int
  age           : Nat
  predicted     : Int
  crc           : Option Nat
  missedRejams  : Nat
  missedReplies : Nat
  rateLimited   : Bool
  held          : Bool
  hasMeas       : Bool
  pollLeft      : Option Nat
  periodicLeft  : Option Nat
  anchorAge     : Option Nat
  baseline      : Option (Int × Int)
  lastResidual  : Nat
  lastClap      : Option Nat
  deriving DecidableEq, Repr

/-- A declared device slot. -/
structure Device where
  set  : DeviceSettings
  live : Live
  deriving DecidableEq, Repr

/-- The states of a line (R56). -/
inductive LineState where
  | disabled | active | faultOpen | faultShort
  deriving DecidableEq, Repr

/-- The frame word a line emits at an edge (R57). -/
structure FrameWord where
  label : Label
  drop  : Bool
  deriving DecidableEq, Repr

/-- A line output (R56). `out` is the last frame word emitted, none while the output is at the idle
level. `edgeDue` is the model's own: the house time of a frame edge that the house time has reached
and the line has not yet emitted. -/
structure Line where
  bound   : Option Nat
  enabled : Bool
  state   : LineState
  sense   : Sense
  run     : Bool
  out     : Option FrameWord
  edgeDue : Option Nat
  deriving DecidableEq, Repr

/-! ### Reference unit -/

/-- The reference sources (R23). -/
inductive Source where
  | internal | housePulse | ltcIn
  deriving DecidableEq, Repr

/-- The states of the reference unit (R23). -/
inductive RefState where
  | free | acquiring | locked | holdover
  deriving DecidableEq, Repr

/-- The settings of the reference unit, the trim among them (R23). -/
structure RefSettings where
  source    : Source
  rate      : Nat
  ltcOrigin : Bool
  threshold : Nat
  slew      : Nat
  holdover  : Nat
  trim      : Int
  deriving DecidableEq, Repr

/-- The acquisition run (R23): its edges so far, the first edge's error, the last edge's counter
value, and with LTC_IN the last edge's label frame (none for the invalid mark). -/
structure Run where
  edges    : Nat
  firstErr : Int
  last     : Nat
  label    : Option Nat
  deriving DecidableEq, Repr

/-- The last used edge (R23): its counter value after any step made at it, its label frame (none for
the invalid mark), and its error for TIME_NOW (R41). -/
structure UsedEdge where
  counter : Nat
  label   : Option Nat
  err     : Int
  deriving DecidableEq, Repr

/-- The correction in progress (R26, R31): its ticks, the reference period it is spread over, and
the oscillator ticks it has still to run. -/
structure Correction where
  ticks  : Int
  period : Nat
  left   : Nat
  deriving DecidableEq, Repr

/-- The waiting SET_ORIGIN (R23, R38). -/
structure WaitingOrigin where
  frame    : Nat
  rate     : Nat
  boundary : Nat
  port     : Port
  tag      : Nat
  deriving DecidableEq, Repr

/-- The reference unit but for the counter (R23). `begun` is the correction begun at the last used
edge, 0 when that edge stepped: the figure R34 enters in the list when the period closes. -/
structure RefUnit where
  set           : RefSettings
  state         : RefState
  run           : Option Run
  lastUsed      : Option UsedEdge
  correction    : Option Correction
  begun         : Int
  list          : List (Int × Nat)
  holdoverStart : Option Nat
  pendingStep   : Bool
  pendingOrigin : Bool
  waiting       : Option WaitingOrigin
  deriving DecidableEq, Repr

/-- The house counter and the fraction of its exact running total (R26). The total is
`counter + frac / 300,300,000,000`, a denominator that every gain of R26 divides. -/
structure Clock where
  counter : Nat
  frac    : Nat
  deriving DecidableEq, Repr

/-! ### Profiles -/

/-- The states of a profile (R64). -/
inductive ProfileState where
  | unset | loading | complete
  deriving DecidableEq, Repr

/-- A drift profile (R64). The load pointer is the number of stored points. -/
structure Profile where
  state  : ProfileState
  count  : Nat
  bias   : Int
  points : List (Nat × Int)
  crc    : Nat
  deriving DecidableEq, Repr

/-! ### Slate link -/

/-- The request classes in rank order (section 5.3). -/
inductive ReqClass where
  | hostJam | overdue | drift | periodic | poll | display
  deriving DecidableEq, Repr

/-- A waiting request (R84). The six sets are one list in age order, read class by class. -/
structure Request where
  cls   : ReqClass
  slot  : Nat
  frame : Option Nat
  age   : Nat
  deriving DecidableEq, Repr

/-- A packet handed to the radio module (section 5.2). A JAM's phase field is always 0. -/
inductive Packet where
  | beacon (number : Nat)
  | jam (address number rate frame : Nat)
  | poll (address : Nat)
  | display (address : Nat) (scene : Text) (takeNo : Nat) (roll : Text)
  deriving DecidableEq, Repr

/-- An entry of the beacon history (R79). -/
structure Mark where
  number : Nat
  tick   : Nat
  sent   : Bool
  deriving DecidableEq, Repr

/-- The transaction in flight (R77, R80, R94). `mark` is the beacon mark of its second; `echo` the
echo accepted in its window with the entry of the mark it names; `dropped` says that its outcome is
to be discarded (R51, R89). -/
structure Transaction where
  request : Request
  packet  : Packet
  start   : Nat
  mark    : Mark
  frame   : Nat
  echo    : Option (Echo × Mark)
  dropped : Bool
  deriving DecidableEq, Repr

/-- The radio unit (R76 to R95). `out` is the last packet handed to the radio module. `markDue` and
`slotDue` are the model's own: the beacon mark and the slot boundary that the house time has reached
and that have not been taken. -/
structure Radio where
  enabled  : Bool
  next     : Nat
  history  : List Mark
  requests : List Request
  nextAge  : Nat
  flight   : Option Transaction
  opened   : Bool
  out      : Option Packet
  markDue  : Option Nat
  slotDue  : Option Nat
  deriving DecidableEq, Repr

/-! ### Units and takes -/

/-- Who opened a take (R117). -/
inductive Opener where
  | host | rollSense
  deriving DecidableEq, Repr

/-- A unit's slate info (R117). -/
structure SlateInfo where
  scene  : Text
  takeNo : Nat
  rolls  : List (Nat × Text)
  deriving DecidableEq, Repr

/-- A unit record (R117). A unit is ROLLING exactly while its current take is not none. `start` is
the current take's start tick, which the unit keeps for an UNLOGGED take too. -/
structure UnitRec where
  info    : SlateInfo
  current : CurrentTake
  opener  : Option Opener
  start   : Nat
  deriving DecidableEq, Repr

/-- A jam segment of a participant entry (R123). -/
structure Segment where
  tick     : Int
  frame    : Nat
  rate     : Int
  residual : Nat
  deriving DecidableEq, Repr

/-- A participant entry (R123). A field that does not apply is 0. The LINE_FAULT mark is set exactly
when its tick is present. -/
structure Participant where
  slot       : Nat
  kind       : Kind
  att        : Attachment
  rate       : Nat
  audio      : Nat
  pull       : Nat
  phase      : Nat
  origin     : Nat
  startFrame : Option Nat
  endFrame   : Option Nat
  rollStart  : Option Nat
  rollStop   : Option Nat
  rejammed   : Bool
  lineFault  : Option Nat
  uncertain  : Bool
  segments   : List Segment
  deriving DecidableEq, Repr

/-- The states of a take record (R124). -/
inductive RecState where
  | opened | closed | committing | committed
  deriving DecidableEq, Repr

/-- A clap entry (R131). -/
structure Clap where
  slot  : Nat
  tick  : Int
  frame : Nat
  deriving DecidableEq, Repr

/-- A take record (R123, R131). -/
structure TakeRecord where
  session       : Nat
  index         : Nat
  unit          : Nat
  takeNo        : Nat
  scene         : Text
  opener        : Opener
  state         : RecState
  startTick     : Nat
  endTick       : Option Nat
  circled       : Bool
  falseStart    : Bool
  timeUncertain : Bool
  note          : Option Text
  participants  : List Participant
  clapTotal     : Nat
  claps         : List Clap
  deriving DecidableEq, Repr

/-- An entry of the take table (R124): the RAM copy, the commit order of a COMMITTED record, and the
counter value at the take's close, from which R139 measures the auto-commit delay. -/
structure Entry where
  copy         : TakeRecord
  order        : Option Nat
  closeCounter : Nat
  deriving DecidableEq, Repr

/-- The take table (R124, R128, R135). The commit queue holds log indices of the current session. -/
structure TakeTable where
  entries   : Vector (Option Entry) 64
  lastIndex : Nat
  queue     : List Nat
  nextOrder : Nat
  deriving DecidableEq, Repr

/-! ### Log store -/

/-- An amendment (R133): each field present or absent. A present note of no characters removes the
note. -/
structure Amendment where
  session    : Nat
  index      : Nat
  circled    : Option Bool
  falseStart : Option Bool
  note       : Option Text
  deriving DecidableEq, Repr

/-- The store states (R138). -/
inductive StoreState where
  | scanning | ready | logFull | fault
  deriving DecidableEq, Repr

/-- The header of a good log page (R136, section 11.5). -/
structure PageHeader where
  kind    : Nat
  session : Nat
  index   : Nat
  part    : Nat
  parts   : Nat
  deriving DecidableEq, Repr

/-- What a written log page holds: its bytes, or bytes whose CRC does not match (R141). -/
inductive PageData where
  | bytes (content : List Byte)
  | damaged
  deriving DecidableEq, Repr

/-- Who asked a read of the store (R147). -/
inductive Client where
  | conform (port : Port)
  | exporter
  deriving DecidableEq, Repr

/-- A store read (R147). -/
structure ReadReq where
  client  : Client
  session : Nat
  index   : Nat
  deriving DecidableEq, Repr

/-- The operation in flight (R138): a commit write with the pages still to be checked, the first of
them being written; an amendment write with its page; a read, which `live` says is still wanted; the
settings write and its attempt; the erase, then the CLEARED SESSION page that ends it. -/
inductive StoreOp where
  | idle
  | commit (index : Nat) (pages : List (List Byte))
  | amend (a : Amendment) (page : List Byte)
  | read (r : ReadReq) (live : Bool)
  | settings (attempt : Nat)
  | erase
  | cleared (page : List Byte)
  deriving DecidableEq, Repr

/-- A waiting FLUSH (R145). -/
structure WaitingFlush where
  boundary : List Nat
  port     : Port
  tag      : Nat
  deriving DecidableEq, Repr

/-- What the settings area holds of a profile (R75, R150). -/
structure SavedProfile where
  state  : ProfileState
  count  : Nat
  bias   : Int
  points : List (Nat × Int)
  deriving DecidableEq, Repr

/-- The settings copy (R150). A slot is saved with its line enable. -/
structure Snapshot where
  ref      : RefSettings
  house    : Nat
  slots    : Vector (Option (DeviceSettings × Bool)) 32
  profiles : Vector SavedProfile 8
  slates   : Vector SlateInfo 4
  delay    : Nat
  radioOn  : Bool
  deriving DecidableEq, Repr

/-- A pending SAVE_SETTINGS (R150), with its place in the order of acceptance (R146). -/
structure PendingSave where
  snapshot : Snapshot
  port     : Port
  tag      : Nat
  arrival  : Nat
  deriving DecidableEq, Repr

/-- A pending CLEAR_LOG (R148), with its place in the order of acceptance (R146). -/
structure PendingClear where
  port    : Port
  tag     : Nat
  arrival : Nat
  deriving DecidableEq, Repr

/-- The log store controller (R138). `applied`, `loaded`, `scanEnded` and `scanned` record how far
the start-up has come (R151 to R153). -/
structure Store where
  state      : StoreState
  pointer    : Nat
  directory  : List (Option PageHeader)
  skipped    : Nat
  session    : Nat
  failures   : Nat
  delay      : Nat
  amendments : List Amendment
  flushes    : List WaitingFlush
  save       : Option PendingSave
  clear      : Option PendingClear
  arrivals   : Nat
  op         : StoreOp
  lastWrite  : Bool
  reads      : List ReadReq
  applied    : Bool
  loaded     : Bool
  scanEnded  : Bool
  scanned    : Bool
  deriving DecidableEq, Repr

/-- The settings area of the flash: blank, a copy with a good CRC, or content whose CRC is not good
(R150, R151). -/
inductive SettingsArea where
  | blank
  | good (s : Snapshot)
  | bad
  deriving DecidableEq, Repr

/-- The external flash (R136). The log area lists its written pages only, page numbers rising. -/
structure Flash where
  settings : SettingsArea
  log      : List (Nat × PageData)
  deriving DecidableEq, Repr

/-! ### Ports, conform and export -/

/-- A conform query as it waits in a port's list (R156). -/
inductive Query where
  | whereIs (a : WhereArgs)
  | atTick (a : AtTickArgs)
  deriving DecidableEq, Repr

/-- An outstanding request (R179): its kind code and tag, and for a conform query that waits for the
context the query itself (R156). -/
structure Outstanding where
  kind  : Nat
  tag   : Nat
  query : Option Query
  deriving DecidableEq, Repr

/-- A formed reply that has not begun transmission (R180, R181). `listed` says that its request is in
the list of outstanding requests; `closes` that sending it returns the conform context to IDLE. -/
structure Reply where
  msg    : Message
  listed : Bool
  closes : Bool
  deriving DecidableEq, Repr

/-- A match found by a conform query (R156): the record, its source instant, and for a record that
was OPEN the house time at which the query was handed over. -/
structure Match where
  take    : TakeRecord
  instant : Int
  openEnd : Option Nat
  deriving DecidableEq, Repr

/-- A conform query whose checks have passed (R157, R165). -/
inductive Search where
  | whereIs (session slot frame rate : Nat) (index : Option Nat)
  | atTick (session tick : Nat)
  deriving DecidableEq, Repr

/-- The conform context of a port (R156): IDLE, BUSY with its log indices still to be read and the
matches found so far, or BUSY with its reply formed and not yet sent (R167). -/
inductive Conform where
  | idle
  | busy (tag : Nat) (search : Search) (toRead : List Nat) (found : List Match)
  | answered
  deriving DecidableEq, Repr

/-- A formed TAKE_BLOCK (R171, R173). -/
structure Block where
  seq         : Nat
  follow      : Bool
  takes       : List TakeRecord
  remaining   : Nat
  final       : Bool
  skippedOpen : Nat
  skippedNone : Nat
  losses      : Nat
  deriving DecidableEq, Repr

/-- An export message (R168). -/
inductive ExportMsg where
  | block (tag : Nat) (b : Block)
  | amended (tag : Nat) (a : Amendment) (lost : Nat)
  deriving DecidableEq, Repr

/-- An entry of the export's amendment list (R174). -/
structure HeldAmendment where
  amendment : Amendment
  ready     : Bool
  deriving DecidableEq, Repr

/-- The phases of the export context (R168). -/
inductive ExportPhase where
  | idle | counting | following
  deriving DecidableEq, Repr

/-- The export context (R168). `formed` is a block waiting to be handed, `handed` the message in
transmission, `reading` the index whose store read is waiting or in flight, `sent` the indices sent
in a block of this export (R174), `lastSent` the sequence number of the last block sent (R175),
`ended` that the final block has been formed. -/
structure Exporter where
  phase       : ExportPhase
  tag         : Nat
  session     : Nat
  range       : Option (Nat × Nat)
  blockSize   : Nat
  follow      : Bool
  last        : Option Nat
  skippedOpen : Nat
  skippedNone : Nat
  forming     : List TakeRecord
  formed      : Option Block
  reading     : Option Nat
  seq         : Nat
  queue       : List Nat
  losses      : Nat
  amendments  : List HeldAmendment
  lost        : Nat
  handed      : Option ExportMsg
  cancel      : Option Nat
  sent        : List Nat
  lastSent    : Nat
  ended       : Bool
  deriving DecidableEq, Repr

/-- What a port's transmitter is sending (R181). -/
inductive Outgoing where
  | reply (r : Reply)
  | notice (m : Message)
  | exported (m : ExportMsg)
  deriving DecidableEq, Repr

/-- One message port (R177 to R181). `rx` holds the bytes of the frame being received from its start
byte on; it is empty in HUNT. -/
structure PortState where
  rx          : List Byte
  outstanding : List Outstanding
  replies     : List Reply
  tx          : Option Outgoing
  conform     : Conform
  deriving DecidableEq, Repr

/-- A notice in the queue (R182): its kind code, its gap count, its fields. -/
structure Notice where
  kind : Nat
  gap  : Nat
  body : List Field
  deriving DecidableEq, Repr

/-! ### The machine -/

/-- The state of the DH-16. -/
structure State where
  pending  : List Instr
  clock    : Clock
  ref      : RefUnit
  origin   : Nat
  house    : Nat
  slots    : Vector (Option Device) 32
  lines    : Vector Line 16
  profiles : Vector Profile 8
  radio    : Radio
  marks    : Nat
  units    : Vector UnitRec 4
  takes    : TakeTable
  store    : Store
  flash    : Flash
  lineRate : Nat
  control  : PortState
  suite    : PortState
  notices  : List Notice
  lost     : Nat
  exporter : Exporter
  deriving DecidableEq, Repr

/-- Why the block stops with a fault. It has no constructor: no command of the DH-16 ends in a fault
(a request that cannot be carried out is answered with a status, and an event that cannot occur has
no effect), so the model never stops where the part goes on (safe). -/
inductive Fault where
  deriving DecidableEq, Repr

/-- Why the block refuses a command. -/
inductive Refusal where
  /-- A row of the table with no meaning yet (safe). No arm of `exec` answers it. -/
  | notModelled (mnemonic : String)
  deriving DecidableEq, Repr

/-! ### Reset values -/

/-- The reference settings from reset until the start-up read (R23). -/
def RefSettings.default : RefSettings :=
  ⟨.internal, 2, false, 240, 8, 600, 0⟩

/-- The reference unit at reset (R23). -/
def RefUnit.reset : RefUnit :=
  { set := .default, state := .free, run := none, lastUsed := none, correction := none, begun := 0,
    list := [], holdoverStart := none, pendingStep := false, pendingOrigin := false, waiting := none }

/-- The encoded content of an UNSET profile is three zero bytes; this is their CRC (R66). -/
def unsetCrc : Nat := crc16 [0, 0, 0]

/-- An UNSET profile (R64). -/
def Profile.unset : Profile := ⟨.unset, 0, 0, [], unsetCrc⟩

/-- A line at reset with the levels its inputs stand at (R63). -/
def Line.reset (sense : Sense) (run : Bool) : Line :=
  ⟨none, false, .disabled, sense, run, none, none⟩

/-- The radio unit at reset (R95). -/
def Radio.reset : Radio := ⟨false, 0, [], [], 0, none, false, none, none, none⟩

/-- A unit's slate info at reset (R117). -/
def SlateInfo.reset : SlateInfo := ⟨[], 1, []⟩

/-- A unit record at reset (R117). -/
def UnitRec.reset : UnitRec := ⟨.reset, .none, none, 0⟩

/-- The take table at reset (R135). -/
def TakeTable.reset : TakeTable := ⟨Vector.replicate 64 none, 0, [], 1⟩

/-- The log store controller at reset (R138). -/
def Store.reset : Store :=
  { state := .scanning, pointer := 0, directory := [], skipped := 0, session := 0, failures := 0,
    delay := 2, amendments := [], flushes := [], save := none, clear := none, arrivals := 0,
    op := .idle, lastWrite := false, reads := [], applied := false, loaded := false,
    scanEnded := false, scanned := false }

/-- A port at reset (R185). -/
def PortState.reset : PortState := ⟨[], [], [], none, .idle⟩

/-- The export context when IDLE (R168). -/
def Exporter.reset : Exporter :=
  { phase := .idle, tag := 0, session := 0, range := none, blockSize := 0, follow := false,
    last := none, skippedOpen := 0, skippedNone := 0, forming := [], formed := none, reading := none,
    seq := 1, queue := [], losses := 0, amendments := [], lost := 0, handed := none, cancel := none,
    sent := [], lastSent := 0, ended := false }

/-- The line rate of the two select pins (R177). -/
def lineRateOf (pinA pinB : Bool) : Nat :=
  match pinA, pinB with
  | true, false => 460800
  | false, true => 921600
  | _, _ => 115200

/-- Every block in its reset state, with what a reset leaves alone: the commands waiting outside, the
flash as found, and the levels at the line inputs (R63, R138, R185). -/
def State.afterReset (pending : List Instr) (flash : Flash) (inputs : Vector (Sense × Bool) 16)
    (rate : Nat) : State :=
  { pending := pending
    clock := ⟨0, 0⟩
    ref := .reset
    origin := 0
    house := 2
    slots := Vector.replicate 32 none
    lines := inputs.map fun i => Line.reset i.1 i.2
    profiles := Vector.replicate 8 .unset
    radio := .reset
    marks := 256
    units := Vector.replicate 4 .reset
    takes := .reset
    store := .reset
    flash := flash
    lineRate := rate
    control := .reset
    suite := .reset
    notices := []
    lost := 0
    exporter := .reset }

/-- The DH-16 right after its first reset: the flash blank, nothing connected to the lines (sense
OPEN, run sense INACTIVE) and both select pins low. Log entries 1 and 2. -/
def State.reset : State :=
  .afterReset [] ⟨.blank, []⟩ (Vector.replicate 16 (.opened, false)) (lineRateOf false false)

end Sys2Proof.Machine
end

