-- ==== Sys2Proof/Machine/Ops.lean ====
section
/-!
DEFINITION. The named operations the meanings share: reads and writes of each block's state, notices
and replies, the request sets, device states, and writes into take records. A meaning is composed of
these; none of them touches the queue of waiting commands.
-/

namespace Sys2Proof.Machine

/-- What a command of this block answers. -/
abbrev Out := Host.Outcome State Fault Refusal

/-! ### Time -/

/-- House time T = counter + origin (R1). -/
def State.houseTime (s : State) : Nat := s.clock.counter + s.origin

/-! ### Device slots, lines, profiles, units -/

/-- The device of a slot; none for an EMPTY slot or a number past 31. -/
def State.dev (s : State) (i : Nat) : Option Device := (s.slots[i]?).join

/-- A slot filled or emptied. -/
def State.setDev (s : State) (i : Nat) (d : Option Device) : State :=
  { s with slots := s.slots.setIfInBounds i d }

/-- A change of a declared slot's live state. -/
def State.modLive (s : State) (i : Nat) (f : Live → Live) : State :=
  match s.dev i with
  | some d => s.setDev i (some { d with live := f d.live })
  | none => s

/-- The declared slots in ascending order. -/
def State.declared (s : State) : List (Nat × Device) :=
  (List.range 32).filterMap fun i => (s.dev i).map fun d => (i, d)

/-- The declared slots assigned to a unit, in ascending order. -/
def State.assigned (s : State) (u : Nat) : List (Nat × Device) :=
  s.declared.filter fun x => x.2.set.unit = some u

/-- A line; a number past 15 reads as a line at reset. -/
def State.line (s : State) (i : Nat) : Line := (s.lines[i]?).getD (Line.reset .opened false)

/-- A change of one line. -/
def State.modLine (s : State) (i : Nat) (f : Line → Line) : State :=
  { s with lines := s.lines.setIfInBounds i (f (s.line i)) }

/-- A profile; a number past 7 reads as UNSET. -/
def State.profile (s : State) (i : Nat) : Profile := (s.profiles[i]?).getD .unset

/-- A profile replaced. -/
def State.setProfile (s : State) (i : Nat) (p : Profile) : State :=
  { s with profiles := s.profiles.setIfInBounds i p }

/-- A unit record; a number past 3 reads as a unit at reset. -/
def State.unit (s : State) (u : Nat) : UnitRec := (s.units[u]?).getD .reset

/-- A change of one unit record. -/
def State.modUnit (s : State) (u : Nat) (f : UnitRec → UnitRec) : State :=
  { s with units := s.units.setIfInBounds u (f (s.unit u)) }

/-- A unit is ROLLING exactly while its current take is not none (R117). -/
def UnitRec.rolling (u : UnitRec) : Bool := decide (u.current ≠ .none)

/-- The take table's any-take-open condition (R32): a unit is ROLLING, logged or UNLOGGED. -/
def State.anyTakeOpen (s : State) : Bool := s.units.toList.any UnitRec.rolling

/-- The attachment is the radio. -/
def Device.isRadio (d : Device) : Bool :=
  match d.set.att with
  | .radio _ => true
  | .line _ => false

/-- The line a wired device is attached to. -/
def Device.lineNo (d : Device) : Option Nat :=
  match d.set.att with
  | .line n => some n
  | .radio _ => none

/-- A quiet device in an open take, logged or UNLOGGED, is held back (R88, R109). -/
def Device.heldBack (d : Device) : Bool := d.set.quiet && decide (d.live.current ≠ .none)

/-- The tolerance in ticks: floor(tolerance code·P/8) (R97). -/
def Device.toleranceTicks (d : Device) : Nat := d.set.tolerance * periodOf d.set.rate / 8

/-- The current CRC of the profile a device names, none when it names none (R68, R73). -/
def State.profileCrc (s : State) (p : Option Nat) : Option Nat := p.map fun n => (s.profile n).crc

/-! ### Statuses, notices and replies -/

/-- The reply statuses (R183). -/
inductive Status where
  | ok | malformed | notPermitted | outOfRange | badLabel | noDevice | noTake | inUse | takeOpen
  | busy | queueFull | notReady | storeFault | logFull | notFound
  deriving DecidableEq, Repr

/-- The value a status is sent as (R183). -/
def Status.code : Status → Nat
  | .ok => 0 | .malformed => 1 | .notPermitted => 2 | .outOfRange => 3 | .badLabel => 4
  | .noDevice => 5 | .noTake => 6 | .inUse => 7 | .takeOpen => 8 | .busy => 9 | .queueFull => 10
  | .notReady => 11 | .storeFault => 12 | .logFull => 13 | .notFound => 14

/-- A notice queued on the control port, or lost when 16 wait (R182). -/
def State.notify (s : State) (kind : Nat) (body : List Field) : State :=
  if s.notices.length < 16 then
    { s with notices := s.notices ++ [⟨kind, s.lost, body⟩], lost := 0 }
  else { s with lost := min (s.lost + 1) 65535 }

/-- A port's state. -/
def State.port (s : State) : Port → PortState
  | .control => s.control
  | .suite => s.suite

/-- A change of a port's state. -/
def State.modPort (s : State) (p : Port) (f : PortState → PortState) : State :=
  match p with
  | .control => { s with control := f s.control }
  | .suite => { s with suite := f s.suite }

/-- The message of a reply: kind plus 0x20, the request's tag, the status, then the fields (R180). -/
def replyMessage (kind tag : Nat) (st : Status) (fields : List Field) : Message :=
  ⟨kind + 0x20, tag, fByte st.code :: fields⟩

/-- A reply formed for a request that is in its port's list (R180). -/
def State.reply (s : State) (p : Port) (kind tag : Nat) (st : Status) (fields : List Field := []) :
    State :=
  s.modPort p fun x =>
    { x with replies := x.replies ++ [⟨replyMessage kind tag st fields, true, false⟩] }

/-- The reply to a conform query whose checks passed: sending it frees the context (R167). -/
def State.replyQuery (s : State) (p : Port) (kind tag : Nat) (st : Status) (fields : List Field) :
    State :=
  s.modPort p fun x =>
    { x with
      replies := x.replies ++ [⟨replyMessage kind tag st fields, true, true⟩]
      conform := .answered }

/-- A reply the port forms by itself, of which at most 4 wait (R179, steps 1 to 3). -/
def State.portReply (s : State) (p : Port) (kind tag : Nat) (st : Status) : State :=
  s.modPort p fun x =>
    if (x.replies.filter fun r => !r.listed).length < 4 then
      { x with replies := x.replies ++ [⟨replyMessage kind tag st [], false, false⟩] }
    else x

/-! ### Codes of words (R184) -/

/-- CAMERA 0, RECORDER 1, SLATE 2, DISPLAY 3 (R42). -/
def Kind.code : Kind → Nat
  | .camera => 0 | .recorder => 1 | .slate => 2 | .display => 3

/-- The kind of a code. -/
def kindOf (n : Nat) : Option Kind := [Kind.camera, .recorder, .slate, .display][n]?

/-- WIRED 0 to OUT_OF_RANGE 5, in the order of R43. -/
def DevState.code : DevState → Nat
  | .wired => 0 | .unjammed => 1 | .jamPending => 2 | .tracked => 3 | .drifting => 4
  | .outOfRange => 5

/-- The number the device state of a slot travels as; EMPTY stands in no table (log entry 10). -/
def devStateCode : Option DevState → Nat
  | none => Config.unlistedCode "EMPTY"
  | some x => x.code

/-- DISABLED 0, ACTIVE 1, FAULT_OPEN 2, FAULT_SHORT 3 (R56). -/
def LineState.code : LineState → Nat
  | .disabled => 0 | .active => 1 | .faultOpen => 2 | .faultShort => 3

/-- PRESENT 0, OPEN 1, SHORT 2 (section 11.5). -/
def Sense.code : Sense → Nat
  | .present => 0 | .opened => 1 | .short => 2

/-- A run sense level on a port; no table lists the two words (log entry 10). -/
def runCode (active : Bool) : Nat := Config.unlistedCode (if active then "ACTIVE" else "INACTIVE")

/-- INTERNAL 0, HOUSE_PULSE 1, LTC_IN 2 (R23). -/
def Source.code : Source → Nat
  | .internal => 0 | .housePulse => 1 | .ltcIn => 2

/-- FREE 0, ACQUIRING 1, LOCKED 2, HOLDOVER 3 (R23). -/
def RefState.code : RefState → Nat
  | .free => 0 | .acquiring => 1 | .locked => 2 | .holdover => 3

/-- UNSET 0, LOADING 1, COMPLETE 2 (R64). -/
def ProfileState.code : ProfileState → Nat
  | .unset => 0 | .loading => 1 | .complete => 2

/-- HOST 0, ROLL_SENSE 1 (section 11.5, take record). -/
def Opener.code : Opener → Nat
  | .host => 0 | .rollSense => 1

/-- OPEN 0, CLOSED 1, COMMITTING 2, COMMITTED 3 (section 11.5). -/
def RecState.code : RecState → Nat
  | .opened => 0 | .closed => 1 | .committing => 2 | .committed => 3

/-- SCANNING 0, READY 1, LOG_FULL 2, FAULT 3 (R138). -/
def StoreState.code : StoreState → Nat
  | .scanning => 0 | .ready => 1 | .logFull => 2 | .fault => 3

/-! ### The request sets (R84 to R90) -/

/-- The requests of one class, oldest first: one of the six request sets (R84). -/
def Radio.classSet (r : Radio) (c : ReqClass) : List Request :=
  r.requests.filter fun x => x.cls = c

/-- A request of this class waits for this slot. -/
def Radio.waits (r : Radio) (c : ReqClass) (slot : Nat) : Bool :=
  r.requests.any fun x => x.cls = c && x.slot = slot

/-- A request posted: it joins the tail of its set, or merges into the one that waits, which keeps
its place and age and, for a HOST_JAM, takes the newer label frame (R84, R85). -/
def Radio.post (r : Radio) (c : ReqClass) (slot : Nat) (frame : Option Nat) : Radio :=
  if r.waits c slot then
    { r with requests := r.requests.map fun x =>
        if x.cls = c ∧ x.slot = slot then { x with frame := frame } else x }
  else
    { r with requests := r.requests ++ [⟨c, slot, frame, r.nextAge⟩], nextAge := r.nextAge + 1 }

/-- The request of an unconfirmed JAM: it goes to the tail of its class, or merges into one posted
meanwhile, which keeps its place, age and label frame (R90). -/
def Radio.requeue (r : Radio) (q : Request) : Radio :=
  if r.waits q.cls q.slot then r
  else
    { r with requests := r.requests ++ [{ q with age := r.nextAge }], nextAge := r.nextAge + 1 }

/-- A request put in the place its age gives it. -/
def insertByAge (q : Request) : List Request → List Request
  | [] => [q]
  | x :: xs => if q.age < x.age then q :: x :: xs else x :: insertByAge q xs

/-- The request of an abandoned JAM or POLL: it returns with its original age, merging with one of
its class posted meanwhile, whose label frame it then carries (R89). -/
def Radio.restore (r : Radio) (q : Request) : Radio :=
  match r.requests.find? fun x => x.cls = q.cls && x.slot = q.slot with
  | none => { r with requests := insertByAge q r.requests }
  | some x =>
    let others := r.requests.filter fun y => !(y.cls = q.cls && y.slot = q.slot)
    { r with requests := insertByAge { q with frame := x.frame } others }

/-- A request taken out of its set. -/
def Radio.remove (r : Radio) (q : Request) : Radio :=
  { r with requests := r.requests.filter fun x => !(x.cls = q.cls && x.slot = q.slot) }

/-- Every request for a slot dropped, and the outcome of a transaction to it discarded
(R47, R48, R51, R86, R89). -/
def Radio.dropSlot (r : Radio) (slot : Nat) : Radio :=
  { r with
    requests := r.requests.filter fun x => x.slot ≠ slot
    flight := r.flight.map fun t => if t.request.slot = slot then { t with dropped := true } else t }

/-- A transaction in flight abandoned, and the second no longer open (R78, R89, R93). A JAM or POLL
goes back to its set; a DISPLAY is finished; a request of a removed device is not returned. -/
def Radio.abandon (r : Radio) : Radio :=
  let r := { r with opened := false, slotDue := none }
  match r.flight with
  | none => r
  | some t =>
    let r := { r with flight := none }
    if t.request.cls = .display ∨ t.dropped then r else r.restore t.request

/-- A request posted by another block. -/
def State.post (s : State) (c : ReqClass) (slot : Nat) (frame : Option Nat := none) : State :=
  { s with radio := s.radio.post c slot frame }

/-! ### Device states (R91, R92, R98) -/

/-- The poll period of a device in its state, none when it is not polled (R91). -/
def State.pollPeriod (s : State) (d : Device) : Option Nat :=
  match d.live.state with
  | .tracked | .drifting | .jamPending =>
    if d.set.kind = .slate ∧ (d.set.unit.map fun u => (s.unit u).rolling) = some true then some 1
    else some d.set.poll
  | .outOfRange => some (4 * d.set.poll)
  | .wired | .unjammed => none

/-- A change of device state, which reloads the poll countdown; a device already in the state keeps
its countdown (R92). -/
def State.enter (s : State) (i : Nat) (new : DevState) : State :=
  match s.dev i with
  | none => s
  | some d =>
    if d.live.state = new then s
    else
      let d := { d with live := { d.live with state := new } }
      s.setDev i (some { d with live := { d.live with pollLeft := s.pollPeriod d } })

/-- The causes of a DEVICE_STATE notice (section 11.5). -/
inductive DevCause where
  | host | jam | hold | missed | back
  deriving DecidableEq, Repr

/-- HOST 0, JAM 1, HOLD 2, MISSED 3, RETURN 4. -/
def DevCause.code : DevCause → Nat
  | .host => 0 | .jam => 1 | .hold => 2 | .missed => 3 | .back => 4

/-- A DEVICE_STATE notice (R98, section 11.5). -/
def State.noteDevice (s : State) (slot : Nat) (old new : Option DevState) (cause : DevCause)
    (jam : Option (Int × Nat) := none) (offset : Option Int := none) : State :=
  s.notify 0x45 ([fByte slot, fByte (devStateCode old), fByte (devStateCode new),
      fTick s.houseTime, fByte cause.code] ++
    fOpt1 fTick (jam.map Prod.fst) ++ fOpt1 fFrame (jam.map Prod.snd) ++ fOpt1 fSigned offset)

/-! ### Take records -/

/-- The take table's entry of a take. -/
def State.findTake (s : State) (session index : Nat) : Option Entry :=
  (s.takes.entries.toList.filterMap id).find? fun e =>
    e.copy.session = session && e.copy.index = index

/-- A change of the entry of a take. -/
def State.modTake (s : State) (session index : Nat) (f : Entry → Entry) : State :=
  { s with takes := { s.takes with entries := s.takes.entries.map fun o => o.map fun e =>
      if e.copy.session = session ∧ e.copy.index = index then f e else e } }

/-- A change of a record. -/
def Entry.mod (e : Entry) (f : TakeRecord → TakeRecord) : Entry := { e with copy := f e.copy }

/-- A change of one participant entry; TIME_UNCERTAIN follows an UNCERTAIN entry (R130). -/
def TakeRecord.modEntry (r : TakeRecord) (slot : Nat) (f : Participant → Participant) :
    TakeRecord :=
  let ps := r.participants.map fun p => if p.slot = slot then f p else p
  { r with participants := ps
           timeUncertain := r.timeUncertain || ps.any Participant.uncertain }

/-- The current take of a slot, none for an EMPTY one (R54). -/
def State.currentOf (s : State) (slot : Nat) : CurrentTake :=
  match s.dev slot with
  | some d => d.live.current
  | none => .none

/-- A write into the participant entry of a device's current take, made only while that take is
logged and its record OPEN (R61, R105, R125, R128). -/
def State.writeEntry (s : State) (slot : Nat) (f : Participant → Participant) : State :=
  match s.currentOf slot with
  | .logged ss ix =>
    s.modTake ss ix fun e => e.mod fun r =>
      if r.state = .opened then r.modEntry slot f else r
  | _ => s

/-- A line fault handed to the take table: the entry keeps its first tick (R61). -/
def State.lineFault (s : State) (slot : Nat) : State :=
  s.writeEntry slot fun p =>
    { p with lineFault := some (p.lineFault.getD s.houseTime) }

/-! ### Held re-jams (R111, R112) -/

/-- A re-jam held back for a take (R111). `escalates` says that the event is a periodic expiry, or a
prediction step that leaves the offset at twice the tolerance. -/
def State.holdTrigger (s : State) (slot : Nat) (escalates : Bool) : State :=
  match s.dev slot with
  | none => s
  | some d =>
    let s1 := s.modLive slot fun l => { l with held := true }
    if d.live.state = .tracked ∧ d.live.missedRejams = 0 then
      s1.modLive slot fun l => { l with missedRejams := 1 }
    else if d.live.state = .tracked ∧ d.live.missedRejams = 1 ∧ escalates then
      let s2 := (s1.modLive slot fun l => { l with missedRejams := 2 }).enter slot .drifting
      let s3 := s2.noteDevice slot (some .tracked) (some .drifting) .hold
      s3.writeEntry slot fun p => { p with uncertain := true }
    else s1

/-- The end of a hold: the flag is cleared and one OVERDUE request posted (R112). -/
def State.endHold (s : State) (slot : Nat) : State :=
  match s.dev slot with
  | some d =>
    if d.live.held then (s.modLive slot fun l => { l with held := false }).post .overdue slot else s
  | none => s

/-- A re-jam posted in its class, or held when the device is held back (R109, R110, R114). -/
def State.postOrHold (s : State) (c : ReqClass) (slot : Nat) (escalates : Bool) : State :=
  match s.dev slot with
  | some d => if d.heldBack then s.holdTrigger slot escalates else s.post c slot
  | none => s

/-! ### Steps and origin changes (R33, R39, R78, R115) -/

/-- A radio device's segment, measurement tick and baseline moved with house time (R115). -/
def Live.shift (l : Live) (a : Int) : Live :=
  { l with
    jam := l.jam.map fun x => (x.1 + a, x.2)
    tMeas := l.tMeas.map fun x => x + a
    baseline := l.baseline.map fun x => (x.1, x.2 + a) }

/-- A device that a time change re-jams: it has a segment and is in one of four states (R115). -/
def Device.rejamsAtChange (d : Device) : Bool :=
  d.isRadio && d.live.jam.isSome &&
    decide (d.live.state = .tracked ∨ d.live.state = .drifting ∨ d.live.state = .outOfRange ∨
      d.live.state = .jamPending)

/-- A step or an origin change by `a` ticks, handed to the radio unit (R78) and to the tracking unit
(R115); frame edges, marks and slots that the change passes do not occur (R8, R33). The DRIFT requests
of one change are posted in ascending slots (log entry 47). -/
def State.timeChange (s : State) (a : Int) : State :=
  let s1 := { s with
    radio := { s.radio.abandon with markDue := none, slotDue := none }
    marks := 0
    slots := s.slots.map fun o => o.map fun d =>
      if d.isRadio ∧ d.live.jam.isSome then { d with live := d.live.shift a } else d
    lines := s.lines.map fun l => { l with edgeDue := none } }
  (s.declared.filter fun x => x.2.rejamsAtChange).foldl (fun t x => t.post .drift x.1) s1

end Sys2Proof.Machine
end

