-- ==== Sys2Proof/Machine/Flags.lean ====
section
/-!
DEFINITION. The flag bytes of the layouts of section 11.5: how marks and presence flags are packed
into the bits of a byte, and read back.
-/

namespace Sys2Proof.Machine

/-- One mark bit of a byte. -/
def bit (n : Nat) (b : Bool) : Nat := if b then 2 ^ n else 0

/-- Bit `n` of a byte. -/
def hasBit (n b : Nat) : Bool := decide (b / 2 ^ n % 2 = 1)

/-- A participant entry's marks byte. -/
def Participant.marks (p : Participant) : Nat :=
  bit 0 p.rejammed + bit 1 p.lineFault.isSome + bit 2 p.uncertain

/-- A participant entry's presence byte. -/
def Participant.presence (p : Participant) : Nat :=
  bit 0 p.startFrame.isSome + bit 1 p.endFrame.isSome + bit 2 p.rollStart.isSome +
    bit 3 p.rollStop.isSome + bit 4 p.lineFault.isSome

/-- A take's marks byte. -/
def TakeRecord.marks (r : TakeRecord) : Nat :=
  bit 0 r.circled + bit 1 r.falseStart + bit 2 r.timeUncertain

/-- The classes in which a request for a slot waits, bit 0 for HOST_JAM through bit 5 for DISPLAY
(section 11.5, DEVICE_STATUS reply). -/
def Radio.waitingByte (r : Radio) (slot : Nat) : Nat :=
  bit 0 (r.waits .hostJam slot) + bit 1 (r.waits .overdue slot) + bit 2 (r.waits .drift slot) +
    bit 3 (r.waits .periodic slot) + bit 4 (r.waits .poll slot) + bit 5 (r.waits .display slot)

/-- The marks byte of MARK_TAKE's reply and of a take: CIRCLED, FALSE_START, TIME_UNCERTAIN. -/
def marksByte (circled falseStart timeUncertain : Bool) : Nat :=
  bit 0 circled + bit 1 falseStart + bit 2 timeUncertain

end Sys2Proof.Machine
end

