-- ==== Sys2Proof/Machine/Records.lean ====
section
/-!
DEFINITION. The encoded take record and the log pages (section 11.5, R136): encoding, decoding, and
what the store holds of a take (R137, R147).
-/

namespace Sys2Proof.Machine

/-! ### Reading bytes -/

/-- A reader of bytes: it takes a value off the front, or finds none there. -/
abbrev Parse := StateT (List Byte) Option

/-- Nothing fits. -/
def pFail : Parse α := fun _ => none

/-- An unsigned number of `w` bytes. -/
def pNat (w : Nat) : Parse Nat := fun bs =>
  if bs.length < w then none else some (ofLeBytes (bs.take w), bs.drop w)

/-- A two's-complement number of `w` bytes. -/
def pInt (w : Nat) : Parse Int := fun bs =>
  match pNat w bs with
  | none => none
  | some (n, rest) =>
    some (if 2 ^ (8 * w - 1) ≤ n then (n : Int) - (2 ^ (8 * w) : Nat) else n, rest)

/-- A flag byte, 0 or 1. -/
def pFlag : Parse Bool := do
  let n ← pNat 1
  if n = 0 then pure false else if n = 1 then pure true else pFail

/-- `n` raw bytes. -/
def pBytes (n : Nat) : Parse (List Byte) := fun bs =>
  if bs.length < n then none else some (bs.take n, bs.drop n)

/-- A text of at most `max` bytes. -/
def pText (max : Nat) : Parse Text := do
  let n ← pNat 1
  if n ≤ max then pBytes n else pFail

/-- An optional field: its presence byte is 0 or 1. -/
def pOpt (p : Parse α) : Parse (Option α) := do
  let present ← pFlag
  if present then do
    let a ← p
    pure (some a)
  else pure none

/-- `n` items in a row. -/
def pRepeat (p : Parse α) : Nat → Parse (List α)
  | 0 => pure []
  | n + 1 => do
    let a ← p
    let rest ← pRepeat p n
    pure (a :: rest)

/-- A list: the item count, then the items. -/
def pList (p : Parse α) : Parse (List α) := do
  let n ← pNat 1
  pRepeat p n

/-- The value read when it uses up all the bytes. -/
def runParse (p : Parse α) (bs : List Byte) : Option α :=
  match p bs with
  | some (a, []) => some a
  | _ => none

/-! ### The take record -/

/-- The attachment's type byte and number (section 11.5). -/
def Attachment.codes : Attachment → Nat × Nat
  | .line n => (0, n)
  | .radio a => (1, a)

/-- An attachment from its type and number. -/
def attachmentOf (type number : Nat) : Option Attachment :=
  if type = 0 then some (.line number) else if type = 1 then some (.radio number) else none

/-- A segment's four fields. -/
def Segment.fields (s : Segment) : List Field :=
  [fTick s.tick, fFrame s.frame, fSigned s.rate, fLong s.residual]

/-- A participant entry as it is encoded (section 11.5). -/
def Participant.fields (p : Participant) : List Field :=
  [fByte p.slot, fByte p.kind.code, fByte p.att.codes.1, fByte p.att.codes.2, fByte p.rate,
   fByte p.audio, fByte p.pull, uint 4 p.phase, uint 4 p.origin, fByte p.presence,
   fFrame (p.startFrame.getD 0), fFrame (p.endFrame.getD 0), fTick (p.rollStart.getD 0),
   fTick (p.rollStop.getD 0), fByte p.marks, fTick (p.lineFault.getD 0)] ++
    fList Segment.fields p.segments

/-- A clap entry as it is encoded. -/
def Clap.fields (c : Clap) : List Field := [fByte c.slot, fTick c.tick, fFrame c.frame]

/-- The take record as it is encoded in messages and pages (section 11.5). -/
def TakeRecord.fields (r : TakeRecord) : List Field :=
  [fSession r.session, fIndex r.index, fByte r.unit, fCount r.takeNo] ++ fText r.scene ++
    [fByte r.opener.code, fByte r.state.code, fTick r.startTick] ++
    fOpt1 (fun n : Nat => fTick n) r.endTick ++ [fByte r.marks] ++ fOpt fText r.note ++
    fList Participant.fields r.participants ++ [fCount r.clapTotal] ++ fList Clap.fields r.claps

/-- A segment read back. -/
def pSegment : Parse Segment := do
  let j ← pNat 8
  let n ← pNat 4
  let r ← pInt 4
  let e ← pNat 4
  pure ⟨j, n, r, e⟩

/-- A value when its presence bit is set. -/
def whenBit (n presence : Nat) (v : Nat) : Option Nat := if hasBit n presence then some v else none

/-- A participant entry read back. -/
def pParticipant : Parse Participant := do
  let slot ← pNat 1
  let kind ← pNat 1
  let type ← pNat 1
  let number ← pNat 1
  let rate ← pNat 1
  let audio ← pNat 1
  let pull ← pNat 1
  let phase ← pNat 4
  let origin ← pNat 4
  let pr ← pNat 1
  let sf ← pNat 4
  let ef ← pNat 4
  let r0 ← pNat 8
  let r1 ← pNat 8
  let marks ← pNat 1
  let lf ← pNat 8
  let segs ← pList pSegment
  match kindOf kind, attachmentOf type number with
  | some k, some a =>
    pure { slot := slot, kind := k, att := a, rate := rate, audio := audio, pull := pull,
           phase := phase, origin := origin, startFrame := whenBit 0 pr sf,
           endFrame := whenBit 1 pr ef, rollStart := whenBit 2 pr r0, rollStop := whenBit 3 pr r1,
           rejammed := hasBit 0 marks, lineFault := whenBit 4 pr lf, uncertain := hasBit 2 marks,
           segments := segs }
  | _, _ => pFail

/-- A clap entry read back. -/
def pClap : Parse Clap := do
  let slot ← pNat 1
  let t ← pNat 8
  let n ← pNat 4
  pure ⟨slot, t, n⟩

/-- The take record read back. -/
def pTake : Parse TakeRecord := do
  let session ← pNat 2
  let index ← pNat 4
  let unit ← pNat 1
  let takeNo ← pNat 2
  let scene ← pText 12
  let opener ← pNat 1
  let state ← pNat 1
  let start ← pNat 8
  let fin ← pOpt (pNat 8)
  let marks ← pNat 1
  let note ← pOpt (pText 32)
  let ps ← pList pParticipant
  let total ← pNat 2
  let claps ← pList pClap
  match [Opener.host, .rollSense][opener]?,
      [RecState.opened, .closed, .committing, .committed][state]? with
  | some o, some st =>
    pure { session := session, index := index, unit := unit, takeNo := takeNo, scene := scene,
           opener := o, state := st, startTick := start, endTick := fin, circled := hasBit 0 marks,
           falseStart := hasBit 1 marks, timeUncertain := hasBit 2 marks, note := note,
           participants := ps, clapTotal := total, claps := claps }
  | _, _ => pFail

/-- The bytes of a take record. -/
def encodeTake (r : TakeRecord) : List Byte := encodeFields r.fields

/-- The take record of its bytes. -/
def decodeTake (bs : List Byte) : Option TakeRecord := runParse pTake bs

/-! ### Log pages (R136, section 11.5) -/

/-- The kinds of log page. -/
def pageSession : Nat := 1
/-- A page of a TAKE record. -/
def pageTake : Nat := 2
/-- An AMENDMENT page. -/
def pageAmendment : Nat := 3

/-- The 256 bytes of a log page. -/
def pageBytes (kind session index part parts : Nat) (body : List Byte) : List Byte :=
  let content := encodeFields [fByte kind, fSession session, fIndex index, fByte part, fByte parts,
      fCount body.length] ++ body ++ List.replicate (243 - body.length) (BitVec.ofNat 8 0xFF)
  content ++ leBytes 2 (crc16 content)

/-- The pages of a take record: its bytes in parts of 243, numbered from 1 (R136). -/
def takePages (r : TakeRecord) : List (List Byte) :=
  let parts := chunks 243 (encodeTake r)
  parts.zipIdx.map fun x => pageBytes pageTake r.session r.index (x.2 + 1) parts.length x.1

/-- The AMENDMENT page of an amendment. -/
def amendmentPage (a : Amendment) : List Byte :=
  pageBytes pageAmendment a.session a.index 1 1
    (encodeFields (fOpt1 fFlag a.circled ++ fOpt1 fFlag a.falseStart ++ fOpt fText a.note))

/-- A SESSION page; the cause is 0 for STARTUP and 1 for CLEARED (log entry 45). -/
def sessionPage (cause session index : Nat) (time counter : Nat) : List Byte :=
  pageBytes pageSession session index 1 1 (encodeFields [fByte cause, fTick time, fTick counter])

/-- A page's CRC matches its content. -/
def pageGood (bs : List Byte) : Bool :=
  decide (bs.length = 256) && decide (ofLeBytes (bs.drop 254) = crc16 (bs.take 254))

/-- The header of a page. -/
def pageHeader (bs : List Byte) : PageHeader :=
  { kind := ofLeBytes (bs.take 1)
    session := ofLeBytes ((bs.drop 1).take 2)
    index := ofLeBytes ((bs.drop 3).take 4)
    part := ofLeBytes ((bs.drop 7).take 1)
    parts := ofLeBytes ((bs.drop 8).take 1) }

/-- The body bytes of a page. -/
def pageBody (bs : List Byte) : List Byte := (bs.drop 11).take (ofLeBytes ((bs.drop 9).take 2))

/-- The directory entry of what a page holds: its header when its CRC matches (R137, R152). -/
def entryOf : PageData → Option PageHeader
  | .damaged => none
  | .bytes bs => if pageGood bs then some (pageHeader bs) else none

/-! ### The flash log area -/

/-- What a log page holds; none for a blank page. -/
def readPage (log : List (Nat × PageData)) (page : Nat) : Option PageData :=
  (log.find? fun x => x.1 = page).map Prod.snd

/-- A log page written; the list keeps its page numbers rising. -/
def writePage (page : Nat) (d : PageData) : List (Nat × PageData) → List (Nat × PageData)
  | [] => [(page, d)]
  | x :: xs =>
    if page < x.1 then (page, d) :: x :: xs
    else if page = x.1 then (page, d) :: xs
    else x :: writePage page d xs

/-- A blank page: every byte 0xFF (R136). -/
def blankPage : List Byte := List.replicate 256 (BitVec.ofNat 8 0xFF)

/-- The canonical form of the log area: pages in rising order, each below 8,192, none listed that
reads as blank. -/
def logWf (log : List (Nat × PageData)) : Bool :=
  decide (log.Pairwise fun a b => a.1 < b.1) &&
    log.all fun x => decide (x.1 < 8192) && decide (x.2 ≠ .bytes blankPage)

/-! ### What the store holds (R137, R147) -/

/-- The page of part `k` of a take, from the directory. -/
def partPage (dir : List (Option PageHeader)) (session index k : Nat) : Option Nat :=
  (dir.zipIdx.find? fun x => match x.1 with
    | some h => h.kind = pageTake && h.session = session && h.index = index && h.part = k
    | none => false).map Prod.snd

/-- The part count of a take, from any of its good pages. -/
def partCount (dir : List (Option PageHeader)) (session index : Nat) : Option Nat :=
  (dir.find? fun x => match x with
    | some h => h.kind = pageTake && h.session = session && h.index = index
    | none => false).join.map PageHeader.parts

/-- The pages of a complete TAKE record in part order; none when a part is missing (R137). -/
def completePages (dir : List (Option PageHeader)) (session index : Nat) : Option (List Nat) :=
  match partCount dir session index with
  | none => none
  | some n => if n = 0 then none else (List.range n).mapM fun k => partPage dir session index (k + 1)

/-- The log indices of a session held as complete records, by the page of the last part, highest
first (R147). -/
def heldIndices (dir : List (Option PageHeader)) (session : Nat) : List Nat :=
  dir.reverse.filterMap fun x => match x with
    | some h =>
      if h.kind = pageTake ∧ h.session = session ∧ h.part = h.parts ∧
        (completePages dir session h.index).isSome then some h.index else none
    | none => none

/-- The body of a written page; empty for a blank or damaged one. -/
def bodyAt (log : List (Nat × PageData)) (page : Nat) : List Byte :=
  match readPage log page with
  | some (.bytes bs) => pageBody bs
  | _ => []

/-- An amendment's fields read back from its page body. -/
def pAmendment (session index : Nat) : Parse Amendment := do
  let c ← pOpt pFlag
  let f ← pOpt pFlag
  let n ← pOpt (pText 32)
  pure ⟨session, index, c, f, n⟩

/-- An amendment applied: each present field replaces the value (R137); a present note of no
characters removes the note (R132). -/
def Amendment.apply (a : Amendment) (r : TakeRecord) : TakeRecord :=
  { r with
    circled := a.circled.getD r.circled
    falseStart := a.falseStart.getD r.falseStart
    note := match a.note with
      | none => r.note
      | some [] => none
      | some t => some t }

/-- The AMENDMENT pages of a take applied in page order (R137). -/
def amendFrom (log : List (Nat × PageData)) (session index : Nat) :
    List (Option PageHeader × Nat) → TakeRecord → TakeRecord
  | [], r => r
  | (some h, page) :: rest, r =>
    if h.kind = pageAmendment ∧ h.session = session ∧ h.index = index then
      match runParse (pAmendment session index) (bodyAt log page) with
      | some a => amendFrom log session index rest (a.apply r)
      | none => amendFrom log session index rest r
    else amendFrom log session index rest r
  | (none, _) :: rest, r => amendFrom log session index rest r

/-- The answer to a store read: the take record with its amendments, or none (R147). -/
def readTake (dir : List (Option PageHeader)) (log : List (Nat × PageData)) (session index : Nat) :
    Option TakeRecord :=
  match completePages dir session index with
  | none => none
  | some pages =>
    (decodeTake (pages.flatMap fun p => bodyAt log p)).map
      (amendFrom log session index dir.zipIdx)

end Sys2Proof.Machine
end

