-- ==== Sys2Proof/Machine/Operands.lean ====
section
/-!
DEFINITION. The operand forms of the requests: which values a request's layout can hold (R179 step
2, R184), and the reading of a request from the bytes of its frame's body. The order of the fields is
the order in which the owning rule lists them (log entry 8).
-/

namespace Sys2Proof.Machine

/-! ### What a layout holds -/

/-- An unsigned form of `w` bytes holds the value. -/
def holds (w n : Nat) : Bool := decide (n < 2 ^ (8 * w))

/-- An optional unsigned form holds the value. -/
def holdsOpt (w : Nat) : Option Nat → Bool
  | none => true
  | some n => holds w n

/-- A signed form of `w` bytes holds the value. -/
def holdsInt (w : Nat) (x : Int) : Bool := (Field.mk w true x).fits

/-- A text of at most `max` bytes. -/
def holdsText (max : Nat) (t : Text) : Bool := decide (t.length ≤ max)

/-- A label's fields each fit a byte. -/
def labelHolds (l : Label) : Bool :=
  holds 1 l.hh && holds 1 l.mm && holds 1 l.ss && holds 1 l.ff

end Sys2Proof.Machine

namespace Sys2Proof

open Machine

/-- The settings carried fit their forms. -/
def DeviceArgs.fits (a : DeviceArgs) : Bool :=
  holdsOpt 1 a.kind && holdsOpt 1 (a.att.map Prod.fst) && holdsOpt 1 (a.att.map Prod.snd) &&
  holdsOpt 1 a.unit && holdsOpt 1 a.rate && holdsOpt 1 a.audio && holdsOpt 1 a.pull &&
  holdsOpt 4 a.phase && holdsOpt 4 a.origin && holdsOpt 1 a.tolerance && holdsOpt 4 a.poll &&
  holdsOpt 1 a.periodic && holdsOpt 1 a.profile

/-- A DECLARE_DEVICE carries kind, attachment and rate code; without one it is MALFORMED (R44). -/
def DeviceArgs.complete (a : DeviceArgs) : Bool :=
  a.kind.isSome && a.att.isSome && a.rate.isSome

/-- REF_CONFIG's fields fit their forms. -/
def RefArgs.fits (a : RefArgs) : Bool :=
  holds 1 a.source && holds 1 a.rate && holds 8 a.threshold && holds 8 a.slew &&
  holds 4 a.holdover && (a.trim.map (holdsInt 4)).getD true

/-- SET_SLATE's fields fit their forms, texts within their limits. -/
def SlateArgs.fits (a : SlateArgs) : Bool :=
  holds 1 a.unit && (a.scene.map (holdsText 12)).getD true && holdsOpt 2 a.takeNo &&
  holds 1 a.rolls.length && a.rolls.all fun x => holds 1 x.1 && holdsText 8 x.2

/-- MARK_TAKE's fields fit their forms, the note within its limit. -/
def MarkArgs.fits (a : MarkArgs) : Bool :=
  holds 2 a.session && holds 4 a.index && (a.note.map (holdsText 32)).getD true

/-- WHERE_IS's fields fit their forms. -/
def WhereArgs.fits (a : WhereArgs) : Bool :=
  holds 2 a.session && holds 1 a.slot && labelHolds a.label && holds 1 a.scope &&
  holdsOpt 1 a.rate && holdsOpt 4 a.index

/-- AT_TICK's fields fit their forms. -/
def AtTickArgs.fits (a : AtTickArgs) : Bool :=
  holds 2 a.session && holds 8 a.tick && holds 1 a.scope

/-- EXPORT_TAKES's fields fit their forms. -/
def ExportArgs.fits (a : ExportArgs) : Bool :=
  holds 2 a.session && holds 4 a.start && holds 2 a.count && holds 2 a.blockSize

/-- A bias travels as a sign bit and a magnitude of 0 to 15 in the profile encoding. -/
def biasFits (b : Int) : Bool := decide (b.natAbs ≤ 15)

/-- PROFILE_POINTS's list fits its form. -/
def pointsFit (l : List (Nat × Int)) : Bool :=
  holds 1 l.length && l.all fun x => holds 1 x.1 && holdsInt 1 x.2

end Sys2Proof

namespace Sys2Proof.Machine

/-! ### Reading a request's body -/

/-- A label's four bytes. -/
def pLabel : Parse Label := do
  let h ← pNat 1
  let m ← pNat 1
  let s ← pNat 1
  let f ← pNat 1
  pure ⟨h, m, s, f⟩

/-- An attachment's type and number. -/
def pAtt : Parse (Nat × Nat) := do
  let t ← pNat 1
  let n ← pNat 1
  pure (t, n)

/-- The settings of a DECLARE_DEVICE (with the kind) or a SET_DEVICE (without), in R42's order. -/
def pDevice (withKind : Bool) : Parse DeviceArgs := do
  let kind ← if withKind then pOpt (pNat 1) else pure none
  let att ← pOpt pAtt
  let unit ← pOpt (pNat 1)
  let rate ← pOpt (pNat 1)
  let audio ← pOpt (pNat 1)
  let pull ← pOpt (pNat 1)
  let phase ← pOpt (pNat 4)
  let origin ← pOpt (pNat 4)
  let autoRoll ← pOpt pFlag
  let tolerance ← pOpt (pNat 1)
  let poll ← pOpt (pNat 4)
  let periodic ← pOpt (pNat 1)
  let quiet ← pOpt pFlag
  let profile ← pOpt (pNat 1)
  pure { kind := kind, att := att, unit := unit, rate := rate, audio := audio, pull := pull,
         phase := phase, origin := origin, autoRoll := autoRoll, tolerance := tolerance,
         poll := poll, periodic := periodic, quiet := quiet, profile := profile }

/-- A bias byte: bits 4 to 6 zero, else MALFORMED (section 11.5). -/
def pBias : Parse Int := do
  let n ← pNat 1
  if n / 16 % 8 ≠ 0 then pFail
  else pure (if 128 ≤ n then -((n % 16 : Nat) : Int) else ((n % 16 : Nat) : Int))

/-- A point: interval code, then level. -/
def pPoint : Parse (Nat × Int) := do
  let c ← pNat 1
  let l ← pInt 1
  pure (c, l)

/-- A roll name pair: slot, then name. -/
def pRoll : Parse (Nat × Text) := do
  let s ← pNat 1
  let t ← pText 8
  pure (s, t)

/-- A command with one field. -/
def pOne (p : Parse α) (f : α → Instr) : Parse Instr := do
  let a ← p
  pure (f a)

/-- The fields of a REF_CONFIG. -/
def pRefConfig : Parse RefArgs := do
  let source ← pNat 1
  let rate ← pNat 1
  let ltc ← pFlag
  let threshold ← pNat 8
  let slew ← pNat 8
  let holdover ← pNat 4
  let trim ← pOpt (pInt 4)
  pure ⟨source, rate, ltc, threshold, slew, holdover, trim⟩

/-- The fields of a SET_SLATE. The roll name pairs travel as a plain list with no presence byte, empty
when none are carried (log entry 8). -/
def pSlate : Parse SlateArgs := do
  let unit ← pNat 1
  let scene ← pOpt (pText 12)
  let takeNo ← pOpt (pNat 2)
  let rolls ← pList pRoll
  pure ⟨unit, scene, takeNo, rolls⟩

/-- The fields of a MARK_TAKE. -/
def pMark : Parse MarkArgs := do
  let session ← pNat 2
  let index ← pNat 4
  let c ← pOpt pFlag
  let f ← pOpt pFlag
  let n ← pOpt (pText 32)
  pure ⟨session, index, c, f, n⟩

/-- The fields of a WHERE_IS. -/
def pWhere : Parse WhereArgs := do
  let session ← pNat 2
  let slot ← pNat 1
  let label ← pLabel
  let scope ← pNat 1
  let rate ← pOpt (pNat 1)
  let index ← pOpt (pNat 4)
  pure ⟨session, slot, label, scope, rate, index⟩

/-- The fields of an AT_TICK. -/
def pAtTick : Parse AtTickArgs := do
  let session ← pNat 2
  let tick ← pNat 8
  let scope ← pNat 1
  pure ⟨session, tick, scope⟩

/-- The fields of an EXPORT_TAKES. -/
def pExport : Parse ExportArgs := do
  let session ← pNat 2
  let start ← pNat 4
  let count ← pNat 2
  let size ← pNat 2
  let follow ← pFlag
  pure ⟨session, start, count, size, follow⟩

/-- A slot, then the settings. -/
def pSlotDevice (withKind : Bool) (f : Nat → DeviceArgs → Instr) : Parse Instr := do
  let slot ← pNat 1
  let a ← pDevice withKind
  pure (f slot a)

/-- A slot, then an optional label. -/
def pJam (q : Req) : Parse Instr := do
  let slot ← pNat 1
  let l ← pOpt pLabel
  pure (.jamDevice q slot l)

/-- A line, then on or off. -/
def pLineEnable (q : Req) : Parse Instr := do
  let line ← pNat 1
  let on ← pFlag
  pure (.lineEnable q line on)

/-- A profile number, a point count and a bias. -/
def pProfileBegin (q : Req) : Parse Instr := do
  let n ← pNat 1
  let count ← pNat 1
  let bias ← pBias
  pure (.profileBegin q n count bias)

/-- A profile number and a list of points. -/
def pProfilePoints (q : Req) : Parse Instr := do
  let n ← pNat 1
  let points ← pList pPoint
  pure (.profilePoints q n points)

/-- The body of a request of each kind of the catalogue (R183); none for a kind that is no request
kind. -/
def requestParser (q : Req) (kind : Nat) : Option (Parse Instr) :=
  match kind with
  | 0x01 => some (pure (.timeNow q))
  | 0x02 => some (pOne pRefConfig (.refConfig q))
  | 0x03 => some (pOne (pNat 1) (.setHouseRate q))
  | 0x04 => some (pOne pLabel (.setOrigin q))
  | 0x05 => some (pSlotDevice true (.declareDevice q))
  | 0x06 => some (pSlotDevice false (.setDevice q))
  | 0x07 => some (pOne (pNat 1) (.removeDevice q))
  | 0x08 => some (pOne (pNat 1) (.deviceStatus q))
  | 0x09 => some (pJam q)
  | 0x0A => some (pLineEnable q)
  | 0x0B => some (pProfileBegin q)
  | 0x0C => some (pProfilePoints q)
  | 0x0D => some (pOne (pNat 1) (.profileRead q))
  | 0x0E => some (pOne pFlag (.radioEnable q))
  | 0x0F => some (pure (.radioStatus q))
  | 0x10 => some (pOne pSlate (.setSlate q))
  | 0x11 => some (pOne (pNat 1) (.unitStatus q))
  | 0x12 => some (pOne (pNat 1) (.startTake q))
  | 0x13 => some (pOne (pNat 1) (.endTake q))
  | 0x14 => some (pOne pMark (.markTake q))
  | 0x15 => some (pure (.takeTableStatus q))
  | 0x16 => some (pOne (pNat 4) (.setCommitDelay q))
  | 0x17 => some (pure (.flush q))
  | 0x18 => some (pure (.clearLog q))
  | 0x19 => some (pure (.saveSettings q))
  | 0x1A => some (pure (.storeStatus q))
  | 0x1B => some (pOne pWhere (.whereIs q))
  | 0x1C => some (pOne pAtTick (.atTick q))
  | 0x1D => some (pOne pExport (.exportTakes q))
  | 0x1E => some (pure (.cancelExport q))
  | _ => none

/-! ### Frames and the writing of a request's body -/

/-- A complete frame: its kind code, more-frames flag, tag and body. -/
structure Frame where
  kind : Nat
  more : Bool
  tag  : Nat
  body : List Byte
  deriving DecidableEq, Repr

/-- An attachment's type and number. -/
def attFields (x : Nat × Nat) : List Field := [fByte x.1, fByte x.2]

/-- The settings of a DECLARE_DEVICE (with the kind) or a SET_DEVICE (without), in R42's order. -/
def deviceFields (withKind : Bool) (a : DeviceArgs) : List Field :=
  (if withKind then fOpt1 fByte a.kind else []) ++ fOpt attFields a.att ++ fOpt1 fByte a.unit ++
  fOpt1 fByte a.rate ++ fOpt1 fByte a.audio ++ fOpt1 fByte a.pull ++ fOpt1 (uint 4) a.phase ++
  fOpt1 (uint 4) a.origin ++ fOpt1 fFlag a.autoRoll ++ fOpt1 fByte a.tolerance ++
  fOpt1 fLong a.poll ++ fOpt1 fByte a.periodic ++ fOpt1 fFlag a.quiet ++ fOpt1 fByte a.profile

/-- A request's kind code and the fields of its body (R183, R184); none for an event. -/
def requestFields : Instr → Option (Nat × List Field)
  | .timeNow _ => some (0x01, [])
  | .refConfig _ a => some (0x02, [fByte a.source, fByte a.rate, fFlag a.ltcOrigin,
      fTick a.threshold, fTick a.slew, fLong a.holdover] ++ fOpt1 fSigned a.trim)
  | .setHouseRate _ c => some (0x03, [fByte c])
  | .setOrigin _ l => some (0x04, fLabel l)
  | .declareDevice _ n a => some (0x05, fByte n :: deviceFields true a)
  | .setDevice _ n a => some (0x06, fByte n :: deviceFields false a)
  | .removeDevice _ n => some (0x07, [fByte n])
  | .deviceStatus _ n => some (0x08, [fByte n])
  | .jamDevice _ n l => some (0x09, fByte n :: fOpt fLabel l)
  | .lineEnable _ n on => some (0x0A, [fByte n, fFlag on])
  | .profileBegin _ n c b => some (0x0B, [fByte n, fByte c, fByte (biasCode b)])
  | .profilePoints _ n l => some (0x0C, fByte n :: fList (fun x => [fByte x.1, fLevel x.2]) l)
  | .profileRead _ n => some (0x0D, [fByte n])
  | .radioEnable _ on => some (0x0E, [fFlag on])
  | .radioStatus _ => some (0x0F, [])
  | .setSlate _ a => some (0x10, fByte a.unit :: fOpt fText a.scene ++ fOpt1 fCount a.takeNo ++
      fList (fun x => fByte x.1 :: fText x.2) a.rolls)
  | .unitStatus _ u => some (0x11, [fByte u])
  | .startTake _ u => some (0x12, [fByte u])
  | .endTake _ u => some (0x13, [fByte u])
  | .markTake _ a => some (0x14, [fSession a.session, fIndex a.index] ++ fOpt1 fFlag a.circled ++
      fOpt1 fFlag a.falseStart ++ fOpt fText a.note)
  | .takeTableStatus _ => some (0x15, [])
  | .setCommitDelay _ n => some (0x16, [fLong n])
  | .flush _ => some (0x17, [])
  | .clearLog _ => some (0x18, [])
  | .saveSettings _ => some (0x19, [])
  | .storeStatus _ => some (0x1A, [])
  | .whereIs _ a => some (0x1B, [fSession a.session, fByte a.slot] ++ fLabel a.label ++
      [fByte a.scope] ++ fOpt1 fByte a.rate ++ fOpt1 fIndex a.index)
  | .atTick _ a => some (0x1C, [fSession a.session, fTick a.tick, fByte a.scope])
  | .exportTakes _ a => some (0x1D, [fSession a.session, fIndex a.start, fCount a.count,
      fCount a.blockSize, fFlag a.follow])
  | .cancelExport _ => some (0x1E, [])
  | .reset _ _ _ _ | .settingsApply | .logScanPageRead | .scanComplete _ _ | .originBoundary
  | .unknownRequest _ _ | .frameGapTimeout _ | .messageSent _ | .referenceEdge _
  | .acquisitionTimeout | .referenceLoss | .holdoverExpiry | .lineFrameEdge _
  | .lineSenseChange _ _ | .runSenseChange _ _ | .beaconMark | .pollDue _ | .periodicExpiry _
  | .slotStart | .echoReceived _ _ | .transactionEnd | .commitDelayExpiry | .pageWriteCheck _
  | .storeReadDone | .settingsWriteDone _ | .logEraseDone _ | .portByteReceived _ _ _ => none

end Sys2Proof.Machine
end

