-- ==== Sys2Proof/WellFormed.lean ====
section
/-!
DEFINITION. Well-formed commands: the values that can arrive. A request's fields are those its
layout can hold (R184), for no frame spells another; an event names a line, a slot or a page that
exists. Whether a value lies in its range is the owning rule's check, not this one's.
-/

namespace Sys2Proof

open Machine

/-- The header of a request frame: the tag is one byte (R178). -/
def Req.wf (q : Req) : Bool := holds 1 q.tag

/-- The fields of an ECHO lie in the ranges of the packet table (section 5.2). -/
def Echo.wf (e : Echo) : Bool :=
  decide (1 ≤ e.address ∧ e.address ≤ 250) && holds 1 e.beacon && holds 4 e.frames &&
  holds 2 e.phase && holds 4 e.age && (e.clap.map fun c => holds 4 c.1 && holds 2 c.2).getD true &&
  holds 1 e.clapCount

/-- What an edge carries fits a label's four bytes. -/
def EdgeInput.wf : EdgeInput → Bool
  | .housePulse => true
  | .timecode l => labelHolds l

/-- A page of the log area (R136). -/
def pageOk (n : Nat) : Bool := decide (n < 8192)

/-- A line number (R56). -/
def lineOk (n : Nat) : Bool := decide (n < 16)

/-- A device slot (R42). -/
def slotOk (n : Nat) : Bool := decide (n < 32)

/-- The command can arrive. -/
def Instr.wf : Instr → Bool
  | .reset _ _ _ erased => erased.all pageOk
  | .settingsApply | .logScanPageRead | .scanComplete _ _ | .originBoundary => true
  | .timeNow q | .radioStatus q | .takeTableStatus q | .flush q | .clearLog q | .saveSettings q
  | .storeStatus q | .cancelExport q => q.wf
  | .refConfig q a => q.wf && a.fits
  | .setHouseRate q c => q.wf && holds 1 c
  | .setOrigin q l => q.wf && labelHolds l
  | .declareDevice q n a => q.wf && holds 1 n && a.fits
  | .setDevice q n a => q.wf && holds 1 n && a.fits && a.kind.isNone
  | .removeDevice q n | .deviceStatus q n | .profileRead q n | .unitStatus q n | .startTake q n
  | .endTake q n => q.wf && holds 1 n
  | .jamDevice q n l => q.wf && holds 1 n && (l.map labelHolds).getD true
  | .lineEnable q n _ => q.wf && holds 1 n
  | .profileBegin q n c b => q.wf && holds 1 n && holds 1 c && biasFits b
  | .profilePoints q n l => q.wf && holds 1 n && pointsFit l
  | .radioEnable q _ => q.wf
  | .setSlate q a => q.wf && a.fits
  | .markTake q a => q.wf && a.fits
  | .setCommitDelay q n => q.wf && holds 4 n
  | .whereIs q a => q.wf && a.fits
  | .atTick q a => q.wf && a.fits
  | .exportTakes q a => q.wf && a.fits
  | .unknownRequest q kind => q.wf && decide (kind < 128) && (requestParser q kind).isNone
  | .frameGapTimeout _ | .messageSent _ | .acquisitionTimeout | .referenceLoss | .holdoverExpiry
  | .beaconMark | .slotStart | .transactionEnd | .commitDelayExpiry | .pageWriteCheck _
  | .storeReadDone | .settingsWriteDone _ | .portByteReceived _ _ _ => true
  | .referenceEdge e => e.wf
  | .lineFrameEdge n | .lineSenseChange n _ | .runSenseChange n _ => lineOk n
  | .pollDue n | .periodicExpiry n => slotOk n
  | .echoReceived e _ => e.wf
  | .logEraseDone failed => (failed.map pageOk).getD true

end Sys2Proof
end

