-- ==== Sys2Proof/Decode.lean ====
section
/-!
DEFINITION. Words of the table, and requests from frames. The table of operations and events gives
no row any bits, so no word spells a command; a request is spelled by the frame that carries it
(R178, R184).
-/

namespace Sys2Proof

open Machine

/-- The command a word of the table spells: none, for no row of the table has bits. -/
def decodeTableWord (_nbits _w : Nat) : Option Instr := none

/-- The request that a complete frame spells at a port (R179, step 2). -/
def decodeRequest (p : Port) (f : Frame) : Option Instr :=
  match requestParser ⟨p, f.tag, f.more⟩ f.kind with
  | some parser => runParse parser f.body
  | none => none

end Sys2Proof
end

