-- ==== Sys2Proof/Machine/Ports.lean ====
section
/-!
DEFINITION. The message ports (R177 to R185): the receive framer, taking a request, and the
transmitter. Every meaning ends in `finish`, which lets each free transmitter choose its next message.
-/

namespace Sys2Proof.Machine

/-! ### The transmitter (R181) -/

/-- The wire message of a notice: tag 0, the gap count, then the fields (R178, R182). -/
def Notice.message (n : Notice) : Message := ⟨n.kind, 0, fCount n.gap :: n.body⟩

/-- The request of a reply leaves its port's list (R181); a query that waits for the context is
another request and stays. -/
def dropOutstanding (r : Reply) (l : List Outstanding) : List Outstanding :=
  if r.listed then
    l.eraseP fun o => o.kind + 0x20 = r.msg.kind && o.tag = r.msg.tag && o.query.isNone
  else l

/-- The oldest formed reply begins transmission when the transmitter is free (R181). -/
def PortState.sendReply (x : PortState) : PortState :=
  match x.tx, x.replies with
  | none, r :: rs =>
    { x with tx := some (.reply r), replies := rs, outstanding := dropOutstanding r x.outstanding }
  | _, _ => x

/-- The control port's transmitter chooses: a reply, then the notice at the head (R181). -/
def State.pumpControl (s : State) : State :=
  let s := { s with control := s.control.sendReply }
  match s.control.tx, s.notices with
  | none, n :: ns => { s with control := { s.control with tx := some (.notice n.message) },
                              notices := ns }
  | _, _ => s

/-- The suite port's transmitter chooses: a reply, then the export message handed to it (R181). -/
def State.pumpSuite (s : State) : State :=
  let s := { s with suite := s.suite.sendReply }
  match s.suite.tx, s.exporter.handed with
  | none, some m => { s with suite := { s.suite with tx := some (.exported m) } }
  | _, _ => s

/-- Both transmitters choose when they are free (R181). -/
def State.pump (s : State) : State := s.pumpControl.pumpSuite

/-- The end of every meaning: the event's messages reach the transmitters. -/
def finish (s : State) : Out := .next s.pump

/-! ### Taking a request (R179) -/

/-- The permission classes of R179. -/
inductive Class where
  | both | control | suite
  deriving DecidableEq, Repr

/-- The class admits the port. -/
def Class.admits : Class → Port → Bool
  | .both, _ => true
  | .control, p => decide (p = .control)
  | .suite, p => decide (p = .suite)

/-- A request joins its port's list of outstanding requests (R179, step 4). -/
def State.enlist (s : State) (q : Req) (kind : Nat) (query : Option Query := none) : State :=
  s.modPort q.port fun x => { x with outstanding := x.outstanding ++ [⟨kind, q.tag, query⟩] }

/-- The layout of a frame's header and body fits the request (R179, step 2). -/
def reqFits (q : Req) (layout : Bool) : Bool := !q.more && holds 1 q.tag && layout

/-- The checks of R179 in their order: a full list, a layout that does not fit, a class that does not
let the port in; then the request is handed to its owner. -/
def State.admitWith (s : State) (q : Req) (kind : Nat) (c : Class) (layout : Bool)
    (own : State → State) : State :=
  if 4 ≤ (s.port q.port).outstanding.length then s.portReply q.port kind q.tag .queueFull
  else if !reqFits q layout then s.portReply q.port kind q.tag .malformed
  else if !c.admits q.port then s.portReply q.port kind q.tag .notPermitted
  else own s

/-- A request other than a conform query: it enters the list, and its owner's rule applies. -/
def State.admitted (s : State) (q : Req) (kind : Nat) (c : Class) (layout : Bool)
    (own : State → State) : State :=
  s.admitWith q kind c layout fun s => own (s.enlist q kind)

/-- A status and the fields of the reply that a short request is answered with at once (R180). -/
abbrev Answer := Status × List Field

/-- A short request that changes nothing: its owner only answers. -/
def State.ask (s : State) (q : Req) (kind : Nat) (layout : Bool) (answer : State → Answer) :
    State :=
  s.admitted q kind .both layout fun s => s.reply q.port kind q.tag (answer s).1 (answer s).2

/-! ### The receive framer (R177) -/

/-- The states of a receive framer. -/
inductive FramerState where
  | hunt | length | body | check
  deriving DecidableEq, Repr

/-- The length field of a frame whose bytes after the start byte are given. -/
def frameLength (bs : List Byte) : Nat := ofLeBytes (bs.take 2)

/-- The framer's state, read from the bytes received since the start byte. -/
def framerState : List Byte → FramerState
  | [] => .hunt
  | _ :: rest =>
    if rest.length < 2 then .length
    else if rest.length < 2 + frameLength rest then .body else .check

/-- The frame of its bytes after the start byte, length and CRC included. -/
def frameFrom (bs : List Byte) : Frame :=
  let inner := (bs.drop 2).take (frameLength bs)
  let k := ofLeBytes (inner.take 1)
  ⟨k % 128, decide (128 ≤ k), ofLeBytes ((inner.drop 1).take 1), inner.drop 2⟩

/-- What the framer makes of received bytes: the complete frames, in order, and the bytes of a frame
still being received. A discarded frame's search is resumed at the byte after its start byte (R177). -/
def scanFrames : Nat → List Byte → List Frame × List Byte
  | 0, _ => ([], [])
  | _ + 1, [] => ([], [])
  | fuel + 1, b :: rest =>
    if b ≠ BitVec.ofNat 8 0xA5 then scanFrames fuel rest
    else if rest.length < 2 then ([], b :: rest)
    else
      let n := frameLength rest
      if n < 2 ∨ 1024 < n then scanFrames fuel rest
      else if rest.length < n + 4 then ([], b :: rest)
      else if ofLeBytes ((rest.drop (n + 2)).take 2) = crc16 (rest.take (n + 2)) then
        let r := scanFrames fuel (rest.drop (n + 4))
        (frameFrom rest :: r.1, r.2)
      else scanFrames fuel rest

/-- A gap or a framing failure discards the frame being received, and with it every frame that
began inside it and is not complete: complete frames found on the way are taken (R177). -/
def flushFrames : Nat → List Byte → List Frame
  | 0, _ => []
  | fuel + 1, bs =>
    let r := scanFrames bs.length.succ bs
    match r.2 with
    | [] => r.1
    | _ :: rest => r.1 ++ flushFrames fuel rest

end Sys2Proof.Machine
end

