-- ==== Sys2Proof/Machine/Reference.lean ====
section
/-!
DEFINITION. The reference unit and the timeline's requests (The Reference Unit; R2, R3): the counter,
acquisition, correction, trim, holdover, the house origin and TIME_NOW.
-/

namespace Sys2Proof.Machine

/-! ### The counter (R26) -/

/-- The denominator of the running total: every gain of R26 is a whole number of its parts, for
10^8 and every frame period of R4 divide it. -/
def totalParts : Nat := 300300000000

/-- What the running total gains at one oscillator tick: 1, the trim where the state uses it, and
the correction in progress spread over its period (R26). -/
def RefUnit.gain (r : RefUnit) : Int :=
  totalParts + (if r.state = .locked then 0 else r.set.trim * (totalParts / 100000000 : Nat)) +
    match r.correction with
    | some c => c.ticks * (totalParts / c.period : Nat)
    | none => 0

/-- One oscillator tick of the running total; at its largest value the counter stays (R26). -/
def Clock.advance (c : Clock) (gain : Int) : Clock :=
  let total := ((c.counter * totalParts + c.frac : Nat) + gain).toNat
  if maxCounter * totalParts ≤ total then ⟨maxCounter, 0⟩
  else ⟨total / totalParts, total % totalParts⟩

/-- The correction after one oscillator tick: none once its period has run (R31). -/
def Correction.next (c : Correction) : Option Correction :=
  if c.left ≤ 1 then none else some { c with left := c.left - 1 }

/-- The last multiple of `m` that house time passes or reaches going from `t0` to `t1`. -/
def reached (m t0 t1 : Nat) : Option Nat := if t0 < t1 / m * m then some (t1 / m * m) else none

/-- The frame edge of a line's device that house time reaches going from `t0` to `t1` (R8, R57). -/
def State.edgeReached (s : State) (l : Line) (t0 t1 : Nat) : Option Nat :=
  match l.state, l.bound.bind s.dev with
  | .active, some d =>
    (reached (periodOf d.set.rate) (t0 + d.set.phase) (t1 + d.set.phase)).map
      fun x => x - d.set.phase
  | _, _ => none

/-- One value in place of another only when there is one. -/
def orElseKeep (new old : Option Nat) : Option Nat := if new.isSome then new else old

/-- One oscillator tick: the counter advances, and the marks, slot boundaries and frame edges that
the house time reaches become due (R26, R76, R77, R57). -/
def State.tick (s : State) : State :=
  let c := s.clock.advance s.ref.gain
  let t0 := s.houseTime
  let t1 := c.counter + s.origin
  { s with
    clock := c
    ref := { s.ref with correction := s.ref.correction.bind Correction.next }
    radio := { s.radio with
      markDue := orElseKeep (reached ticksPerSecond t0 t1) s.radio.markDue
      slotDue := orElseKeep (reached ticksPerSlot t0 t1) s.radio.slotDue }
    lines := s.lines.map fun l => { l with edgeDue := orElseKeep (s.edgeReached l t0 t1) l.edgeDue } }

/-! ### Steps and origins -/

/-- A source from its code. -/
def sourceOf (n : Nat) : Option Source := [Source.internal, .housePulse, .ltcIn][n]?

/-- P_ref (R23). -/
def RefUnit.period (r : RefUnit) : Nat := periodOf r.set.rate

/-- A REF_STATE notice (section 11.5). -/
def State.noteRef (s : State) (old : RefState) : State :=
  s.notify 0x42 [fByte old.code, fByte s.ref.state.code, fByte s.ref.set.source.code,
    fTick s.clock.counter, fTick s.houseTime]

/-- A step of the counter by `a` ticks, at most to its largest value, handed to every block, with
its TIME_STEP notice (R32, R33). `held` says that a take had held it back. -/
def State.stepCounter (s : State) (a : Nat) (held : Bool) : State :=
  let before := s.clock.counter
  let after := min (before + a) maxCounter
  let s1 := { s with clock := ⟨after, if after = maxCounter then 0 else s.clock.frac⟩ }
  let s2 := s1.timeChange (after - before : Nat)
  s2.notify 0x43 ([fTick (after - before : Nat), fTick before, fTick after, fTick s2.houseTime] ++
    fLabel (houseLabel s.house s2.houseTime) ++ [fFlag held])

/-- A new origin taking effect at counter value `c`; one equal to the old changes nothing and raises
no notice. The cause is 0 for HOST and 1 for LTC (R39). -/
def State.setOriginAt (s : State) (new : Nat) (c : Int) (cause : Nat) : State :=
  if new = s.origin then s
  else
    let s1 := ({ s with origin := new }).timeChange ((new : Int) - s.origin)
    s1.notify 0x44 ([fTick s.origin, fTick new, fByte cause, fTick c] ++
      fLabel (houseLabel s.house (c + new)))

/-! ### Edges in LOCKED (R30 to R34, R40) -/

/-- The error of an edge taken now (R27). -/
def State.edgeError (s : State) : Int := reduceError s.ref.period s.houseTime

/-- The correction begun at a used edge: −e limited to the slew limit (R31). -/
def RefSettings.slewOf (r : RefSettings) (e : Int) : Int := clamp (-(r.slew : Int)) r.slew (-e)

/-- The edge is corrected by slewing: its error is within the threshold, or a take is open (R31). -/
def State.slews (s : State) (e : Int) : Bool :=
  decide (e.natAbs ≤ s.ref.set.threshold) || s.anyTakeOpen

/-- A used edge with error `e` becomes the last used edge and is corrected by slewing (R31). -/
def State.slewEdge (s : State) (e : Int) (label : Option Nat) : State :=
  { s with ref := { s.ref with
      lastUsed := some ⟨s.clock.counter, label, e⟩
      correction := some ⟨s.ref.set.slewOf e, s.ref.period, s.ref.period⟩
      begun := s.ref.set.slewOf e
      pendingStep := decide (s.ref.set.threshold < e.natAbs) } }

/-- A used edge with error `e` is corrected by a forward step of (−e) mod P_ref (R32). -/
def State.stepEdge (s : State) (e : Int) (label : Option Nat) : State :=
  let s1 := s.stepCounter ((-e) % s.ref.period).toNat s.ref.pendingStep
  { s1 with ref := { s1.ref with
      lastUsed := some ⟨s1.clock.counter, label, 0⟩
      correction := none
      begun := 0
      pendingStep := false } }

/-- A used edge is corrected by R31 or R32. -/
def State.correctEdge (s : State) (e : Int) (label : Option Nat) : State :=
  if s.slews e then s.slewEdge e label else s.stepEdge e label

/-- The mean correction over the list, in 0.01 ppm, limited (R34). -/
def trimOf (p : Nat) (l : List (Int × Nat)) : Int :=
  clamp (-5000) 5000
    (roundDiv (100000000 * (l.map Prod.fst).sum) (p * (l.map fun x => (x.2 : Int)).sum))

/-- The period that ends at a used edge enters the correction list, and the trim is recomputed. A
correction that has not run its whole period counts 0 (R34). -/
def RefUnit.closePeriod (r : RefUnit) (m : Nat) : RefUnit :=
  let l := r.list ++ [(if r.correction.isSome then 0 else r.begun, m)]
  let l := l.drop (l.length - 64)
  { r with list := l, set := { r.set with trim := trimOf r.period l } }

/-- The origin taken from timecode at a used edge (R40): `prev` is the label frame of the used edge
before it, `m` the edge's period count, `c` the counter at its nominal time after its correction. -/
def State.takeLtcOrigin (s : State) (prev label : Option Nat) (m : Nat) (c : Int) : State :=
  match prev, label with
  | some p, some n =>
    if s.ref.set.source = .ltcIn ∧ s.ref.pendingOrigin ∧
        n = (p + m) % dayOf s.ref.set.rate ∧ !s.anyTakeOpen then
      match originFor s.ref.set.rate n c s.origin with
      | some o =>
        ({ s with ref := { s.ref with pendingOrigin := false } }).setOriginAt o c 1
      | none => s
    else s
  | _, _ => s

/-- A used edge corrected, and the origin taken at it when R40 allows. -/
def State.useEdge (s : State) (prev label : Option Nat) (m : Nat) : State :=
  let e := s.edgeError
  let s1 := s.correctEdge e label
  s1.takeLtcOrigin prev label m
    (if s.slews e then (s.clock.counter : Int) - e else s1.clock.counter)

/-! ### Acquisition (R28, R29) -/

/-- The first edge of a run, from FREE or HOLDOVER (R28). -/
def State.startAcquiring (s : State) (label : Option Nat) : State :=
  let old := s.ref.state
  let s1 := { s with ref := { s.ref with
    state := .acquiring
    holdoverStart := none
    run := some ⟨1, s.edgeError, s.clock.counter, label⟩ } }
  s1.noteRef old

/-- Entry into LOCKED at the eighth edge of a run (R29); `prev` is the seventh edge's label. -/
def State.enterLocked (s : State) (prev label : Option Nat) : State :=
  let s1 := { s with ref := { s.ref with
    state := .locked
    run := none
    list := []
    pendingOrigin := s.ref.pendingOrigin ||
      (decide (s.ref.set.source = Source.ltcIn) && s.ref.set.ltcOrigin) } }
  (s1.noteRef .acquiring).useEdge prev label 1

/-- An edge joins a run: its interval is regular with m = 1, and its error lies within 2 ticks of the
first edge's (R28). -/
def State.joinsRun (s : State) (r : Run) : Bool :=
  regular s.ref.period 1 (s.clock.counter - r.last) &&
    decide ((reduceError s.ref.period (s.edgeError - r.firstErr)).natAbs ≤ 2)

/-- An edge in ACQUIRING (R28). -/
def State.acquireEdge (s : State) (label : Option Nat) : State :=
  let fresh : Run := ⟨1, s.edgeError, s.clock.counter, label⟩
  match s.ref.run with
  | none => { s with ref := { s.ref with run := some fresh } }
  | some r =>
    if s.joinsRun r then
      if r.edges = 7 then s.enterLocked r.label label
      else { s with ref := { s.ref with
        run := some { r with edges := r.edges + 1, last := s.clock.counter, label := label } } }
    else { s with ref := { s.ref with run := some fresh } }

/-- An edge in LOCKED: used when its interval from the last used edge is regular, else ignored
(R30). -/
def State.lockedEdge (s : State) (label : Option Nat) : State :=
  match s.ref.lastUsed with
  | none => s
  | some u =>
    match regularCount s.ref.period (s.clock.counter - u.counter) with
    | none => s
    | some m => ({ s with ref := s.ref.closePeriod m }).useEdge u.label label m

/-- The input belongs to the current source (R25). -/
def edgeBelongs : Source → EdgeInput → Bool
  | .housePulse, .housePulse => true
  | .ltcIn, .timecode _ => true
  | _, _ => false

/-- The label frame of a timecode edge, none for the invalid mark and for a house pulse (R16). -/
def edgeLabel (rate : Nat) : EdgeInput → Option Nat
  | .housePulse => none
  | .timecode l => if labelOk rate l then some (frameOf rate l) else none

/-- REFERENCE_EDGE (R25, R28 to R32, R40). -/
def execReferenceEdge (e : EdgeInput) (s : State) : Out :=
  finish (
    if edgeBelongs s.ref.set.source e then
      let label := edgeLabel s.ref.set.rate e
      match s.ref.state with
      | .free | .holdover => s.startAcquiring label
      | .acquiring => s.acquireEdge label
      | .locked => s.lockedEdge label
    else s)

/-- The wait of 4·P_ref counter ticks after an edge has run out (R28, R35). R23 uses P_ref with an
external source only; that a wait which SETTINGS_APPLY leaves running with the source INTERNAL runs on
P_ref of the stored rate code is the model's choice (log entry 23). -/
def State.waitedOut (s : State) (since : Nat) : Bool :=
  decide (since + 4 * s.ref.period ≤ s.clock.counter)

/-- The acquisition run's wait is over (R28). -/
def State.acquisitionTimedOut (s : State) : Bool :=
  decide (s.ref.state = .acquiring) && (s.ref.run.map fun r => s.waitedOut r.last) = some true

/-- ACQUISITION_TIMEOUT: the run is emptied, and the state stays (R28). -/
def execAcquisitionTimeout (s : State) : Out :=
  finish (if s.acquisitionTimedOut then { s with ref := { s.ref with run := none } } else s)

/-- No used edge has come for 4·P_ref counter ticks in LOCKED (R35). -/
def State.referenceLost (s : State) : Bool :=
  decide (s.ref.state = .locked) && (s.ref.lastUsed.map fun u => s.waitedOut u.counter) = some true

/-- REFERENCE_LOSS: entry into HOLDOVER (R35). -/
def execReferenceLoss (s : State) : Out :=
  finish (
    if s.referenceLost then
      State.noteRef { s with ref := { s.ref with
        state := .holdover, holdoverStart := some s.clock.counter, list := [] } } .locked
    else s)

/-- The holdover limit has run out (R36). -/
def State.holdoverExpired (s : State) : Bool :=
  decide (s.ref.state = .holdover) &&
    (s.ref.holdoverStart.map fun c =>
      decide (c + s.ref.set.holdover * ticksPerSecond ≤ s.clock.counter)) = some true

/-- HOLDOVER_EXPIRY: the state becomes FREE (R36). -/
def execHoldoverExpiry (s : State) : Out :=
  finish (
    if s.holdoverExpired then
      State.noteRef { s with ref := { s.ref with state := .free, holdoverStart := none } } .holdover
    else s)

/-! ### Requests -/

/-- The fields of a TIME_NOW reply in R41's order. The settings among them are the ones in force, also
before the start-up read when an early REF_CONFIG has replaced the defaults of which R41 speaks (log
entry 49). -/
def State.timeNowFields (s : State) : List Field :=
  [fTick s.clock.counter, fTick s.houseTime, fTick s.origin, fByte s.house] ++
  fLabel (houseLabel s.house s.houseTime) ++
  [fByte (houseSub s.house s.houseTime), fByte s.ref.set.source.code, fByte s.ref.set.rate,
   fByte s.ref.state.code, fSigned s.ref.set.trim] ++
  fOpt1 fSigned (if s.ref.state = .locked then s.ref.lastUsed.map UsedEdge.err else none) ++
  fOpt1 fCount (if s.ref.state = .acquiring then some ((s.ref.run.map Run.edges).getD 0) else none) ++
  [fFlag s.ref.pendingStep, fFlag s.ref.pendingOrigin, fFlag s.ref.waiting.isSome]

/-- TIME_NOW (R41). -/
def execTimeNow (q : Req) (s : State) : Out :=
  finish (s.ask q 0x01 true fun s => (.ok, s.timeNowFields))

/-- The fields of a REF_CONFIG lie in their ranges (R24). -/
def RefArgs.inRange (a : RefArgs) : Bool :=
  decide (a.source ≤ 2) &&
  decide (1 ≤ a.rate ∧ a.rate ≤ (if a.source = 2 then 6 else 17)) &&
  decide (1 ≤ a.threshold ∧ a.threshold ≤ 10000) && decide (1 ≤ a.slew ∧ a.slew ≤ 100) &&
  decide (10 ≤ a.holdover ∧ a.holdover ≤ 3600) &&
  (a.trim.map fun t => decide (-5000 ≤ t ∧ t ≤ 5000)).getD true

/-- An accepted REF_CONFIG: the settings replaced, the live state restarted (R24). -/
def RefUnit.configure (r : RefUnit) (a : RefArgs) : RefUnit :=
  let src := (sourceOf a.source).getD .internal
  { r with
    set := ⟨src, a.rate, a.ltcOrigin, a.threshold, a.slew, a.holdover, a.trim.getD r.set.trim⟩
    state := if src = .internal then .free else .acquiring
    run := none
    lastUsed := none
    correction := none
    begun := 0
    list := []
    holdoverStart := none
    pendingStep := false
    pendingOrigin := false }

/-- REF_CONFIG (R24). -/
def execRefConfig (q : Req) (a : RefArgs) (s : State) : Out :=
  finish (s.admitted q 0x02 .control a.fits fun s =>
    if RefArgs.inRange a then
      (State.noteRef { s with ref := s.ref.configure a } s.ref.state).reply q.port 0x02 q.tag .ok
    else s.reply q.port 0x02 q.tag .outOfRange)

/-- SET_HOUSE_RATE (R3). -/
def execSetHouseRate (q : Req) (code : Nat) (s : State) : Out :=
  finish (s.admitted q 0x03 .control (holds 1 code) fun s =>
    if rateCodeOk code then ({ s with house := code }).reply q.port 0x03 q.tag .ok
    else s.reply q.port 0x03 q.tag .outOfRange)

/-- The boundary of a SET_ORIGIN as a counter value: the next house second, less the origin (R38). -/
def State.nextSecond (s : State) : Nat :=
  (s.houseTime / ticksPerSecond + 1) * ticksPerSecond - s.origin

/-- SET_ORIGIN (R38). -/
def execSetOrigin (q : Req) (label : Label) (s : State) : Out :=
  finish (s.admitted q 0x04 .control (labelHolds label) fun s =>
    if s.anyTakeOpen then s.reply q.port 0x04 q.tag .takeOpen
    else if s.ref.waiting.isSome then s.reply q.port 0x04 q.tag .busy
    else if !labelOk s.house label then s.reply q.port 0x04 q.tag .badLabel
    else { s with ref := { s.ref with
      waiting := some ⟨frameOf s.house label, s.house, s.nextSecond, q.port, q.tag⟩ } })

/-- The counter has reached the boundary of the waiting SET_ORIGIN (R38). -/
def State.originDue (s : State) : Bool :=
  (s.ref.waiting.map fun w => decide (w.boundary ≤ s.clock.counter)) = some true

/-- The waiting SET_ORIGIN at its boundary (R38). -/
def State.settleOrigin (s : State) (w : WaitingOrigin) : State :=
  let s0 := { s with ref := { s.ref with waiting := none } }
  if s.anyTakeOpen then s0.reply w.port 0x04 w.tag .takeOpen
  else
    match originFor w.rate w.frame s.clock.counter s.origin with
    | none => s0.reply w.port 0x04 w.tag .outOfRange
    | some o =>
      let s1 := { s0 with ref := { s0.ref with pendingOrigin := false } }
      (s1.setOriginAt o s.clock.counter 0).reply w.port 0x04 w.tag .ok
        [fTick s.origin, fTick o, fTick s.clock.counter]

/-- ORIGIN_BOUNDARY (R38). -/
def execOriginBoundary (s : State) : Out :=
  finish (
    match s.ref.waiting with
    | some w => if s.originDue then s.settleOrigin w else s
    | none => s)

end Sys2Proof.Machine
end

