-- ==== Sys2Proof/Machine/Store.lean ====
section
/-!
DEFINITION. The log store controller (R136 to R150, R155): the store arbiter, commit and amendment
writes, page checks, LOG_FULL and FAULT, FLUSH, CLEAR_LOG, SAVE_SETTINGS and STORE_STATUS.
-/

namespace Sys2Proof.Machine

/-- The pages of the log area. -/
def logPages : Nat := 8192

/-! ### Notices and FLUSH replies -/

/-- A STORE notice; the cause is FAULT 0, LOG_FULL 1, AMENDMENT_LOST 2 or CLEARED 3 (11.5). That a page
number travels as a count of 2 bytes is log entry 15. -/
def State.noteStore (s : State) (cause : Nat) (page : Option Nat) (index : Option Nat) : State :=
  s.notify 0x4B ([fByte cause, fSession s.store.session] ++ fOpt1 fCount page ++ fOpt1 fIndex index)

/-- Every waiting FLUSH answered with a status and the log index of the head take, and the list
emptied (R145). That the replies are formed in the order in which the requests joined the list is log
entry 51. -/
def State.failFlushes (s : State) (st : Status) : State :=
  let fields := (s.takes.queue.head?.map fun i => [fIndex i]).getD []
  s.store.flushes.foldl (fun t f => t.reply f.port 0x17 f.tag st fields)
    { s with store := { s.store with flushes := [] } }

/-- The takes of a FLUSH's boundary are all COMMITTED: none is in the commit queue any more. -/
def WaitingFlush.done (f : WaitingFlush) (queue : List Nat) : Bool :=
  f.boundary.all fun i => !queue.contains i

/-- Every waiting FLUSH tested as a commit write ends (R140, R145); those answered together are
answered in the order in which they joined the list (log entry 51). -/
def State.testFlushes (s : State) : State :=
  (s.store.flushes.filter fun f => f.done s.takes.queue).foldl
    (fun t f => t.reply f.port 0x17 f.tag .ok [fCount f.boundary.length])
    { s with store := { s.store with
      flushes := s.store.flushes.filter fun f => !f.done s.takes.queue } }

/-- The store enters FAULT at a page (R141, R149). -/
def State.enterFault (s : State) (page : Nat) : State :=
  (({ s with store := { s.store with state := .fault } }).noteStore 0 (some page)
    s.takes.queue.head?).failFlushes .storeFault

/-- The store enters LOG_FULL (R142). -/
def State.enterLogFull (s : State) : State :=
  (({ s with store := { s.store with state := .logFull } }).noteStore 1 (some s.store.pointer)
    s.takes.queue.head?).failFlushes .logFull

/-! ### The store arbiter (R139, R140, R146) -/

/-- The auto-commit delay of a take has run out; a delay of 0 never does (R139). -/
def State.delayOut (s : State) (index : Nat) : Bool :=
  decide (1 ≤ s.store.delay) &&
    ((s.findTake s.store.session index).map fun e =>
      decide (e.closeCounter + s.store.delay * ticksPerSecond ≤ s.clock.counter)) = some true

/-- A take of the commit queue is eligible: its delay has run out, or it is in the boundary of a
waiting FLUSH (R139). -/
def State.eligible (s : State) (index : Nat) : Bool :=
  s.delayOut index || s.store.flushes.any fun f => f.boundary.contains index

/-- The head take's auto-commit delay has run out (R139). -/
def State.headDelayOut (s : State) : Bool :=
  match s.takes.queue with
  | [] => false
  | i :: _ => s.delayOut i

/-- An amendment waits behind a take while the take's record is COMMITTING (R143). -/
def State.behindCommit (s : State) (a : Amendment) : Bool :=
  ((s.findTake a.session a.index).map fun e => e.copy.state) = some .committing

/-- The oldest writable amendment (R143). -/
def State.writable (s : State) : Option Amendment :=
  s.store.amendments.find? fun a => !s.behindCommit a

/-- The head take when it is eligible. -/
def State.eligibleHead (s : State) : Option Nat :=
  match s.takes.queue with
  | i :: _ => if s.eligible i then some i else none
  | [] => none

/-- A record's state changed. -/
def State.setRecord (s : State) (index : Nat) (st : RecState) : State :=
  s.modTake s.store.session index fun e => e.mod fun r => { r with state := st }

/-- The commit write of a take begins, or the store goes to LOG_FULL when it does not fit (R140). -/
def State.beginCommit (s : State) (index : Nat) : State :=
  match s.findTake s.store.session index with
  | none => s
  | some e =>
    let pages := takePages { e.copy with state := .committing }
    if logPages < s.store.pointer + pages.length then s.enterLogFull
    else
      let s1 := s.setRecord index .committing
      { s1 with store := { s1.store with op := .commit index pages } }

/-- The write of an amendment begins, or the store goes to LOG_FULL (R143). -/
def State.beginAmend (s : State) (a : Amendment) : State :=
  if logPages ≤ s.store.pointer then s.enterLogFull
  else { s with store := { s.store with op := .amend a (amendmentPage a) } }

/-- The log write that is offered begins, when one is ready: the oldest writable amendment, else the
eligible head take (R139, R143, R146). -/
def State.beginWrite (s : State) : State :=
  if s.store.state ≠ .ready then s
  else
    match s.writable, s.eligibleHead with
    | some a, _ => s.beginAmend a
    | none, some i => s.beginCommit i
    | none, none => s

/-- The oldest waiting read begins, when the flash is free and one waits. -/
def State.beginRead (s : State) : State :=
  match s.store.op, s.store.reads with
  | .idle, r :: rs => { s with store := { s.store with op := .read r true, reads := rs } }
  | _, _ => s

/-- The settings area is erased and the snapshot written: until the read-back its CRC is not good
(R150). -/
def State.beginSettings (s : State) (attempt : Nat) : State :=
  { s with store := { s.store with op := .settings attempt }
           flash := { s.flash with settings := .bad } }

/-- A pending SAVE_SETTINGS or CLEAR_LOG goes first, the older when both wait (R146). -/
def State.beginPending (s : State) : State :=
  match s.store.save, s.store.clear with
  | some a, some c =>
    if a.arrival < c.arrival then s.beginSettings 1
    else { s with store := { s.store with op := .erase } }
  | some _, none => s.beginSettings 1
  | none, some _ => { s with store := { s.store with op := .erase } }
  | none, none => s

/-- The store arbiter: when the flash is free and work waits, one operation begins (R146). -/
def State.arbitrate (s : State) : State :=
  if s.store.op ≠ .idle then s
  else if s.store.save.isSome ∨ s.store.clear.isSome then s.beginPending
  else if s.store.lastWrite ∧ s.store.reads ≠ [] then s.beginRead
  else s.beginWrite.beginRead

/-- An operation ends; the last operation is recorded (R146). -/
def State.endOp (s : State) (write : Bool) : State :=
  { s with store := { s.store with op := .idle, lastWrite := write } }

/-! ### Page writes (R141) -/

/-- The page being written checks good: it enters the directory, and the pointer advances. -/
def State.pageGoodAt (s : State) (page : List Byte) : State :=
  { s with
    store := { s.store with
      directory := s.store.directory ++ [some (pageHeader page)]
      pointer := s.store.pointer + 1
      failures := 0 }
    flash := { s.flash with log := writePage s.store.pointer (.bytes page) s.flash.log } }

/-- The page being written does not match: it is left as it is and skipped. -/
def State.pageBadAt (s : State) : State :=
  { s with
    store := { s.store with
      directory := s.store.directory ++ [none]
      pointer := s.store.pointer + 1
      skipped := s.store.skipped + 1
      failures := 1 }
    flash := { s.flash with log := writePage s.store.pointer .damaged s.flash.log } }

/-- A commit write that cannot go on: the take returns to CLOSED at the head, and the amendments
behind it are dropped (R141, R142). -/
def State.stopCommit (s : State) (index : Nat) : State :=
  let s1 := s.setRecord index .closed
  { s1 with store := { s1.store with amendments := s1.store.amendments.filter fun a =>
      !(a.session = s1.store.session && a.index = index) } }

/-- A commit write ends good: the record is COMMITTED with the next commit order and leaves the
queue, and the waiting FLUSH requests are tested (R140). -/
def State.endCommit (s : State) (index : Nat) : State :=
  let s1 := s.modTake s.store.session index fun e =>
    { e.mod (fun r => { r with state := .committed }) with order := some s.takes.nextOrder }
  ({ s1 with takes := { s1.takes with
      queue := s1.takes.queue.tail, nextOrder := s1.takes.nextOrder + 1 } }).testFlushes

/-- The check of a page of a commit write (R140 to R142). -/
def State.checkCommit (s : State) (index : Nat) (page : List Byte) (rest : List (List Byte))
    (ok : Bool) : State :=
  if ok then
    let s1 := s.pageGoodAt page
    if rest = [] then ((s1.endCommit index).endOp true).arbitrate
    else if logPages ≤ s1.store.pointer then
      (((s1.stopCommit index).enterLogFull).endOp true).arbitrate
    else { s1 with store := { s1.store with op := .commit index rest } }
  else
    let s1 := s.pageBadAt
    if s.store.failures = 0 then
      if logPages ≤ s1.store.pointer then
        (((s1.stopCommit index).enterLogFull).endOp true).arbitrate
      else s1
    else (((s1.stopCommit index).enterFault s.store.pointer).endOp true).arbitrate

/-- An amendment leaves the queue when its page is good, unless a later MARK_TAKE has changed it
while the page was being written (R143, log entry 17). -/
def State.dropAmendment (s : State) (a : Amendment) : State :=
  { s with store := { s.store with amendments := s.store.amendments.erase a } }

/-- The check of an AMENDMENT page (R141, R143). -/
def State.checkAmend (s : State) (a : Amendment) (page : List Byte) (ok : Bool) : State :=
  if ok then (((s.pageGoodAt page).dropAmendment a).endOp true).arbitrate
  else
    let s1 := s.pageBadAt
    if s.store.failures = 0 then
      if logPages ≤ s1.store.pointer then (s1.enterLogFull.endOp true).arbitrate else s1
    else ((s1.enterFault s.store.pointer).endOp true).arbitrate

/-- The pending CLEAR_LOG answered. -/
def State.answerClear (s : State) (st : Status) (fields : List Field) : State :=
  match s.store.clear with
  | none => s
  | some c =>
    ({ s with store := { s.store with clear := none } }).reply c.port 0x18 c.tag st fields

/-- The check of the SESSION page of CLEAR_LOG (R149, steps 3 and 4). That the FLUSH replies of an entry
to FAULT are formed before the CLEAR_LOG reply is log entry 51. -/
def State.checkCleared (s : State) (page : List Byte) (ok : Bool) : State :=
  if ok then
    let s1 := s.pageGoodAt page
    let s2 := { s1 with store := { s1.store with state := .ready } }
    (((s2.noteStore 3 (some s2.store.pointer) none).answerClear .ok
      [fCount s2.store.pointer]).endOp false).arbitrate
  else
    let s1 := s.pageBadAt
    if s.store.failures = 0 then s1
    else ((((s1.enterFault s.store.pointer).answerClear .storeFault []).endOp false).arbitrate)

/-- PAGE_WRITE_CHECK (R140 to R143, R149). -/
def execPageWriteCheck (ok : Bool) (s : State) : Out :=
  finish (
    match s.store.op with
    | .commit i (p :: rest) => s.checkCommit i p rest ok
    | .amend a p => s.checkAmend a p ok
    | .cleared p => s.checkCleared p ok
    | _ => s)

/-- COMMIT_DELAY_EXPIRY: the head take has become eligible, and the arbiter is asked (R139). -/
def execCommitDelayExpiry (s : State) : Out :=
  finish (if s.headDelayOut then s.arbitrate else s)

/-! ### Amendments handed to the controller (R143) -/

/-- A newer amendment merged into a waiting one: each field present replaces the value. -/
def Amendment.merge (old new : Amendment) : Amendment :=
  { old with
    circled := if new.circled.isSome then new.circled else old.circled
    falseStart := if new.falseStart.isSome then new.falseStart else old.falseStart
    note := if new.note.isSome then new.note else old.note }

/-- Two amendments are for the same take. -/
def Amendment.sameTake (a b : Amendment) : Bool :=
  decide (a.session = b.session) && decide (a.index = b.index)

/-- An amendment handed by the take table (R143). AMENDMENT_LOST carries the amendment's session, which
R132 makes the current one, the session that section 11.5 gives a STORE notice. -/
def State.handAmendment (s : State) (a : Amendment) : State :=
  if s.store.amendments.any a.sameTake then
    { s with store := { s.store with
      amendments := s.store.amendments.map fun x => if a.sameTake x then x.merge a else x } }
  else if s.store.amendments.length < 16 then
    { s with store := { s.store with amendments := s.store.amendments ++ [a] } }
  else
    s.notify 0x4B ([fByte 2, fSession a.session] ++ fOpt1 fCount none ++
      fOpt1 fIndex (some a.index))

/-! ### Requests -/

/-- SET_COMMIT_DELAY (R139). -/
def execSetCommitDelay (q : Req) (seconds : Nat) (s : State) : Out :=
  finish (s.admitted q 0x16 .control (holds 4 seconds) fun s =>
    if !s.store.applied then s.reply q.port 0x16 q.tag .notReady
    else if 255 < seconds then s.reply q.port 0x16 q.tag .outOfRange
    else ({ s with store := { s.store with delay := seconds } }).reply q.port 0x16 q.tag .ok)

/-- FLUSH (R145): its boundary is the commit queue as it stands. -/
def execFlush (q : Req) (s : State) : Out :=
  finish (s.admitted q 0x17 .control true fun s =>
    let head := (s.takes.queue.head?.map fun i => [fIndex i]).getD []
    if !s.store.scanned then s.reply q.port 0x17 q.tag .notReady
    else if s.takes.queue = [] then s.reply q.port 0x17 q.tag .ok [fCount 0]
    else if s.store.state = .fault then s.reply q.port 0x17 q.tag .storeFault head
    else if s.store.state = .logFull then s.reply q.port 0x17 q.tag .logFull head
    else State.arbitrate { s with store := { s.store with
      flushes := s.store.flushes ++ [⟨s.takes.queue, q.port, q.tag⟩] } })

/-- A read waits or is in flight (R148, check 4). -/
def Store.reading (x : Store) : Bool :=
  !x.reads.isEmpty || match x.op with
    | .read _ _ => true
    | _ => false

/-- CLEAR_LOG (R148). -/
def execClearLog (q : Req) (s : State) : Out :=
  finish (s.admitted q 0x18 .control true fun s =>
    if !s.store.scanned then s.reply q.port 0x18 q.tag .notReady
    else if s.anyTakeOpen then s.reply q.port 0x18 q.tag .takeOpen
    else if s.store.clear.isSome then s.reply q.port 0x18 q.tag .busy
    else if s.store.reading then s.reply q.port 0x18 q.tag .busy
    else if s.store.state = .ready ∧ (s.takes.queue ≠ [] ∨ s.store.amendments ≠ []) then
      s.reply q.port 0x18 q.tag .busy
    else State.arbitrate { s with store := { s.store with
      clear := some ⟨q.port, q.tag, s.store.arrivals⟩, arrivals := s.store.arrivals + 1 } })

/-- What the settings area saves of a profile (R75). -/
def Profile.saved (p : Profile) : SavedProfile := ⟨p.state, p.count, p.bias, p.points⟩

/-- The enable of the line a device is on, off for a radio device. -/
def State.enableOf (s : State) (d : Device) : Bool :=
  match d.lineNo with
  | some n => (s.line n).enabled
  | none => false

/-- The settings as they stand (R150). -/
def State.snapshot (s : State) : Snapshot :=
  { ref := s.ref.set
    house := s.house
    slots := s.slots.map fun o => o.map fun d => (d.set, s.enableOf d)
    profiles := s.profiles.map Profile.saved
    slates := s.units.map UnitRec.info
    delay := s.store.delay
    radioOn := s.radio.enabled }

/-- SAVE_SETTINGS (R150): the snapshot is taken as the request is. -/
def execSaveSettings (q : Req) (s : State) : Out :=
  finish (s.admitted q 0x19 .control true fun s =>
    if !s.store.scanned then s.reply q.port 0x19 q.tag .notReady
    else if s.store.save.isSome then s.reply q.port 0x19 q.tag .busy
    else State.arbitrate { s with store := { s.store with
      save := some ⟨s.snapshot, q.port, q.tag, s.store.arrivals⟩
      arrivals := s.store.arrivals + 1 } })

/-- The settings write ends with an answer to its SAVE_SETTINGS. -/
def State.endSettings (s : State) (p : PendingSave) (area : SettingsArea) (st : Status) : State :=
  let s1 := { s with store := { s.store with save := none }
                     flash := { s.flash with settings := area } }
  ((s1.reply p.port 0x19 p.tag st).endOp false).arbitrate

/-- SETTINGS_WRITE_DONE (R150): a failed write is made once more. -/
def execSettingsWriteDone (ok : Bool) (s : State) : Out :=
  finish (
    match s.store.op, s.store.save with
    | .settings attempt, some p =>
      if ok then s.endSettings p (.good p.snapshot) .ok
      else if attempt < 2 then s.beginSettings 2
      else s.endSettings p .bad .storeFault
    | _, _ => s)

/-- The log area taken as emptied: pointer, directory, skipped count, amendments (R149). -/
def State.emptyLog (s : State) (log : List (Nat × PageData)) : State :=
  { s with
    store := { s.store with pointer := 0, directory := [], skipped := 0, amendments := [] }
    flash := { s.flash with log := log } }

/-- An entry freed when its record is COMMITTED. -/
def keepUncommitted (o : Option Entry) : Option Entry :=
  o.bind fun e => if e.copy.state = .committed then none else some e

/-- Every entry holding a COMMITTED record freed (R149, step 2). -/
def State.freeCommitted (s : State) : State :=
  { s with takes := { s.takes with entries := s.takes.entries.map keepUncommitted } }

/-- The erase stops at a page that does not read back blank (R149, step 1). The pages before it are
blank, that page is damaged and the later ones are as they were (log entry 16). That the FLUSH replies
of the entry to FAULT are formed before the CLEAR_LOG reply is log entry 51. -/
def State.eraseFailed (s : State) (page : Nat) : State :=
  let s1 := s.emptyLog (writePage page .damaged (s.flash.log.filter fun x => decide (page ≤ x.1)))
  (((s1.enterFault page).answerClear .storeFault []).endOp false).arbitrate

/-- The erase has blanked every page: the store is reset, COMMITTED entries are freed, and the
CLEARED SESSION page is written at page 0 (R149, steps 2 and 3). -/
def State.eraseGood (s : State) : State :=
  let s1 := (s.emptyLog []).freeCommitted
  { s1 with store := { s1.store with
    failures := 0
    op := .cleared (sessionPage 1 s1.store.session s1.takes.lastIndex s1.houseTime
      s1.clock.counter) } }

/-- LOG_ERASE_DONE (R149). -/
def execLogEraseDone (failed : Option Nat) (s : State) : Out :=
  finish (
    match s.store.op with
    | .erase =>
      match failed with
      | some page => if page < logPages then s.eraseFailed page else s
      | none => s.eraseGood
    | _ => s)

/-- The code of the operation in flight, in the order of R138. -/
def StoreOp.code : StoreOp → Nat
  | .idle => 0
  | .commit _ _ | .amend _ _ => 1
  | .read _ _ => 2
  | .settings _ => 3
  | .erase | .cleared _ => 4

/-- The log index of a commit write in flight. -/
def StoreOp.commitIndex : StoreOp → Option Nat
  | .commit i _ => some i
  | _ => none

/-- The fields of a STORE_STATUS reply in R155's order. That a pending SAVE_SETTINGS and a pending
CLEAR_LOG have a flag each, the log index of a commit write is an optional field, and the amendment
queue is a list of pairs each with its flag, is log entry 15. -/
def State.storeFields (s : State) : List Field :=
  let x := s.store
  [fByte x.state.code, fSession x.session, fCount x.pointer, fCount x.skipped, fCount x.failures,
   fLong x.delay, fByte x.op.code] ++ fOpt1 fIndex x.op.commitIndex ++
  [fCount x.reads.length, fCount x.flushes.length, fFlag x.save.isSome, fFlag x.clear.isSome] ++
  fList (fun a => [fSession a.session, fIndex a.index, fFlag (s.behindCommit a)]) x.amendments

/-- STORE_STATUS (R155). -/
def execStoreStatus (q : Req) (s : State) : Out :=
  finish (s.ask q 0x1A true fun s => (.ok, s.storeFields))

end Sys2Proof.Machine
end

