-- ==== Sys2Proof/Machine/Exporting.lean ====
section
/-!
DEFINITION. Export to the editing suites (R168 to R176): the count and follow phases, the takes and
amendments handed to the export context, and its two requests.
-/

namespace Sys2Proof.Machine

/-! ### Messages -/

/-- A TAKE_BLOCK's fields in the order of R171 and R173; the phase is 0 for COUNT, 1 for FOLLOW, the
order in which the rules name them, for no table owns the two words (log entry 45). The skip counts
stand in a final block only and the follow losses in a follow block only, with no presence byte (log
entry 15). -/
def Block.fields (b : Block) (tag : Nat) : List Field :=
  [fByte tag, fCount b.seq, fByte (if b.follow then 1 else 0)] ++ fList TakeRecord.fields b.takes ++
  [fLong b.remaining, fFlag b.final] ++
  (if b.final then [fLong b.skippedOpen, fLong b.skippedNone] else []) ++
  (if b.follow then [fCount b.losses] else [])

/-- The message of an export message: its tag is the export tag (R178). -/
def ExportMsg.message : ExportMsg → Message
  | .block tag b => ⟨0x50, tag, b.fields tag⟩
  | .amended tag a lost =>
    ⟨0x51, tag, [fByte tag, fSession a.session, fIndex a.index] ++ fOpt1 fFlag a.circled ++
      fOpt1 fFlag a.falseStart ++ fOpt fText a.note ++ [fCount lost]⟩

/-! ### The context -/

/-- A count whose range ends at 65,535 goes up by one; past its range it is a free value
(log entry 12). -/
def bump16 (n : Nat) : Nat := if n < 65535 then n + 1 else Config.countOverflow n % 65536

/-- The sequence number after one: 65,535 is followed by 1 (R171). -/
def nextSeq (n : Nat) : Nat := if n = 65535 then 1 else n + 1

/-- The next index of the range to examine (R170). -/
def Exporter.nextIndex (x : Exporter) : Option Nat :=
  match x.range, x.last with
  | none, _ => none
  | some (a, _), none => some a
  | some (_, b), some l => if l < b then some (l + 1) else none

/-- An index lies in the range and above last examined (R172, R174). -/
def Exporter.ahead (x : Exporter) (i : Nat) : Bool :=
  match x.range with
  | none => false
  | some (a, b) => decide (a ≤ i ∧ i ≤ b) && (x.last.map fun l => decide (l < i)).getD true

/-- The indices of the range above last examined. -/
def Exporter.remaining (x : Exporter) : Nat :=
  match x.range, x.last with
  | none, _ => 0
  | some (a, b), none => b + 1 - a
  | some (_, b), some l => b - l

/-- A held or ready amendment of a take dropped from the list (R174). -/
def Exporter.dropAmendment (x : Exporter) (i : Nat) : Exporter :=
  { x with amendments := x.amendments.filter fun h => h.amendment.index ≠ i }

/-- The forming block becomes a formed count block (R171). -/
def Exporter.formCount (x : Exporter) (final : Bool) : Exporter :=
  { x with
    formed := some ⟨x.seq, false, x.forming, x.remaining, final, x.skippedOpen, x.skippedNone, 0⟩
    forming := []
    seq := nextSeq x.seq
    ended := final }

/-- A block that is full, with indices still to come, is formed (R171). -/
def Exporter.formFull (x : Exporter) : Exporter :=
  if x.forming.length = x.blockSize ∧ x.nextIndex.isSome then x.formCount false else x

/-- An index dealt with by collecting its record (R170). -/
def Exporter.collect (x : Exporter) (i : Nat) (r : TakeRecord) : Exporter :=
  ({ x with forming := x.forming ++ [r], last := some i }).formFull

/-- An index dealt with by skipping it as open (R170). -/
def Exporter.skipOpen (x : Exporter) (i : Nat) : Exporter :=
  ({ x with skippedOpen := x.skippedOpen + 1, last := some i }).dropAmendment i

/-- An index dealt with by skipping it with no record (R170). -/
def Exporter.skipNone (x : Exporter) (i : Nat) : Exporter :=
  ({ x with skippedNone := x.skippedNone + 1, last := some i }).dropAmendment i

/-- A follow block of one take; the index leaves the queue (R173). -/
def Exporter.formFollow (x : Exporter) (r : TakeRecord) : Exporter :=
  { x with
    formed := some ⟨x.seq, true, [r], 0, false, 0, 0, x.losses⟩
    seq := nextSeq x.seq
    losses := 0
    queue := x.queue.tail }

/-- The head of the follow queue found nowhere (R173). -/
def Exporter.loseHead (x : Exporter) (i : Nat) : Exporter :=
  ({ x with losses := bump16 x.losses, queue := x.queue.tail }).dropAmendment i

/-- The context examines nothing while a read is open, a block waits to be handed, or a cancel is
pending (R170, R173, R175). -/
def Exporter.stalled (x : Exporter) : Bool :=
  x.reading.isSome || x.formed.isSome || x.cancel.isSome

/-- The store's directory holds a complete record of a take (R147). -/
def State.storeHolds (s : State) (session index : Nat) : Bool :=
  (completePages s.store.directory session index).isSome

/-- A read asked for the export context. -/
def State.askExport (s : State) (i : Nat) : State :=
  { s with
    exporter := { s.exporter with reading := some i }
    store := { s.store with reads := s.store.reads ++ [⟨.exporter, s.exporter.session, i⟩] } }

/-- One index of the count phase examined (R170). -/
def State.examine (s : State) (i : Nat) : State :=
  match s.findTake s.exporter.session i with
  | some e =>
    if e.copy.state = .opened then { s with exporter := s.exporter.skipOpen i }
    else { s with exporter := s.exporter.collect i e.copy }
  | none =>
    if s.storeHolds s.exporter.session i then s.askExport i
    else { s with exporter := s.exporter.skipNone i }

/-- The head of the follow queue taken (R173). -/
def State.followHead (s : State) (i : Nat) : State :=
  match s.findTake s.exporter.session i with
  | some e => { s with exporter := s.exporter.formFollow e.copy }
  | none =>
    if s.storeHolds s.exporter.session i then s.askExport i
    else { s with exporter := s.exporter.loseHead i }

/-- The oldest ready amendment handed as a TAKE_AMENDED (R174). -/
def Exporter.handAmended (x : Exporter) (h : HeldAmendment) : Exporter :=
  { x with
    handed := some (.amended x.tag h.amendment x.lost)
    lost := 0
    amendments := x.amendments.erase h }

/-- The formed block handed; with the follow flag the final one begins the follow phase (R171). -/
def Exporter.handBlock (x : Exporter) (b : Block) : Exporter :=
  { x with
    handed := some (.block x.tag b)
    formed := none
    phase := if b.final ∧ x.follow then .following else x.phase }

/-- One move of the export engine: a message handed, an index examined, a final block formed or the
follow queue's head taken; none when it can do nothing (R168 to R174). That the head is taken while a
block is in transmission is log entry 52. -/
def State.exportMove (s : State) : Option State :=
  let x := s.exporter
  if x.phase = .idle ∨ x.cancel.isSome then none
  else
    match x.handed, x.amendments.find? HeldAmendment.ready, x.formed with
    | none, some h, _ => some { s with exporter := x.handAmended h }
    | none, none, some b => some { s with exporter := x.handBlock b }
    | _, _, _ =>
      if x.stalled then none
      else
        match x.phase, x.ended, x.nextIndex, x.queue with
        | .counting, false, some i, _ => some (s.examine i)
        | .counting, false, none, _ => some { s with exporter := x.formCount true }
        | .following, _, _, i :: _ => some (s.followHead i)
        | _, _, _, _ => none

/-- The moves of the export engine until it can do nothing, at most `fuel` of them. -/
def exportMoves : Nat → State → State
  | 0, s => s
  | fuel + 1, s =>
    match s.exportMove with
    | some t => exportMoves fuel t
    | none => s

/-- The export engine goes on as far as it can: it deals with each index of the range and of the
follow queue at most once, forms the final block, and hands at most one message. R170 has the next
index examined when nothing is waited for and gives the moment no event of its own; that all such
examinations happen inside the event that lets them happen is log entry 52. -/
def State.exportRun (s : State) : State :=
  exportMoves (s.exporter.remaining + s.exporter.queue.length + 4) s

/-! ### What is handed to the context -/

/-- A logged take closes (R172). -/
def Exporter.closed (x : Exporter) (session index : Nat) : Exporter :=
  if x.phase = .idle ∨ !x.follow ∨ x.cancel.isSome ∨ x.session ≠ session ∨ x.ahead index then x
  else if x.queue.length < 64 then { x with queue := x.queue ++ [index] }
  else { x with losses := bump16 x.losses }

/-- The indices of a block handed and not yet sent. -/
def handedIndices : Option ExportMsg → List Nat
  | some (.block _ b) => b.takes.map TakeRecord.index
  | _ => []

/-- The take has been collected into a block not yet sent, or is still to be examined or followed
(R174, "held"). -/
def Exporter.expects (x : Exporter) (i : Nat) : Bool :=
  (x.forming.map TakeRecord.index).contains i ||
  ((x.formed.map fun b => b.takes.map TakeRecord.index).getD []).contains i ||
  (handedIndices x.handed).contains i || x.ahead i || x.queue.contains i

/-- An amendment entered in the list, merged with the one that is there, or lost (R174). -/
def Exporter.enter (x : Exporter) (a : Amendment) (ready : Bool) : Exporter :=
  if x.amendments.any fun h => a.sameTake h.amendment then
    { x with amendments := x.amendments.map fun h =>
        if a.sameTake h.amendment then { h with amendment := h.amendment.merge a } else h }
  else if x.amendments.length < 16 then { x with amendments := x.amendments ++ [⟨a, ready⟩] }
  else { x with lost := bump16 x.lost }

/-- An amendment handed by the take table (R174). -/
def Exporter.amended (x : Exporter) (a : Amendment) : Exporter :=
  if x.phase = .idle ∨ !x.follow ∨ x.cancel.isSome ∨ x.session ≠ a.session then x
  else if x.sent.contains a.index then x.enter a true
  else if x.expects a.index then x.enter a false
  else x

/-- The answer to the context's store read (R170, R173). -/
def Exporter.answer (x : Exporter) (r : Option TakeRecord) : Exporter :=
  match x.reading with
  | none => x
  | some i =>
    let x := { x with reading := none }
    match x.phase, r with
    | .counting, some t => x.collect i t
    | .counting, none => x.skipNone i
    | .following, some t => x.formFollow t
    | .following, none => x.loseHead i
    | .idle, _ => x

/-- A message of the export has been sent (R171, R174, R175). -/
def Exporter.messageSent (x : Exporter) : Exporter :=
  match x.handed with
  | some (.block _ b) =>
    let ix := b.takes.map TakeRecord.index
    let x := { x with
      handed := none
      sent := x.sent ++ ix
      lastSent := b.seq
      amendments := x.amendments.map fun h =>
        if ix.contains h.amendment.index then { h with ready := true } else h }
    if b.final ∧ !x.follow ∧ x.cancel.isNone then .reset else x
  | _ => { x with handed := none }

/-- A cancelled export ends: the context becomes IDLE and the CANCEL_EXPORT is answered (R175). -/
def State.endExport (s : State) (tag : Nat) : State :=
  ({ s with exporter := .reset }).reply .suite 0x1E tag .ok
    [fByte s.exporter.tag, fCount s.exporter.lastSent]

/-! ### Requests -/

/-- The largest index of a list. -/
def maxIndex (l : List Nat) : Option Nat := l.max?

/-- The last index of a range of count 0 (R169). -/
def State.lastOf (s : State) (session : Nat) : Option Nat :=
  if session = s.store.session then some s.takes.lastIndex
  else maxIndex (heldIndices s.store.directory session)

/-- The range of an accepted EXPORT_TAKES (R169). -/
def State.exportRange (s : State) (a : ExportArgs) : Option (Nat × Nat) :=
  if 1 ≤ a.count then some (a.start, a.start + a.count - 1)
  else
    match s.lastOf a.session with
    | some l => if l < a.start then none else some (a.start, l)
    | none => none

/-- EXPORT_TAKES's fields lie in their ranges (R169). -/
def exportArgsOk (a : ExportArgs) : Bool :=
  decide (1 ≤ a.session ∧ a.session ≤ 65535 ∧ 1 ≤ a.start ∧ a.start ≤ 4294967295 ∧
    a.count ≤ 1024 ∧ 1 ≤ a.blockSize ∧ a.blockSize ≤ 8 ∧
    (1 ≤ a.count → a.start + a.count - 1 ≤ 4294967295))

/-- The context of an accepted EXPORT_TAKES (R169). -/
def Exporter.start (tag : Nat) (a : ExportArgs) (range : Option (Nat × Nat)) : Exporter :=
  { Exporter.reset with
    phase := .counting, tag := tag, session := a.session, range := range,
    blockSize := a.blockSize, follow := a.follow }

/-- The number of indices of a range. -/
def rangeSize : Option (Nat × Nat) → Nat
  | none => 0
  | some (a, b) => b + 1 - a

/-- EXPORT_TAKES (R169). The reply is formed before the count phase begins. That its first and last
index are one optional field, absent for an empty range, and the number of indices always follows, is
log entry 15. -/
def execExportTakes (q : Req) (a : ExportArgs) (s : State) : Out :=
  finish (s.admitted q 0x1D .suite a.fits fun s =>
    if !exportArgsOk a then s.reply q.port 0x1D q.tag .outOfRange
    else if !s.store.scanned then s.reply q.port 0x1D q.tag .notReady
    else if s.exporter.phase ≠ .idle then s.reply q.port 0x1D q.tag .busy
    else
      let range := s.exportRange a
      let s1 := { s with exporter := .start q.tag a range }
      ((s1.reply q.port 0x1D q.tag .ok
        (fOpt (fun r => [fIndex r.1, fIndex r.2]) range ++
          [fLong (rangeSize range)])).exportRun).arbitrate)

/-- A read of the export context withdrawn while it waits, or its answer no longer wanted (R175). -/
def Store.withdrawExport (x : Store) : Store :=
  { x with
    reads := x.reads.filter fun r => r.client ≠ .exporter
    op := match x.op with
      | .read r live => .read r (live && decide (r.client ≠ .exporter))
      | o => o }

/-- The engine stops at once: a formed block is discarded and its number not used (R175). -/
def Exporter.stop (x : Exporter) : Exporter :=
  { x with
    seq := (x.formed.map Block.seq).getD x.seq
    formed := none
    reading := none }

/-- CANCEL_EXPORT (R175). -/
def execCancelExport (q : Req) (s : State) : Out :=
  finish (s.admitted q 0x1E .suite true fun s =>
    if s.exporter.phase = .idle then s.reply q.port 0x1E q.tag .notFound
    else if s.exporter.cancel.isSome then s.reply q.port 0x1E q.tag .busy
    else
      let s1 := { s with exporter := s.exporter.stop, store := s.store.withdrawExport }
      if s1.exporter.handed.isSome then
        { s1 with exporter := { s1.exporter with cancel := some q.tag } }
      else s1.endExport q.tag)

end Sys2Proof.Machine
end

