-- ==== Sys2Proof/Machine/Conforming.lean ====
section
/-!
DEFINITION. Conform queries (R156 to R167): matching a record, the source instant, participant
positions, uncertainty, the two phases of the search, and the two requests.
-/

namespace Sys2Proof.Machine

/-! ### Entries (R158, R160, R161) -/

/-- A participant entry of a radio device. -/
def Participant.isRadio (p : Participant) : Bool :=
  match p.att with
  | .radio _ => true
  | .line _ => false

/-- The label frame of an entry at a house tick, over its settings or its latest segment; none for a
radio entry with no segment (R129, R158). -/
def Participant.frameAt (p : Participant) (t : Int) : Option Nat :=
  if p.isRadio then
    p.segments.getLast?.map fun g => radioFrame p.rate g.tick g.frame g.rate t
  else some (wiredFrame p.rate p.phase p.origin t)

/-- The end of an entry's span: the frozen end, or for an OPEN record the label frame at the house
time of the query (R158). -/
def spanEnd (r : TakeRecord) (p : Participant) (now : Nat) : Option Nat :=
  if r.state = .opened then p.frameAt now else p.endFrame

/-- `a` to `b` forward modulo the label day of a rate. -/
def forward (rate a b : Nat) : Nat := (((b : Int) - a) % dayOf rate).toNat

/-- The start label frame was set from the first segment's n₀ by a jam during the take (R130): the
device had no segment at the open, and is marked UNCERTAIN. A jam is confirmed when its slot ends, a
slot 19 jam when the next house second has begun (R77, R83), so the take started less than two house
seconds after J (log entry 18). -/
def Participant.startedByJam (p : Participant) (g : Segment) (start : Nat) : Bool :=
  p.uncertain && decide (p.startFrame = some g.frame) &&
    decide ((start : Int) < g.tick + 2 * ticksPerSecond)

/-- The source instant over the first segment of a radio entry (R161); none when a second jam had
carried the device's label past `n` by then. -/
def firstSegmentInstant (p : Participant) (g : Segment) (second : Option Segment) (start s n : Nat) :
    Option Int :=
  let ks : Int := if p.startedByJam g start then 0 else radioCount p.rate g.tick g.rate start
  let k : Int := ks + forward p.rate s n
  let t := g.tick + houseElapsed g.rate (k * periodOf p.rate)
  match second with
  | some h => if h.tick ≤ t then none else some t
  | none => some t

/-- The source instant over the second segment (R161). -/
def secondSegmentInstant (p : Participant) (g : Segment) (n : Nat) : Int :=
  g.tick + houseElapsed g.rate ((forward p.rate g.frame n : Int) * periodOf p.rate)

/-- The source instant of label frame `n` in an entry whose span runs from `s` to `fin` (R160, R161). -/
def Participant.instant (p : Participant) (start s fin n : Nat) : Option Int :=
  if p.isRadio then
    match p.segments with
    | [g, h] =>
      if forward p.rate h.frame n ≤ forward p.rate h.frame fin then
        some (secondSegmentInstant p h n)
      else firstSegmentInstant p g (some h) start s n
    | [g] => firstSegmentInstant p g none start s n
    | _ => none
  else
    some ((wiredCount p.rate p.phase start + forward p.rate s n) * periodOf p.rate - p.phase)

/-- A record matches a WHERE_IS, with its source instant (R158, R160, R161). -/
def TakeRecord.whereInstant (r : TakeRecord) (slot n rate now : Nat) : Option Int :=
  match r.participants.find? fun p => p.slot = slot && p.rate = rate with
  | none => none
  | some p =>
    match p.startFrame, spanEnd r p now with
    | some s, some e =>
      if forward rate s n ≤ forward rate s e then p.instant r.startTick s e n else none
    | _, _ => none

/-- A record spans a house tick (R165). -/
def TakeRecord.spans (r : TakeRecord) (tick now : Nat) : Bool :=
  decide (r.startTick ≤ tick ∧ tick ≤ if r.state = .opened then now else r.endTick.getD now)

/-- A record examined by a search: a match, or none. `now` is the house time at handing over. -/
def Search.examine (q : Search) (now : Nat) (r : TakeRecord) : Option Match :=
  let openEnd := if r.state = .opened then some now else none
  match q with
  | .whereIs _ slot n rate _ => (r.whereInstant slot n rate now).map fun t => ⟨r, t, openEnd⟩
  | .atTick _ tick => if r.spans tick now then some ⟨r, tick, openEnd⟩ else none

/-! ### Positions and uncertainty (R162, R163) -/

/-- The segment used for a radio entry at a house tick, with its number: the one whose J is the
latest not after the tick (R162). -/
def Participant.segmentAt (p : Participant) (t : Int) : Option (Nat × Segment) :=
  match p.segments with
  | [g, h] => if h.tick ≤ t then some (2, h) else if g.tick ≤ t then some (1, g) else none
  | [g] => if g.tick ≤ t then some (1, g) else none
  | _ => none

/-- A wired entry's position, from the settings copied into the entry (R21). -/
def Participant.wiredPosition (p : Participant) (t : Int) : Position :=
  Machine.wiredPosition p.rate p.audio p.pull (decide (p.kind = .recorder)) p.phase p.origin t

/-- A radio entry's position over a segment (R21). -/
def Participant.radioPosition (p : Participant) (g : Segment) (t : Int) : Position :=
  Machine.radioPosition p.rate p.audio p.pull (decide (p.kind = .recorder)) g.tick g.frame g.rate t

/-- An entry's position at a house tick, with the number of the segment used, 0 for a wired entry;
none for a radio entry with no segment there (R162). -/
def Participant.position (p : Participant) (t : Int) : Option (Position × Nat) :=
  if p.isRadio then (p.segmentAt t).map fun x => (p.radioPosition x.2 t, x.1)
  else some (p.wiredPosition t, 0)

/-- What a participant position gives of a position: label, sub-frame and samples (section 11.5). -/
def Position.fields (x : Position) : List Field :=
  fLabel x.label ++ [fByte x.sub] ++ fOpt1 fSample x.sample

/-- An entry's part of a reply (section 11.5, participant position). That the segment used of a radio
entry with no position reads 0 is log entry 44. -/
def Participant.positionFields (p : Participant) (t : Int) : List Field :=
  let x := p.position t
  [fByte p.slot, fByte p.kind.code, fByte p.rate] ++ fOpt (fun y => y.1.fields) x ++
    [fByte (if x.isSome then 0 else 1), fByte p.marks] ++
    fOpt1 (fun n : Nat => fTick n) p.lineFault ++ [fByte ((x.map Prod.snd).getD 0)]

/-- The radio entries involved in an answer at `t`, each with the segment used (R163). -/
def TakeRecord.involved (r : TakeRecord) (t : Int) : List (Participant × Segment) :=
  r.participants.filterMap fun p =>
    if p.isRadio then (p.segmentAt t).map fun x => (p, x.2) else none

/-- The uncertainty of an answer in ticks, none for unbounded (R163). -/
def TakeRecord.uncertainty (r : TakeRecord) (t : Int) : Option Nat :=
  if (r.involved t).any fun x => x.1.uncertain then none
  else some ((r.involved t).foldl (fun m x => max m x.2.residual) 0)

/-! ### Replies (R164, R165) -/

/-- The take fields of R164 in the take record layout that section 11.5 names for these replies: the
record, its end tick for an OPEN take the house time at handing over, then the open flag. That the
whole record travels, and the flag after it, is log entry 44. -/
def Match.takeFields (m : Match) : List Field :=
  ({ m.take with endTick := m.openEnd.or m.take.endTick }).fields ++ [fFlag m.openEnd.isSome]

/-- The positions and the uncertainty of a match. -/
def Match.placeFields (m : Match) : List Field :=
  fList (fun p => p.positionFields m.instant) m.take.participants ++
    fOpt1 fLong (m.take.uncertainty m.instant)

/-- The fields of a WHERE_IS answer in R164's order. -/
def Match.whereFields (m : Match) (house : Nat) (more : Bool) : List Field :=
  m.takeFields ++ [fTick m.instant] ++ fLabel (houseLabel house m.instant) ++
    [fByte (houseSub house m.instant)] ++ m.placeFields ++ [fFlag more]

/-- How many matches end a search: the second of a WHERE_IS, the fifth of an AT_TICK, and the only
one of a WHERE_IS that names its take (R159, R165). -/
def Search.limit : Search → Nat
  | .whereIs _ _ _ _ none => 2
  | .whereIs _ _ _ _ (some _) => 1
  | .atTick _ _ => 5

/-- The kind code of a query. -/
def Search.kind : Search → Nat
  | .whereIs _ _ _ _ _ => 0x1B
  | .atTick _ _ => 0x1C

/-- The session a query searches. -/
def Search.session : Search → Nat
  | .whereIs s _ _ _ _ => s
  | .atTick s _ => s

/-- The answer of a search that has ended (R159, R164, R165). -/
def Search.answer (q : Search) (house : Nat) (found : List Match) : Answer :=
  match q, found with
  | _, [] => (.notFound, [])
  | .whereIs _ _ _ _ _, m :: rest => (.ok, m.whereFields house (!rest.isEmpty))
  | .atTick _ _, ms =>
    (.ok, fList (fun m => m.takeFields ++ m.placeFields) (ms.take 4) ++
      [fFlag (decide (4 < ms.length))])

/-! ### The search (R159, R166) -/

/-- A record put in its place by descending log index. -/
def insertByIndex (r : TakeRecord) : List TakeRecord → List TakeRecord
  | [] => [r]
  | x :: xs => if x.index ≤ r.index then r :: x :: xs else x :: insertByIndex r xs

/-- The take table's records of a session in descending log index (R159, table phase). -/
def State.tableRecords (s : State) (session : Nat) : List TakeRecord :=
  ((s.takes.entries.toList.filterMap fun o => o.map Entry.copy).filter fun r =>
    r.session = session).foldr insertByIndex []

/-- Records examined in order until the limit is reached. -/
def examineAll (q : Search) (now : Nat) : List TakeRecord → List Match → List Match
  | [], found => found
  | r :: rest, found =>
    if q.limit ≤ found.length then found
    else
      match q.examine now r with
      | some m => examineAll q now rest (found ++ [m])
      | none => examineAll q now rest found

/-- The reply of a search that has ended (R167). -/
def State.answerSearch (s : State) (p : Port) (tag : Nat) (q : Search) (found : List Match) : State :=
  let a := q.answer s.house found
  s.replyQuery p q.kind tag a.1 a.2

/-- The search goes on: it ends at its limit or with nothing left to read, else the next read is
asked (R159, R166). -/
def State.searchOn (s : State) (p : Port) (tag : Nat) (q : Search) (toRead : List Nat)
    (found : List Match) : State :=
  if q.limit ≤ found.length then s.answerSearch p tag q found
  else
    match toRead with
    | [] => s.answerSearch p tag q found
    | i :: _ =>
      let s1 := s.modPort p fun x => { x with conform := .busy tag q toRead found }
      { s1 with store := { s1.store with
        reads := s1.store.reads ++ [⟨.conform p, q.session, i⟩] } }

/-- The store phase's list: the directory's indices of the session, struck of those in the table
(R159). -/
def State.storeList (s : State) (session : Nat) : List Nat :=
  (heldIndices s.store.directory session).filter fun i =>
    !((s.tableRecords session).map TakeRecord.index).contains i

/-- A query that names its take: examined in the table when it is there, else by one read with scope
ALL, else NO_TAKE (R159). That the read is asked also for a take that the directory does not hold is log
entry 53. -/
def State.searchNamed (s : State) (p : Port) (tag : Nat) (q : Search) (index : Nat) (all : Bool) :
    State :=
  match (s.tableRecords q.session).find? fun r => r.index = index with
  | some r => s.answerSearch p tag q ((q.examine s.houseTime r).toList)
  | none =>
    if all then s.searchOn p tag q [index] []
    else s.replyQuery p q.kind tag .noTake []

/-- A query that has passed its checks is searched: the table phase, then with scope ALL the store
phase (R159, R165). -/
def State.search (s : State) (p : Port) (tag : Nat) (q : Search) (all : Bool) : State :=
  match q with
  | .whereIs _ _ _ _ (some i) => s.searchNamed p tag q i all
  | _ =>
    let found := examineAll q s.houseTime (s.tableRecords q.session) []
    s.searchOn p tag q (if all then s.storeList q.session else []) found

/-- The ranges of R157's check 1; the scope TABLE is 0 and ALL is 1 (log entry 45). -/
def whereRangesOk (a : WhereArgs) : Bool :=
  decide (1 ≤ a.session ∧ a.session ≤ 65535 ∧ a.slot ≤ 31 ∧ a.scope ≤ 1) &&
  (a.rate.map rateCodeOk).getD true &&
  (a.index.map fun i => decide (1 ≤ i ∧ i ≤ 4294967295)).getD true

/-- A WHERE_IS handed to the engine (R157). -/
def State.handWhere (s : State) (p : Port) (tag : Nat) (a : WhereArgs) : State :=
  if !whereRangesOk a then s.reply p 0x1B tag .outOfRange
  else
    match a.rate.orElse fun _ => (s.dev a.slot).map fun d => d.set.rate with
    | none => s.reply p 0x1B tag .noDevice
    | some rate =>
      if !labelOk rate a.label then s.reply p 0x1B tag .badLabel
      else if a.scope = 1 ∧ !s.store.scanned then s.reply p 0x1B tag .notReady
      else
        s.search p tag (.whereIs a.session a.slot (frameOf rate a.label) rate a.index)
          (decide (a.scope = 1))

/-- An AT_TICK handed to the engine (R165). -/
def State.handAtTick (s : State) (p : Port) (tag : Nat) (a : AtTickArgs) : State :=
  if a.session < 1 ∨ 65535 < a.session ∨ maxHouseTime < a.tick ∨ 1 < a.scope then
    s.reply p 0x1C tag .outOfRange
  else if a.scope = 1 ∧ !s.store.scanned then s.reply p 0x1C tag .notReady
  else s.search p tag (.atTick a.session a.tick) (decide (a.scope = 1))

/-- A query handed to the conform engine (R156). -/
def State.handQuery (s : State) (p : Port) (tag : Nat) : Query → State
  | .whereIs a => s.handWhere p tag a
  | .atTick a => s.handAtTick p tag a

/-- A query arrives: it is handed over when the port's context is IDLE, else it waits in the list
(R156, R180). -/
def State.arriveQuery (s : State) (q : Req) (kind : Nat) (query : Query) : State :=
  if (s.port q.port).conform = .idle then
    (((s.enlist q kind none).handQuery q.port q.tag query).arbitrate)
  else s.enlist q kind (some query)

/-- WHERE_IS (R157). -/
def execWhereIs (q : Req) (a : WhereArgs) (s : State) : Out :=
  finish (s.admitWith q 0x1B .both a.fits fun s => s.arriveQuery q 0x1B (.whereIs a))

/-- AT_TICK (R165). -/
def execAtTick (q : Req) (a : AtTickArgs) (s : State) : Out :=
  finish (s.admitWith q 0x1C .both a.fits fun s => s.arriveQuery q 0x1C (.atTick a))

/-- The oldest waiting query of a list, and the list with it no longer waiting. -/
def nextQuery : List Outstanding → Option (Outstanding × Query × List Outstanding)
  | [] => none
  | o :: rest =>
    match o.query with
    | some x => some (o, x, { o with query := none } :: rest)
    | none => (nextQuery rest).map fun y => (y.1, y.2.1, o :: y.2.2)

/-- While a port's context is IDLE, the oldest waiting query is handed over; at most `fuel` of them,
for a refused one leaves the context IDLE (R156, R167). -/
def handWaiting : Nat → Port → State → State
  | 0, _, s => s
  | fuel + 1, p, s =>
    if (s.port p).conform ≠ .idle then s
    else
      match nextQuery (s.port p).outstanding with
      | none => s
      | some (o, x, rest) =>
        handWaiting fuel p
          ((s.modPort p fun y => { y with outstanding := rest }).handQuery p o.tag x)

/-- The answer to a conform read: the record is examined, and the search goes on (R159, R166). -/
def State.conformAnswer (s : State) (p : Port) (r : Option TakeRecord) : State :=
  match (s.port p).conform with
  | .busy tag q toRead found =>
    match q, r with
    | .whereIs _ _ _ _ (some _), none => s.replyQuery p q.kind tag .noTake []
    | _, none => s.searchOn p tag q toRead.tail found
    | _, some t => s.searchOn p tag q toRead.tail (found ++ (q.examine s.houseTime t).toList)
  | _ => s

/-- The answer to the read in flight, from the directory and the pages as they stand (R147). -/
def State.readAnswer (s : State) (r : ReadReq) : Option TakeRecord :=
  readTake s.store.directory s.flash.log r.session r.index

/-- STORE_READ_DONE (R147, R159, R166, R170, R173). -/
def execStoreReadDone (s : State) : Out :=
  finish (
    match s.store.op with
    | .read r live =>
      let a := s.readAnswer r
      let s1 := s.endOp false
      match r.client with
      | .conform p => (s1.conformAnswer p a).arbitrate
      | .exporter =>
        if live then
          (({ s1 with exporter := s1.exporter.answer a }).exportRun).arbitrate
        else s1.arbitrate
    | _ => s)

/-- What a sent message changes: a conform reply frees its context (R167); an export message lets the
export go on, or ends it for a waiting CANCEL_EXPORT (R171, R174, R175). -/
def State.afterSent (s : State) (p : Port) (m : Outgoing) : State :=
  match m with
  | .reply r =>
    if r.closes then handWaiting 5 p (s.modPort p fun x => { x with conform := .idle }) else s
  | .notice _ => s
  | .exported _ =>
    match s.exporter.cancel with
    | some tag => ({ s with exporter := s.exporter.messageSent }).endExport tag
    | none => ({ s with exporter := s.exporter.messageSent }).exportRun

/-- MESSAGE_SENT (R181). -/
def execMessageSent (p : Port) (s : State) : Out :=
  finish (
    match (s.port p).tx with
    | none => s
    | some m => ((s.modPort p fun x => { x with tx := none }).afterSent p m).arbitrate)

end Sys2Proof.Machine
end

