-- ==== Sys2Proof/Machine/Profiles.lean ====
section
/-!
DEFINITION. Drift profiles (R64 to R75): their encoding and CRC, their evaluation, and the requests
that load and read them.
-/

namespace Sys2Proof.Machine

/-- The seconds an interval code stands for (R65). -/
def intervalSeconds (code : Nat) : Nat :=
  ([10, 20, 30, 45, 60, 90, 120, 180, 240, 300, 450, 600, 900, 1200, 1800, 2400][code]?).getD 0

/-- The points with their ages in place of their codes, the first counted from `base` (R65). -/
def agedPoints (base : Nat) : List (Nat × Int) → List (Nat × Int)
  | [] => []
  | (c, l) :: rest => (base + intervalSeconds c, l) :: agedPoints (base + intervalSeconds c) rest

/-- The level after the point at age `t` and level `l` (R67): the sum is rounded once. -/
def levelFrom (t : Nat) (l : Int) (age : Nat) : List (Nat × Int) → Int
  | [] => l
  | (t2, l2) :: rest =>
    if age ≤ t2 then
      roundDiv (l * ((t2 : Int) - t) + (l2 - l) * ((age : Int) - t)) ((t2 : Int) - t)
    else levelFrom t2 l2 age rest

/-- The level of a curve of aged points at an age (R67). -/
def levelAt (age : Nat) : List (Nat × Int) → Int
  | [] => 0
  | (t, l) :: rest => if age ≤ t then l else levelFrom t l age rest

/-- What the profile store answers the tracking unit: level and bias of a COMPLETE profile, 0 and 0
for any other and for none (R68). -/
def State.profileAnswer (s : State) (p : Option Nat) (age : Nat) : Int × Int :=
  match p with
  | none => (0, 0)
  | some n =>
    let f := s.profile n
    if f.state = .complete then (levelAt age (agedPoints 0 f.points), f.bias) else (0, 0)

/-- The encoded content of a profile (section 11.5). -/
def profileFields (count : Nat) (bias : Int) (points : List (Nat × Int)) : List Field :=
  [fByte count, fByte (biasCode bias), fByte points.length] ++
    points.flatMap fun x => [fByte x.1, fLevel x.2]

/-- The CRC of a profile's content (R66). -/
def profileCrcOf (count : Nat) (bias : Int) (points : List (Nat × Int)) : Nat :=
  crc16 (encodeFields (profileFields count bias points))

/-- A profile of given content, its CRC recomputed (R66). -/
def Profile.make (st : ProfileState) (count : Nat) (bias : Int) (points : List (Nat × Int)) :
    Profile :=
  ⟨st, count, bias, points, profileCrcOf count bias points⟩

/-- What PROFILE_BEGIN and PROFILE_POINTS answer of a profile: number, state, pointer, CRC. -/
def State.profileReply (s : State) (n : Nat) : List Field :=
  let f := s.profile n
  [fByte n, fByte f.state.code, fByte f.points.length, fCount f.crc]

/-- PROFILE_BEGIN (R69). -/
def execProfileBegin (q : Req) (n count : Nat) (bias : Int) (s : State) : Out :=
  finish (s.admitted q 0x0B .control (holds 1 n && holds 1 count && biasFits bias) fun s =>
    if !s.store.applied then s.reply q.port 0x0B q.tag .notReady
    else if 7 < n ∨ count < 1 ∨ 12 < count ∨ bias < -8 ∨ 7 < bias then
      s.reply q.port 0x0B q.tag .outOfRange
    else
      let s1 := s.setProfile n (.make .loading count bias [])
      s1.reply q.port 0x0B q.tag .ok (s1.profileReply n))

/-- The points carried join the profile; the last one completes it (R71). That the point count of
PROFILE_COMPLETE travels in one byte, as the profile encoding has it, is log entry 8. -/
def State.storePoints (s : State) (n : Nat) (points : List (Nat × Int)) : State :=
  let f := s.profile n
  let all := f.points ++ points
  let done := decide (all.length = f.count)
  let g := Profile.make (if done then .complete else .loading) f.count f.bias all
  let s1 := s.setProfile n g
  if done then
    s1.notify 0x4C [fByte n, fByte f.count, fByte (biasCode f.bias), fCount g.crc, fTick s.houseTime]
  else s1

/-- PROFILE_POINTS (R70, R71). -/
def execProfilePoints (q : Req) (n : Nat) (points : List (Nat × Int)) (s : State) : Out :=
  finish (s.admitted q 0x0C .control (holds 1 n && pointsFit points) fun s =>
    let f := s.profile n
    let stand := [fByte f.state.code, fByte f.points.length]
    if !s.store.applied then s.reply q.port 0x0C q.tag .notReady
    else if 7 < n then s.reply q.port 0x0C q.tag .outOfRange
    else if points.length < 1 ∨ 4 < points.length then s.reply q.port 0x0C q.tag .malformed
    else if f.state ≠ .loading then s.reply q.port 0x0C q.tag .notReady stand
    else if f.count < f.points.length + points.length then
      s.reply q.port 0x0C q.tag .outOfRange stand
    else if points.any fun x => decide (15 < x.1 ∨ x.2 < -127 ∨ 127 < x.2) then
      s.reply q.port 0x0C q.tag .outOfRange
    else
      let s1 := s.storePoints n points
      s1.reply q.port 0x0C q.tag .ok (s1.profileReply n))

/-- What PROFILE_READ answers: the state, the profile encoding, the ages, the CRC (R72, 11.5). The
ages follow one for each stored point, with no item count of their own, the load pointer having
counted the points (log entry 15). -/
def State.profileReadAnswer (s : State) (n : Nat) : Answer :=
  let f := s.profile n
  if 7 < n then (.outOfRange, [])
  else (.ok, [fByte f.state.code] ++ profileFields f.count f.bias f.points ++
    ((agedPoints 0 f.points).map fun x => fLong x.1) ++ [fCount f.crc])

/-- PROFILE_READ (R72). -/
def execProfileRead (q : Req) (n : Nat) (s : State) : Out :=
  finish (s.ask q 0x0D (holds 1 n) fun s => s.profileReadAnswer n)

end Sys2Proof.Machine
end

