-- ==== Sys2Proof/Machine/Tracking.lean ====
section
/-!
DEFINITION. The tracking unit (R96 to R116): replies and measurements, confirmed jams, claps, missed
replies, prediction steps and the two countdowns.
-/

namespace Sys2Proof.Machine

/-! ### Replies (R102) -/

/-- The entries made in the history after the mark of a number (R102). -/
def Radio.entriesAfter (r : Radio) (number : Nat) : Nat :=
  (r.history.reverse.takeWhile fun m => decide (m.number ≠ number)).length

/-- An echo is stale when its named mark is not among the newest entries since the latest step or
origin change (R102). -/
def State.stale (s : State) (m : Mark) : Bool := decide (s.marks ≤ s.radio.entriesAfter m.number)

/-- The reply handling of R102. -/
def State.replyHandling (s : State) (slot : Nat) (e : Echo) (m : Mark) : State :=
  s.modLive slot fun l =>
    { l with missedReplies := 0, age := e.age + s.radio.entriesAfter m.number }

/-! ### Measurements (R103 to R105) -/

/-- A frame count and phase in 65,536ths of a tick: `(k·P + ψ·P/65,536)·65,536`. -/
def echoTicks (period k psi : Nat) : Int := (k * 65536 + psi) * (period : Int)

/-- The measured offset of a device with segment start `j` at the mark of house time `b` (R103). -/
def measuredOffset (period : Nat) (e : Echo) (b j : Int) : Int :=
  roundDiv (echoTicks period e.frames e.phase - (b - j) * 65536) 65536

/-- The residual: |O − round(p/1000)| (R103). -/
def residualOf (o predicted : Int) : Nat := (o - roundDiv predicted 1000).natAbs

/-- The new drift rate and RATE_LIMITED (R104). -/
def measuredRate (l : Live) (o b : Int) : Int × Bool :=
  match l.baseline with
  | none => (l.rate, l.rateLimited)
  | some (o1, b1) =>
    if b1 < b then
      let r := roundDiv ((o - o1) * rateUnit) (b - b1)
      (clamp (-10000) 10000 r, decide (r < -10000 ∨ 10000 < r))
    else if b = b1 then (l.rate, l.rateLimited)
    else (clamp (-10000) 10000 (Config.backwardRate o1 b1 o b), Config.backwardLimited o1 b1 o b)

/-- The device record after a measurement (R103). -/
def Live.measured (l : Live) (o b : Int) (age : Nat) : Live :=
  let r := measuredRate l o b
  { l with
    rate := r.1
    rateLimited := r.2
    lastResidual := residualOf o l.predicted
    offset := some o
    predicted := 1000 * o
    tMeas := some b
    anchorAge := some age
    baseline := some (o, b)
    hasMeas := true }

/-- The latest of an entry's segments changed (R105). -/
def modLast (f : Segment → Segment) : List Segment → List Segment
  | [] => []
  | [x] => [f x]
  | x :: xs => x :: modLast f xs

/-- The offset an echo measures, when it gives a measurement (R103). -/
def State.measures (s : State) (d : Device) (e : Echo) (m : Mark) : Option Int :=
  match d.live.jam with
  | none => none
  | some (j, _) =>
    if !s.stale m && decide (j ≤ m.tick) then
      some (measuredOffset (periodOf d.set.rate) e m.tick j)
    else none

/-- A measurement taken: the device record, then the entry's latest segment (R103, R105). -/
def State.takeMeasurement (s : State) (slot : Nat) (d : Device) (o : Int) (e : Echo) (m : Mark) :
    State :=
  let l := d.live.measured o m.tick e.age
  let latest (g : Segment) : Segment := { g with rate := l.rate, residual := l.lastResidual }
  (s.modLive slot fun _ => l).writeEntry slot fun p =>
    { p with segments := modLast latest p.segments }

/-! ### Claps (R107, R131) -/

/-- The position of the latest clap: its house tick and label frame, when it can be placed
(R107). -/
def Device.clapPlace (d : Device) (e : Echo) (usable : Bool) : Option (Int × Nat) :=
  match e.clap, d.live.jam with
  | some (k, psi), some (j, n0) =>
    if usable then
      some (j + roundDiv (echoTicks (periodOf d.set.rate) k psi * rateUnit)
          (65536 * (rateUnit + d.live.rate)), (n0 + k) % dayOf d.set.rate)
    else none
  | _, _ => none

/-- The record after claps: the total stays at 65,535, and the list holds at most four (R131). -/
def TakeRecord.addClaps (r : TakeRecord) (slot n : Nat) (place : Option (Int × Nat)) : TakeRecord :=
  { r with
    clapTotal := min (r.clapTotal + n) 65535
    claps := match place with
      | some (t, f) => if r.claps.length < 4 then r.claps ++ [⟨slot, t, f⟩] else r.claps
      | none => r.claps }

/-- The position of a clap that the list has room for (R131). -/
def TakeRecord.keptPlace (r : TakeRecord) (place : Option (Int × Nat)) : Option (Int × Nat) :=
  if r.claps.length < 4 then place else none

/-- Claps handed to the take table (R131). -/
def State.handClaps (s : State) (slot n : Nat) (place : Option (Int × Nat)) : State :=
  match s.currentOf slot with
  | .logged ss ix =>
    match s.findTake ss ix with
    | none => s
    | some t =>
      let kept := t.copy.keptPlace place
      (s.modTake ss ix fun x => x.mod fun r => r.addClaps slot n place).notify 0x49
        ([fByte t.copy.unit, fSession ss, fIndex ix, fByte slot, fCount n,
          fCount (t.copy.addClaps slot n place).clapTotal] ++
          fOpt1 fTick (kept.map Prod.fst) ++ fOpt1 fFrame (kept.map Prod.snd))
  | _ => s

/-- The clap count of an echo compared with the last one held (R107). -/
def State.takeClaps (s : State) (slot : Nat) (e : Echo) (usable : Bool) : State :=
  match s.dev slot with
  | none => s
  | some d =>
    let s1 := s.modLive slot fun l => { l with lastClap := some e.clapCount }
    match d.live.lastClap with
    | none => s1
    | some c =>
      if d.set.kind = .slate ∧ c ≠ e.clapCount then
        s1.handClaps slot ((((e.clapCount : Int) - c) % 256).toNat) (d.clapPlace e usable)
      else s1

/-! ### Outcomes (R101, R106, R113, R114) -/

/-- The participant entry after a confirmed jam (R106, R130). -/
def Participant.rejam (p : Participant) (g : Segment) : Participant :=
  match p.segments with
  | [] => { p with segments := [g], uncertain := true, startFrame := some g.frame }
  | [a] => { p with segments := [a, g], rejammed := true }
  | a :: _ => { p with segments := [a, g], uncertain := true }

/-- The periodic countdown loaded from the code, stopped for code 0 (R101, R110). -/
def periodicLoad (code : Nat) : Option Nat := if code = 0 then none else some (30 * code)

/-- The live fields after a confirmed jam (R101). -/
def Live.jammed (l : Live) (j : Int) (n0 age code : Nat) : Live :=
  { l with
    jam := some (j, n0)
    offset := some 0
    tMeas := some j
    anchorAge := some age
    baseline := some (0, j)
    predicted := 0
    lastResidual := 0
    missedRejams := 0
    missedReplies := 0
    held := false
    periodicLeft := periodicLoad code }

/-- The waiting re-jam requests that a confirmed jam satisfies are removed (R86). -/
def Radio.satisfied (r : Radio) (slot : Nat) : Radio :=
  { r with requests := r.requests.filter fun x =>
      !(x.slot = slot && (x.cls = .overdue || x.cls = .drift || x.cls = .periodic)) }

/-- A confirmed jam (R101, R106). -/
def State.confirmJam (s : State) (slot : Nat) (e : Echo) (j : Int) (n0 : Nat) : State :=
  match s.dev slot with
  | none => s
  | some d =>
    let s1 := s.modLive slot fun l => l.jammed j n0 e.age d.set.periodic
    let s2 := { s1 with radio := s1.radio.satisfied slot }
    let s3 := s2.writeEntry slot fun p => p.rejam ⟨j, n0, d.live.rate, 0⟩
    (s3.enter slot .tracked).noteDevice slot (some d.live.state) (some .tracked) .jam
      (some (j, n0))

/-- A CONFIRMED outcome: the reply, the jam, then the claps as a count (R101, R102, R107). R101 puts
the jam after the reply; that the jam and its DEVICE_STATE notice come before the claps and their CLAP
notice is log entry 29. -/
def State.confirmed (s : State) (slot : Nat) (e : Echo) (m : Mark) (n0 : Nat) : State :=
  ((s.replyHandling slot e m).confirmJam slot e m.tick n0).takeClaps slot e false

/-- A return from OUT_OF_RANGE on an echo (R114). -/
def State.returnFrom (s : State) (slot : Nat) (o : Option Int) : State :=
  match s.dev slot with
  | none => s
  | some d =>
    if (o.map fun x => decide (x.natAbs < d.toleranceTicks)) = some true then
      (s.enter slot .tracked).noteDevice slot (some .outOfRange) (some .tracked) .back none o
    else
      let s1 := (s.enter slot .jamPending).noteDevice slot (some .outOfRange) (some .jamPending)
        .back none o
      s1.postOrHold .drift slot false

/-- An ECHO outcome: the reply, the measurement, the claps, and a return from OUT_OF_RANGE (R102,
R103, R107, R114). -/
def State.echoed (s : State) (slot : Nat) (e : Echo) (m : Mark) : State :=
  match s.dev slot with
  | none => s
  | some d =>
    let s1 := s.replyHandling slot e m
    let o := s.measures d e m
    let s2 := match s1.dev slot, o with
      | some d1, some x => s1.takeMeasurement slot d1 x e m
      | _, _ => s1
    let s3 := s2.takeClaps slot e (!s.stale m)
    if d.live.state = .outOfRange then s3.returnFrom slot o else s3

/-- A NO_REPLY outcome (R113). -/
def State.missedReply (s : State) (slot : Nat) : State :=
  match s.dev slot with
  | none => s
  | some d =>
    if d.live.state = .jamPending ∨ d.live.state = .tracked ∨ d.live.state = .drifting then
      let n := d.live.missedReplies + 1
      let s1 := s.modLive slot fun l => { l with missedReplies := n }
      if 3 ≤ n then
        ((s1.modLive slot fun l => { l with missedRejams := 0 }).enter slot .outOfRange).noteDevice
          slot (some d.live.state) (some .outOfRange) .missed
      else s1
    else s

/-! ### Beacon marks (R96, R108 to R112) -/

/-- The power-on age of every declared radio device advances by one (R96). -/
def State.ageAll (s : State) : State :=
  { s with
    marks := min (s.marks + 1) 256
    slots := s.slots.map fun o => o.map fun d =>
      if d.isRadio then { d with live := { d.live with age := d.live.age + 1 } } else d }

/-- The re-anchor of R73 at the mark of house time `t`. With has-measurement clear, R73 says that
t_meas stays absent, while R101 has set it to J for every device that is stepped: t_meas keeps what it
holds (log entry 46). -/
def Live.reanchor (l : Live) (current : Option Nat) (t : Int) : Live :=
  if l.crc = current then l
  else if l.hasMeas then
    { l with crc := current, tMeas := some t, anchorAge := some l.age }
  else { l with crc := current }

/-- The rate used at a prediction step (R108). -/
def State.rateUsed (s : State) (profile : Option Nat) (l : Live) : Int :=
  let now := s.profileAnswer profile l.age
  if l.hasMeas then l.rate + 10 * (now.1 - (s.profileAnswer profile (l.anchorAge.getD l.age)).1)
  else 10 * (now.1 + now.2)

/-- The device is predicted: TRACKED or DRIFTING (R98). -/
def Live.predictedState (l : Live) : Bool := decide (l.state = .tracked ∨ l.state = .drifting)

/-- The live fields after the growth of a prediction step (R73, R108). -/
def State.grown (s : State) (d : Device) (t : Int) : Live :=
  let l := d.live.reanchor (s.profileCrc d.set.profile) t
  { l with predicted := l.predicted + s.rateUsed d.set.profile l * 96 }

/-- The prediction step of one device (R108, R109, R111). -/
def State.predictOne (s : State) (t : Int) (slot : Nat) : State :=
  match s.dev slot with
  | none => s
  | some d =>
    if d.live.predictedState then
      let l := s.grown d t
      let s1 := s.modLive slot fun _ => l
      if d.live.state = .tracked ∧ 1000 * d.toleranceTicks ≤ l.predicted.natAbs then
        s1.postOrHold .drift slot (decide (2000 * d.toleranceTicks ≤ l.predicted.natAbs))
      else s1
    else s

/-- Every slot, in ascending order. -/
def allSlots : List Nat := List.range 32

/-- The prediction step: every device in TRACKED or DRIFTING is stepped (R108). No rule orders the
devices of one step: they are stepped, and their DRIFT requests aged, in ascending slots (log
entry 47). -/
def State.predict (s : State) (t : Int) : State :=
  allSlots.foldl (fun x i => x.predictOne t i) s

/-- A hold ends at a mark for a device whose quiet-in-take setting is off (R112). -/
def State.releaseOne (s : State) (slot : Nat) : State :=
  match s.dev slot with
  | some d => if d.isRadio && !d.set.quiet then s.endHold slot else s
  | none => s

/-- The poll countdown at a mark: cut to the period in force, then down by one (R91, R92). -/
def pollDown (period left : Option Nat) : Option Nat :=
  match period, left with
  | some p, some c => some (min c p - 1)
  | _, _ => left

/-- The periodic countdown at a mark (R110). That it is cut to 30·n before it goes down, as R92 has the
poll countdown, is log entry 28. -/
def periodicDown (code : Nat) (left : Option Nat) : Option Nat :=
  if code = 0 then none
  else
    match left with
    | none => some (30 * code)
    | some c => some (min c (30 * code) - 1)

/-- Both countdowns of a device at a mark. -/
def State.countDown (s : State) (d : Device) : Live :=
  { d.live with
    pollLeft := pollDown (s.pollPeriod d) d.live.pollLeft
    periodicLeft :=
      if d.live.predictedState then periodicDown d.set.periodic d.live.periodicLeft
      else d.live.periodicLeft }

/-- The countdowns of every radio device (R91, R110). -/
def State.countAll (s : State) : State :=
  { s with slots := s.slots.map fun o => o.map fun d =>
      if d.isRadio then { d with live := s.countDown d } else d }

/-- A beacon mark handed to the tracking unit with its number and house time. No rule orders the
prediction step and the countdowns inside one mark: the step comes first, so a poll countdown that it
reloads goes down at this mark (log entry 28). -/
def State.trackMark (s : State) (number : Nat) (t : Int) : State :=
  let s1 := s.ageAll
  let s2 := if number % 4 = 0 then s1.predict t else s1
  (allSlots.foldl State.releaseOne s2).countAll

/-! ### The countdowns' expiries -/

/-- The poll countdown of a polled device has run out (R91). -/
def State.pollRunOut (s : State) (slot : Nat) : Bool :=
  match s.dev slot with
  | some d => decide (d.live.pollLeft = some 0) && (s.pollPeriod d).isSome
  | none => false

/-- POLL_DUE: a POLL is posted and the countdown reloaded with the period in force (R91). -/
def execPollDue (slot : Nat) (s : State) : Out :=
  finish (
    match s.dev slot with
    | some d =>
      if s.pollRunOut slot then
        (s.modLive slot fun l => { l with pollLeft := s.pollPeriod d }).post .poll slot
      else s
    | none => s)

/-- The periodic interval of a TRACKED or DRIFTING device has run out (R110). -/
def State.periodicRunOut (s : State) (slot : Nat) : Bool :=
  match s.dev slot with
  | some d =>
    decide (d.live.periodicLeft = some 0) && d.live.predictedState && decide (d.set.periodic ≠ 0)
  | none => false

/-- PERIODIC_EXPIRY: the countdown is reloaded, and a PERIODIC request is posted or held (R110,
R111). -/
def execPeriodicExpiry (slot : Nat) (s : State) : Out :=
  finish (
    match s.dev slot with
    | some d =>
      if s.periodicRunOut slot then
        (s.modLive slot fun l => { l with periodicLeft := periodicLoad d.set.periodic }).postOrHold
          .periodic slot true
      else s
    | none => s)

end Sys2Proof.Machine
end

