-- ==== Sys2Proof/Machine/Radio.lean ====
section
/-!
DEFINITION. The slate link (R76 to R95): beacon marks, the arbiter and its packets, echoes and
transaction ends, and the two radio requests.
-/

namespace Sys2Proof.Machine

/-! ### Beacon marks (R76, R79) -/

/-- An entry added to the beacon history, the oldest of 256 removed first (R79). -/
def addMark (h : List Mark) (m : Mark) : List Mark := (h ++ [m]).drop (h.length + 1 - 256)

/-- The radio unit at a beacon mark of house time `t` (R76, R77). -/
def Radio.mark (r : Radio) (t : Nat) : Radio :=
  { r with
    next := (r.next + 1) % 256
    history := addMark r.history ⟨r.next, t, r.enabled⟩
    opened := r.enabled
    out := if r.enabled then some (.beacon r.next) else r.out
    markDue := none
    slotDue := none }

/-- The house time of the beacon mark that is due and can be taken: a transaction of slot 19 ends
first (R77). -/
def Radio.takeableMark (r : Radio) : Option Nat := if r.flight.isNone then r.markDue else none

/-- BEACON_MARK (R76). -/
def execBeaconMark (s : State) : Out :=
  finish (
    match s.radio.takeableMark with
    | some t => ({ s with radio := s.radio.mark t }).trackMark s.radio.next t
    | none => s)

/-! ### Packets (R80, R81, R100) -/

/-- The label frame a JAM carries at the mark of house time `j` (R100). -/
def jamFrame (d : Device) (frame : Option Nat) (j : Nat) : Nat :=
  frame.getD ((roundDiv j (periodOf d.set.rate) + d.set.origin) % dayOf d.set.rate).toNat

/-- A radio device's address; 0 for a wired one, which has no transaction. -/
def Device.address (d : Device) : Nat :=
  match d.set.att with
  | .radio a => a
  | .line _ => 0

/-- The roll name held for the lowest-numbered camera slot of a unit that has one (R81). -/
def SlateInfo.lowestRoll (i : SlateInfo) : Text :=
  match i.rolls with
  | [] => []
  | x :: xs => (xs.foldl (fun m y => if y.1 < m.1 then y else m) x).2

/-- The packet of a request at a slot start (R80, R81). -/
def State.packetFor (s : State) (q : Request) (d : Device) (m : Mark) : Packet :=
  match q.cls with
  | .hostJam | .overdue | .drift | .periodic =>
    .jam d.address m.number d.set.rate (jamFrame d q.frame m.tick)
  | .poll => .poll d.address
  | .display =>
    let i := (s.unit (d.set.unit.getD 0)).info
    .display d.address i.scene i.takeNo i.lowestRoll

/-- The transaction of a request begins at slot start `b` in the second of mark `m`: the request
leaves its set, and the packet is sent (R84, R87). -/
def State.begin (s : State) (q : Request) (d : Device) (b : Nat) (m : Mark) : State :=
  let packet := s.packetFor q d m
  { s with radio := { s.radio.remove q with
      flight := some ⟨q, packet, b, m, jamFrame d q.frame m.tick, none, false⟩
      out := some packet } }

/-! ### The arbiter (R87, R88) -/

/-- What the arbiter makes of a waiting request. -/
inductive Verdict where
  | take | pass | hold | discard
  deriving DecidableEq, Repr

/-- A re-jam of a held-back device is held, a HOST_JAM of one is passed over, and a DISPLAY for a
slate with no unit is discarded; any other request is taken (R81, R87, R88). -/
def judge (q : Request) (d : Device) : Verdict :=
  match q.cls with
  | .hostJam => if d.heldBack then .pass else .take
  | .overdue | .drift | .periodic => if d.heldBack then .hold else .take
  | .poll => .take
  | .display => if d.set.unit.isSome then .take else .discard

/-- The requests examined in order until one is taken (R87). -/
def State.choose (s : State) (b : Nat) (m : Mark) : List Request → State
  | [] => s
  | q :: rest =>
    match s.dev q.slot with
    | none => State.choose s b m rest
    | some d =>
      match judge q d with
      | .take => s.begin q d b m
      | .pass => State.choose s b m rest
      | .hold =>
        State.choose (({ s with radio := s.radio.remove q }).holdTrigger q.slot false) b m rest
      | .discard => State.choose { s with radio := s.radio.remove q } b m rest

/-- The waiting requests in rank order, each class oldest first (R87). -/
def Radio.ranked (r : Radio) : List Request :=
  [ReqClass.hostJam, .overdue, .drift, .periodic, .poll, .display].flatMap r.classSet

/-- The slot start that is due and can be taken: slots 1 to 19 of an open second, once the
transaction before has ended (R77). -/
def Radio.takeableSlot (r : Radio) : Option Nat :=
  if r.opened && r.flight.isNone then r.slotDue.filter fun b => decide (b % ticksPerSecond ≠ 0)
  else none

/-- SLOT_START (R77, R87). -/
def execSlotStart (s : State) : Out :=
  finish (
    match s.radio.takeableSlot, s.radio.history.getLast? with
    | some b, some m =>
      State.choose { s with radio := { s.radio with slotDue := none } } b m s.radio.ranked
    | _, _ => s)

/-! ### Echoes and transaction ends (R82, R83) -/

/-- The entry of the history that maps a beacon number to a sent mark (R79, R82). -/
def Radio.sentMark (r : Radio) (number : Nat) : Option Mark :=
  r.history.find? fun m => m.number = number && m.sent

/-- The address a JAM or POLL was sent to; a BEACON and a DISPLAY have no reply window. -/
def Packet.replyAddress : Packet → Option Nat
  | .jam a _ _ _ => some a
  | .poll a => some a
  | .beacon _ | .display _ _ _ _ => none

/-- The transaction's slot has ended (R77, R83). -/
def State.slotOver (s : State) (t : Transaction) : Bool :=
  decide (t.start + ticksPerSlot ≤ s.houseTime)

/-- The mark an echo is accepted with, when it is accepted (R82). -/
def State.accepts (s : State) (t : Transaction) (e : Echo) (intact : Bool) : Option Mark :=
  if intact && !s.slotOver t && decide (t.packet.replyAddress = some e.address) && t.echo.isNone then
    s.radio.sentMark e.beacon
  else none

/-- ECHO_RECEIVED (R82). -/
def execEchoReceived (e : Echo) (intact : Bool) (s : State) : Out :=
  finish (
    match s.radio.flight with
    | some t =>
      match s.accepts t e intact with
      | some m => { s with radio := { s.radio with flight := some { t with echo := some (e, m) } } }
      | none => s
    | none => s)

/-- An unconfirmed JAM's request goes back (R90). -/
def State.requeue (s : State) (q : Request) : State := { s with radio := s.radio.requeue q }

/-- The outcome of a transaction handed to the tracking unit (R83, R86, R90). -/
def State.outcome (s : State) (t : Transaction) : State :=
  match t.packet, t.echo with
  | .jam _ number _ _, some (e, m) =>
    if m.number = number then s.confirmed t.request.slot e t.mark t.frame
    else (s.requeue t.request).echoed t.request.slot e m
  | .jam _ _ _ _, none => (s.requeue t.request).missedReply t.request.slot
  | .poll _, some (e, m) => s.echoed t.request.slot e m
  | .poll _, none => s.missedReply t.request.slot
  | .beacon _, _ | .display _ _ _ _, _ => s

/-- TRANSACTION_END (R83); a discarded outcome hands nothing (R89). -/
def execTransactionEnd (s : State) : Out :=
  finish (
    match s.radio.flight with
    | some t =>
      if s.slotOver t then
        let s1 := { s with radio := { s.radio with flight := none } }
        if t.dropped then s1 else s1.outcome t
      else s
    | none => s)

/-! ### Requests (R93, R94) -/

/-- The radio enable setting changed (R93). -/
def Radio.setEnabled (r : Radio) (on : Bool) : Radio :=
  if r.enabled = on then r
  else if on then { r with enabled := true }
  else { r.abandon with enabled := false }

/-- RADIO_ENABLE (R93). -/
def execRadioEnable (q : Req) (on : Bool) (s : State) : Out :=
  finish (s.admitted q 0x0E .control true fun s =>
    if !s.store.applied then s.reply q.port 0x0E q.tag .notReady
    else
      ({ s with radio := s.radio.setEnabled on }).reply q.port 0x0E q.tag .ok [fFlag on])

/-- The slot of a house second in which a house time lies (R77). -/
def slotOf (t : Nat) : Nat := t % ticksPerSecond / ticksPerSlot

/-- The kind of a packet, in the order of the packet table (section 5.2). -/
def Packet.code : Packet → Nat
  | .beacon _ => 0 | .jam _ _ _ _ => 1 | .poll _ => 2 | .display _ _ _ _ => 3

/-- The address a packet goes to; a BEACON has none. -/
def Packet.address : Packet → Nat
  | .beacon _ => 0
  | .jam a _ _ _ => a
  | .poll a => a
  | .display a _ _ _ => a

/-- A JAM's mark number and n₀. -/
def Packet.jamOf : Packet → Option (Nat × Nat)
  | .jam _ number _ frame => some (number, frame)
  | _ => none

/-- The fields of the transaction in flight (R94). That it travels as one optional field, and the mark
number and n₀ of a JAM behind one presence byte inside it, is log entry 15. -/
def Transaction.fields (t : Transaction) : List Field :=
  [fByte t.packet.code, fByte t.request.slot, fByte t.packet.address, fByte (slotOf t.start)] ++
    fOpt (fun x => [fByte x.1, fFrame x.2]) t.packet.jamOf

/-- The requests of a class that wait: their number, then the list of their slots (R94; that both
travel, log entry 8). -/
def Radio.classFields (r : Radio) (c : ReqClass) : List Field :=
  fCount (r.classSet c).length :: fList (fun x => [fByte x.slot]) (r.classSet c)

/-- The fields of a RADIO_STATUS reply in R94's order. That the latest mark and the transaction are one
optional field each, and the current slot has no presence byte, is log entry 15. -/
def State.radioFields (s : State) : List Field :=
  let r := s.radio
  [fFlag r.enabled, fByte r.next] ++
  fOpt (fun m => [fByte m.number, fTick m.tick, fFlag m.sent]) r.history.getLast? ++
  [fFlag r.opened, fByte (slotOf s.houseTime)] ++ fOpt Transaction.fields r.flight ++
  [ReqClass.hostJam, .overdue, .drift, .periodic, .poll, .display].flatMap r.classFields

/-- RADIO_STATUS (R94). -/
def execRadioStatus (q : Req) (s : State) : Out :=
  finish (s.ask q 0x0F true fun s => (.ok, s.radioFields))

end Sys2Proof.Machine
end

