-- ==== Sys2Proof/Machine/Takes.lean ====
section
/-!
DEFINITION. Units and takes (R117 to R135): opening and closing a take, the run tally, and the
requests on units and takes.
-/

namespace Sys2Proof.Machine

/-! ### Participant entries (R123, R129) -/

/-- A device's segment as a participant entry copies it (R123). -/
def Live.segment (l : Live) : List Segment :=
  match l.jam with
  | some (j, n0) => [⟨j, n0, l.rate, l.lastResidual⟩]
  | none => []

/-- A device's position at a house tick, from its settings as they stand and, for a radio device, its
jam segment; a radio device with no segment has none (R21). -/
def Device.position (d : Device) (t : Int) : Option Position :=
  let recorder := decide (d.set.kind = .recorder)
  if d.isRadio then
    d.live.jam.map fun x =>
      radioPosition d.set.rate d.set.audio d.set.pull recorder x.1 x.2 d.live.rate t
  else
    some (wiredPosition d.set.rate d.set.audio d.set.pull recorder d.set.phase d.set.origin t)

/-- The label frame a device shows at a house tick: that of its position (R21). -/
def Device.frameAt (d : Device) (t : Int) : Option Nat := (d.position t).map Position.frame

/-- A wired device's line is not ACTIVE (R123). -/
def State.lineDown (s : State) (d : Device) : Bool :=
  match d.lineNo with
  | some n => decide ((s.line n).state ≠ .active)
  | none => false

/-- A radio device is UNCERTAIN at the open when it has no segment or is DRIFTING (R123). -/
def Device.uncertainAtOpen (d : Device) : Bool :=
  d.isRadio && (d.live.jam.isNone || decide (d.live.state = .drifting))

/-- The participant entry formed at an open at house time `t` (R123). -/
def State.participant (s : State) (t : Nat) (slot : Nat) (d : Device) : Participant :=
  let recorder := decide (d.set.kind = .recorder)
  { slot := slot
    kind := d.set.kind
    att := d.set.att
    rate := d.set.rate
    audio := if recorder then d.set.audio else 0
    pull := if recorder then d.set.pull else 0
    phase := if d.isRadio then 0 else d.set.phase
    origin := if d.isRadio then 0 else d.set.origin
    startFrame := d.frameAt t
    endFrame := none
    rollStart := none
    rollStop := none
    rejammed := false
    lineFault := if s.lineDown d then some t else none
    uncertain := d.uncertainAtOpen
    segments := if d.isRadio then d.live.segment else [] }

/-- The participant entries of a unit's take, in ascending slot order (R122). -/
def State.participants (s : State) (t u : Nat) : List Participant :=
  (s.assigned u).map fun x => s.participant t x.1 x.2

/-! ### Finding an entry (R124) -/

/-- An entry's commit order when its record is COMMITTED. -/
def evictable : Option Entry → Option Nat
  | some e => if e.copy.state = .committed then some (e.order.getD 0) else none
  | none => none

/-- The entry with the lowest commit order among those evictable, with that order. -/
def lowestOrder : List (Option Entry × Nat) → Option (Nat × Nat)
  | [] => none
  | (e, i) :: rest =>
    match evictable e, lowestOrder rest with
    | some o, some (o2, j) => if o < o2 then some (o, i) else some (o2, j)
    | some o, none => some (o, i)
    | none, r => r

/-- The entry an opening gets: a free one, else the one committed earliest, else none (R124). -/
def TakeTable.place (t : TakeTable) : Option Nat :=
  let l := t.entries.toList.zipIdx
  match l.find? fun x => x.1.isNone with
  | some x => some x.2
  | none => (lowestOrder l).map Prod.snd

/-! ### Opening (R122, R125) -/

/-- The record of a take at its opening (R123). -/
def State.newRecord (s : State) (u : Nat) (o : Opener) (index : Nat) : TakeRecord :=
  let t := s.houseTime
  let ps := s.participants t u
  let i := (s.unit u).info
  { session := s.store.session, index := index, unit := u, takeNo := i.takeNo, scene := i.scene,
    opener := o, state := .opened, startTick := t, endTick := none, circled := false,
    falseStart := false, timeUncertain := ps.any Participant.uncertain, note := none,
    participants := ps, clapTotal := 0, claps := [] }

/-- The unit becomes ROLLING, and its assigned devices' current take is set (R122, R125). -/
def State.startRolling (s : State) (u : Nat) (o : Opener) (c : CurrentTake) : State :=
  let s1 := s.modUnit u fun x =>
    { x with current := c, opener := some o, start := s.houseTime }
  (s.assigned u).foldl (fun t x => t.modLive x.1 fun l => { l with current := c }) s1

/-- The slots of a unit's devices, as a list field. -/
def State.slotList (s : State) (u : Nat) : List Field :=
  fList (fun x => [fByte x.1]) (s.assigned u)

/-- A take opens with a record in entry `k` (R122). TAKE_OPENED numbers opened by as the take record
does, HOST 0 and ROLL_SENSE 1 (log entry 15). -/
def State.openLogged (s : State) (u : Nat) (o : Opener) (k : Nat) : State :=
  let index := s.takes.lastIndex + 1
  let r := s.newRecord u o index
  let s1 := { s with takes := { s.takes with
    lastIndex := index
    entries := s.takes.entries.setIfInBounds k (some ⟨r, none, 0⟩) } }
  (s1.startRolling u o (.logged s.store.session index)).notify 0x47
    ([fByte u, fSession r.session, fIndex index] ++ fText r.scene ++
      [fCount r.takeNo, fByte o.code, fTick r.startTick] ++
      fLabel (houseLabel s.house r.startTick) ++ s.slotList u)

/-- A take opens with no record (R125). TAKE_UNLOGGED numbers opened by as TAKE_OPENED does (log
entry 15). -/
def State.openUnlogged (s : State) (u : Nat) (o : Opener) : State :=
  let i := (s.unit u).info
  (s.startRolling u o (.unlogged u)).notify 0x4A
    ([fByte u] ++ fText i.scene ++ [fCount i.takeNo, fByte o.code, fTick s.houseTime] ++
      s.slotList u)

/-- A take opens on an IDLE unit (R122). -/
def State.openTake (s : State) (u : Nat) (o : Opener) : State :=
  match s.takes.place with
  | some k => s.openLogged u o k
  | none => s.openUnlogged u o

/-! ### Closing (R128, R129) -/

/-- The record frozen at the end tick (R128, R129). -/
def TakeRecord.freeze (r : TakeRecord) (t : Nat) : TakeRecord :=
  { r with
    state := .closed
    endTick := some t
    participants := r.participants.map fun p => { p with endFrame := p.frameAt t } }

/-- The number after a take number: 999 is followed by 1 (R128). -/
def nextTakeNo (n : Nat) : Nat := if n = 999 then 1 else n + 1

/-- The record frozen, queued, and handed to the export engine (R128, steps 1 to 3). -/
def State.freezeTake (s : State) (session index : Nat) : State :=
  let s1 := s.modTake session index fun e =>
    { e.mod (fun r => r.freeze s.houseTime) with closeCounter := s.clock.counter }
  let s2 := { s1 with takes := { s1.takes with queue := s1.takes.queue ++ [index] } }
  ({ s2 with exporter := s2.exporter.closed session index }).exportRun

/-- A participant's current take returns to none, which ends its hold (R128, step 4; R112). -/
def State.leaveTake (s : State) (c : CurrentTake) (slot : Nat) : State :=
  if s.currentOf slot = c then
    (s.modLive slot fun l => { l with current := .none }).endHold slot
  else s

/-- The unit becomes IDLE, and its slates are sent a DISPLAY (R128, steps 4 to 6). The OVERDUE
requests of one close, and its DISPLAY requests, are posted in ascending slots (log entry 47). -/
def State.stopRolling (s : State) (u : Nat) (c : CurrentTake) : State :=
  let s1 := allSlots.foldl (fun t i => t.leaveTake c i) s
  let s2 := s1.modUnit u fun x =>
    { x with current := .none, opener := none,
             info := { x.info with takeNo := nextTakeNo x.info.takeNo } }
  ((s2.assigned u).filter fun x => x.2.set.kind = .slate).foldl (fun t x => t.post .display x.1) s2

/-- What a TAKE_CLOSED notice and an END_TAKE reply say of a take that closes. -/
structure Closing where
  unit    : Nat
  session : Nat
  index   : Option Nat
  takeNo  : Nat
  start   : Nat
  fin     : Nat
  marks   : Option Nat
  claps   : Option Nat
  deriving DecidableEq, Repr

/-- The closing of a unit's open take at this instant. -/
def State.closing (s : State) (u : Nat) : Closing :=
  let x := s.unit u
  match x.current with
  | .logged ss ix =>
    let r := (s.findTake ss ix).map Entry.copy
    ⟨u, ss, some ix, (r.map TakeRecord.takeNo).getD x.info.takeNo, x.start, s.houseTime,
      r.map TakeRecord.marks, r.map TakeRecord.clapTotal⟩
  | _ => ⟨u, s.store.session, none, x.info.takeNo, x.start, s.houseTime, none, none⟩

/-- The TAKE_CLOSED notice (R128, step 7). -/
def State.noteClosed (s : State) (c : Closing) : State :=
  s.notify 0x48 ([fByte c.unit, fSession c.session] ++ fOpt1 fIndex c.index ++
    [fCount c.takeNo, fTick c.start, fTick c.fin] ++ fLabel (houseLabel s.house c.fin) ++
    fOpt1 fByte c.marks ++ fOpt1 fCount c.claps ++ [fFlag c.index.isNone])

/-- A unit's open take closes (R128). -/
def State.closeTake (s : State) (u : Nat) : State :=
  let c := s.closing u
  match (s.unit u).current with
  | .none => s
  | .logged ss ix =>
    ((((s.freezeTake ss ix).stopRolling u (.logged ss ix)).noteClosed c)).arbitrate
  | .unlogged v => ((s.stopRolling u (.unlogged v)).noteClosed c).arbitrate

/-! ### The run tally (R121, R127) -/

/-- A camera's roll start tick set to now when it has none (R121). -/
def State.rollStarts (s : State) (slot : Nat) : State :=
  s.writeEntry slot fun p => { p with rollStart := some (p.rollStart.getD s.houseTime) }

/-- A rise of run sense handed to the take table (R121). -/
def State.runRise (s : State) (slot : Nat) : State :=
  if !s.store.scanned then s
  else
    match (s.dev slot).bind fun d => d.set.unit with
    | none => s
    | some u =>
      if (s.unit u).rolling then s.rollStarts slot
      else (s.openTake u .rollSense).rollStarts slot

/-- A camera with auto-roll on whose line's run sense is active (R127). -/
def State.tallies (s : State) (d : Device) : Bool :=
  decide (d.set.kind = .camera) && d.set.autoRoll &&
    (d.lineNo.map fun n => (s.line n).run) = some true

/-- The close condition of a take opened by ROLL_SENSE, tested (R127). -/
def State.closeTest (s : State) (u : Nat) : State :=
  if (s.unit u).opener = some .rollSense ∧ (s.assigned u).all (fun x => !s.tallies x.2) then
    s.closeTake u
  else s

/-- A fall of run sense handed to the take table (R127). -/
def State.runFall (s : State) (slot : Nat) : State :=
  match (s.dev slot).bind fun d => d.set.unit with
  | none => s
  | some u =>
    if (s.unit u).rolling then
      (s.writeEntry slot fun p => { p with rollStop := some s.houseTime }).closeTest u
    else s

/-! ### SET_SLATE and UNIT_STATUS (R118, R119) -/

/-- Printable characters: 0x20 to 0x7E (R117). -/
def printable (t : Text) : Bool := t.all fun b => decide (0x20 ≤ b.toNat ∧ b.toNat ≤ 0x7E)

/-- A slot is a declared CAMERA assigned to a unit (R117, R118). -/
def State.cameraOf (s : State) (u slot : Nat) : Bool :=
  match s.dev slot with
  | some d => decide (d.set.kind = .camera ∧ d.set.unit = some u)
  | none => false

/-- No slot is named twice. -/
def namedOnce (l : List (Nat × Text)) : Bool := decide (l.map Prod.fst).Nodup

/-- Checks 3 and 4 of R118. -/
def State.slateOk (s : State) (a : SlateArgs) : Bool :=
  (a.scene.map fun t => decide (t.length ≤ 12) && printable t).getD true &&
  (a.takeNo.map fun n => decide (1 ≤ n ∧ n ≤ 999)).getD true &&
  (a.rolls.all fun x => s.cameraOf a.unit x.1 && decide (x.2.length ≤ 8) && printable x.2) &&
  namedOnce a.rolls

/-- A roll name pair set, or removed by an empty name (R118). No rule orders the pairs: a new slot's
pair joins the tail, and a new name takes the place of the old (log entry 48). -/
def setRoll (l : List (Nat × Text)) (p : Nat × Text) : List (Nat × Text) :=
  if p.2 = [] then l.filter fun x => x.1 ≠ p.1
  else if l.any fun x => x.1 = p.1 then l.map fun x => if x.1 = p.1 then p else x
  else l ++ [p]

/-- A unit's slate info after an accepted SET_SLATE (R118). -/
def SlateInfo.change (i : SlateInfo) (a : SlateArgs) : SlateInfo :=
  let scene := a.scene.getD i.scene
  { scene := scene
    takeNo := a.takeNo.getD (if scene = i.scene then i.takeNo else 1)
    rolls := a.rolls.foldl setRoll i.rolls }

/-- A unit's slate info as fields. -/
def SlateInfo.fields (i : SlateInfo) : List Field :=
  fText i.scene ++ [fCount i.takeNo] ++ fList (fun x => fByte x.1 :: fText x.2) i.rolls

/-- SET_SLATE (R118). -/
def execSetSlate (q : Req) (a : SlateArgs) (s : State) : Out :=
  finish (s.admitted q 0x10 .control a.fits fun s =>
    if 3 < a.unit then s.reply q.port 0x10 q.tag .outOfRange
    else if (s.unit a.unit).rolling then s.reply q.port 0x10 q.tag .takeOpen
    else if !s.slateOk a then s.reply q.port 0x10 q.tag .outOfRange
    else
      let s1 := s.modUnit a.unit fun x => { x with info := x.info.change a }
      s1.reply q.port 0x10 q.tag .ok (s1.unit a.unit).info.fields)

/-- A current take as a presence byte, a logged flag, a session and a log index (section 11.5). What
session and index of an UNLOGGED take read as is free (log entry 10). -/
def CurrentTake.fields : CurrentTake → List Field
  | .none => [fByte 0]
  | .logged ss ix => [fByte 1, fFlag true, fSession ss, fIndex ix]
  | .unlogged _ => [fByte 1, fFlag false, fSession (Config.unloggedFill 0),
      fIndex (Config.unloggedFill 1)]

/-- Opened by, in the order of R117's table: none 0, HOST 1, ROLL_SENSE 2. -/
def openerField : Option Opener → Nat
  | none => 0
  | some o => o.code + 1

/-- What UNIT_STATUS adds while the unit is ROLLING (R119). The start tick and the clap count follow
with no presence byte, the state having said whether they do; the current take travels in the form
that section 11.5 gives for DEVICE_STATUS (log entry 15). -/
def State.rollingFields (s : State) (u : Nat) : List Field :=
  let x := s.unit u
  match x.current with
  | .none => []
  | .logged ss ix =>
    [fTick x.start, fCount (((s.findTake ss ix).map fun e => e.copy.clapTotal).getD 0)]
  | .unlogged _ => [fTick x.start]

/-- The fields of a UNIT_STATUS reply, the record in the order of R117's table (R119). -/
def State.unitFields (s : State) (u : Nat) : List Field :=
  let x := s.unit u
  [fByte (if x.rolling then 1 else 0)] ++ x.info.fields ++ x.current.fields ++
    [fByte (openerField x.opener)] ++ s.slotList u ++ s.rollingFields u

/-- UNIT_STATUS (R119). -/
def execUnitStatus (q : Req) (u : Nat) (s : State) : Out :=
  finish (s.ask q 0x11 (holds 1 u) fun s =>
    if 3 < u then (.outOfRange, []) else (.ok, s.unitFields u))

/-! ### START_TAKE and END_TAKE (R120, R126) -/

/-- The fields of a START_TAKE reply, from the state before and the state after the opening. -/
def State.startFields (s after : State) (u : Nat) : List Field :=
  [fByte u, fSession s.store.session, fCount (s.unit u).info.takeNo, fTick s.houseTime,
   fCount (s.assigned u).length] ++
  match (after.unit u).current with
  | .logged _ ix => [fFlag false, fIndex ix]
  | _ => [fFlag true]

/-- START_TAKE (R120). -/
def execStartTake (q : Req) (u : Nat) (s : State) : Out :=
  finish (s.admitted q 0x12 .control (holds 1 u) fun s =>
    if 3 < u then s.reply q.port 0x12 q.tag .outOfRange
    else if !s.store.scanned then s.reply q.port 0x12 q.tag .notReady
    else if (s.unit u).rolling then s.reply q.port 0x12 q.tag .takeOpen
    else if (s.assigned u).isEmpty then s.reply q.port 0x12 q.tag .noDevice
    else
      let s1 := s.openTake u .host
      s1.reply q.port 0x12 q.tag .ok (s.startFields s1 u))

/-- The fields of an END_TAKE reply (R126). -/
def Closing.fields (c : Closing) : List Field :=
  [fByte c.unit, fSession c.session, fFlag c.index.isNone] ++ (c.index.map fIndex).toList ++
    [fCount c.takeNo, fTick c.start, fTick c.fin, fCount (c.claps.getD 0)]

/-- END_TAKE (R126). -/
def execEndTake (q : Req) (u : Nat) (s : State) : Out :=
  finish (s.admitted q 0x13 .control (holds 1 u) fun s =>
    if 3 < u then s.reply q.port 0x13 q.tag .outOfRange
    else if !(s.unit u).rolling then s.reply q.port 0x13 q.tag .noTake
    else (s.closeTake u).reply q.port 0x13 q.tag .ok (s.closing u).fields)

/-! ### MARK_TAKE (R132, R133) -/

/-- Check 1 of R132. -/
def markChanges (a : MarkArgs) : Bool :=
  (a.circled.isSome || a.falseStart.isSome || a.note.isSome) &&
    (a.note.map fun t => decide (t.length ≤ 32) && printable t).getD true

/-- The changes carried, as an amendment. -/
def carried (a : MarkArgs) : Amendment := ⟨a.session, a.index, a.circled, a.falseStart, a.note⟩

/-- The amendment that holds the values as they stand in a record (R133). A note that stands absent is
held as a text of 0 characters, which takes a note away; that it is not held absent is log entry 50. -/
def TakeRecord.amendment (r : TakeRecord) : Amendment :=
  ⟨r.session, r.index, some r.circled, some r.falseStart, some (r.note.getD [])⟩

/-- The reply of MARK_TAKE (R133). -/
def markReply (a : MarkArgs) (marks : Nat) (note : Option Text) (stored : Bool) : List Field :=
  [fSession a.session, fIndex a.index, fByte marks] ++ fOpt fText note ++ [fFlag stored]

/-- The marks of a take not in the table, as far as the request carries them (log entry 11). -/
def unreadMarks (a : MarkArgs) (counter : Nat) : Nat :=
  marksByte (a.circled.getD (Config.unreadMark a.session a.index 0 counter))
    (a.falseStart.getD (Config.unreadMark a.session a.index 1 counter))
    (Config.unreadMark a.session a.index 2 counter)

/-- The note of a take not in the table, as far as the request carries it (log entry 11). -/
def unreadNoteOf (a : MarkArgs) (counter : Nat) : Option Text :=
  match a.note with
  | some [] => none
  | some t => some t
  | none => Config.unreadNote a.session a.index counter

/-- An amendment handed to the export engine (R133, R174). -/
def State.exportAmendment (s : State) (a : Amendment) : State :=
  ({ s with exporter := s.exporter.amended a }).exportRun

/-- The take's record is OPEN or CLOSED: an amendment is not handed to the log store controller
(R133). -/
def RecState.unstored (st : RecState) : Bool := decide (st = .opened ∨ st = .closed)

/-- The effect of an accepted MARK_TAKE on a take in the table (R133). -/
def State.markInTable (s : State) (a : MarkArgs) (r : TakeRecord) : State :=
  let after := (carried a).apply r
  let s1 := s.modTake a.session a.index fun e => e.mod fun x => (carried a).apply x
  if r.state = .opened then s1
  else if r.state = .closed then s1.exportAmendment after.amendment
  else ((s1.handAmendment after.amendment).exportAmendment after.amendment)

/-- MARK_TAKE (R132, R133). -/
def execMarkTake (q : Req) (a : MarkArgs) (s : State) : Out :=
  finish (s.admitted q 0x14 .control a.fits fun s =>
    if !markChanges a then s.reply q.port 0x14 q.tag .outOfRange
    else if a.session ≠ s.store.session ∨ a.index < 1 ∨ s.takes.lastIndex < a.index then
      s.reply q.port 0x14 q.tag .noTake
    else
      match s.findTake a.session a.index with
      | some e =>
        let after := (carried a).apply e.copy
        ((s.markInTable a e.copy).arbitrate).reply q.port 0x14 q.tag .ok
          (markReply a after.marks after.note (!e.copy.state.unstored))
      | none =>
        (((s.handAmendment (carried a)).exportAmendment (carried a)).arbitrate).reply q.port 0x14
          q.tag .ok (markReply a (unreadMarks a s.clock.counter)
            (unreadNoteOf a s.clock.counter) true))

/-! ### TAKE_TABLE_STATUS (R134) -/

/-- The records of the table in entry order. -/
def TakeTable.held (t : TakeTable) : List Entry := t.entries.toList.filterMap id

/-- The number of entries whose record is in a state. -/
def TakeTable.countOf (t : TakeTable) (st : RecState) : Nat :=
  (t.held.filter fun e => e.copy.state = st).length

/-- The fields of an entry in a TAKE_TABLE_STATUS reply. -/
def Entry.fields (e : Entry) : List Field :=
  [fSession e.copy.session, fIndex e.copy.index, fByte e.copy.unit, fCount e.copy.takeNo,
   fByte e.copy.state.code] ++ fOpt1 fLong e.order

/-- The fields of a TAKE_TABLE_STATUS reply in R134's order; the records are listed in the order of
their entries (log entry 15). -/
def State.tableFields (s : State) : List Field :=
  let t := s.takes
  [fSession s.store.session, fIndex t.lastIndex, fCount (64 - t.held.length), fCount (t.countOf .opened),
   fCount (t.countOf .closed), fCount (t.countOf .committing), fCount (t.countOf .committed)] ++
  fList Entry.fields t.held ++ fList (fun i => [fIndex i]) t.queue

/-- TAKE_TABLE_STATUS (R134). -/
def execTakeTableStatus (q : Req) (s : State) : Out :=
  finish (s.ask q 0x15 true fun s => (.ok, s.tableFields))

end Sys2Proof.Machine
end

