-- ==== Sys2Proof/Machine/Devices.lean ====
section
/-!
DEFINITION. Devices and line outputs (R42 to R63): declaring, changing and removing devices, their
status and jams, and the sixteen lines.
-/

namespace Sys2Proof.Machine

/-! ### Settings (R42) -/

/-- The kinds' allowed attachments (R42). -/
def suits : Kind → Attachment → Bool
  | .camera, .line _ | .display, .line _ | .slate, .radio _ | .recorder, _ => true
  | _, _ => false

/-- An attachment's number lies in its range (R42). -/
def attachmentOk : Attachment → Bool
  | .line n => decide (n ≤ 15)
  | .radio a => decide (1 ≤ a ∧ a ≤ 250)

/-- The attachment is a line. -/
def Attachment.wired : Attachment → Bool
  | .line _ => true
  | .radio _ => false

/-- An optional setting, when carried, meets a test. -/
def carriedOk (o : Option Nat) (p : Nat → Bool) : Bool := (o.map p).getD true

/-- A unit or profile value: one of its numbers, or 255 for none. -/
def orNone (n : Nat) : Option Nat := if n = 255 then none else some n

/-- Every setting carried lies in its range, φ and o by the rate code given (R42, R44 check 3). -/
def settingsOk (a : DeviceArgs) (rate : Nat) : Bool :=
  carriedOk a.kind (fun k => (kindOf k).isSome) &&
  ((a.att.map fun x => ((attachmentOf x.1 x.2).map attachmentOk).getD false).getD true) &&
  carriedOk a.unit (fun u => decide (u ≤ 3 ∨ u = 255)) && rateCodeOk rate &&
  carriedOk a.audio (fun n => decide (n ≤ 4)) && carriedOk a.pull (fun n => decide (n ≤ 2)) &&
  carriedOk a.phase (fun n => decide (n < periodOf rate)) &&
  carriedOk a.origin (fun n => decide (n < dayOf rate)) &&
  carriedOk a.tolerance (fun n => decide (1 ≤ n ∧ n ≤ 8)) &&
  carriedOk a.poll (fun n => decide (1 ≤ n ∧ n ≤ 60)) &&
  carriedOk a.periodic (fun n => decide (n ≤ 63)) &&
  carriedOk a.profile (fun n => decide (n ≤ 7 ∨ n = 255))

/-- The defaults of R42 for a kind, attachment and rate code. -/
def DeviceSettings.base (k : Kind) (att : Attachment) (rate : Nat) : DeviceSettings :=
  { kind := k, att := att, unit := none, rate := rate, audio := 1, pull := 0, phase := 0,
    origin := 0, autoRoll := false, tolerance := 2, poll := 10, periodic := 0, quiet := false,
    profile := none }

/-- Settings with those carried in place, a carried setting that does not apply ignored. A recorder
that leaves the radio keeps its radio settings, and a device newly wired has φ 0 unless it is
carried (R42, R47). -/
def DeviceSettings.with (d : DeviceSettings) (a : DeviceArgs) : DeviceSettings :=
  let att := (a.att.bind fun x => attachmentOf x.1 x.2).getD d.att
  let recorder := decide (d.kind = .recorder)
  let wired := att.wired
  { d with
    att := att
    unit := (a.unit.map orNone).getD d.unit
    rate := a.rate.getD d.rate
    audio := if recorder then a.audio.getD d.audio else d.audio
    pull := if recorder then a.pull.getD d.pull else d.pull
    phase := if wired then a.phase.getD (if d.att.wired then d.phase else 0) else 0
    origin := a.origin.getD d.origin
    autoRoll := if wired ∧ d.kind = .camera then a.autoRoll.getD d.autoRoll else d.autoRoll
    tolerance := if wired then d.tolerance else a.tolerance.getD d.tolerance
    poll := if wired then d.poll else a.poll.getD d.poll
    periodic := if wired then d.periodic else a.periodic.getD d.periodic
    quiet := if wired then d.quiet else a.quiet.getD d.quiet
    profile := if wired then d.profile else (a.profile.map orNone).getD d.profile }

/-- The settings a DECLARE_DEVICE gives; none when kind or attachment is not a code (R44). -/
def declaredSettings (a : DeviceArgs) : Option DeviceSettings :=
  match a.kind.bind kindOf, a.att.bind fun x => attachmentOf x.1 x.2, a.rate with
  | some k, some att, some rate => some ((DeviceSettings.base k att rate).with a)
  | _, _, _ => none

/-- Auto-roll on is carried for a wired CAMERA alone (R44, R46). -/
def autoRollOk (a : DeviceArgs) (d : DeviceSettings) : Bool :=
  !decide (a.autoRoll = some true) || (decide (d.kind = .camera) && d.att.wired)

/-- Another declared slot has the attachment (R44 check 4, R46 check 4). -/
def State.attachmentHeld (s : State) (slot : Nat) (att : Attachment) : Bool :=
  s.declared.any fun x => decide (x.1 ≠ slot) && decide (x.2.set.att = att)

/-- The unit has 12 declared slots (R44 check 5, R46 check 5). -/
def State.unitFull (s : State) (u : Option Nat) : Bool :=
  match u with
  | none => false
  | some u => decide (12 ≤ (s.assigned u).length)

/-- The live state of a new device (R43, R96). -/
def Live.fresh (att : Attachment) (crc : Option Nat) : Live :=
  { state := if att.wired then .wired else .unjammed
    current := .none, jam := none, rate := 0, tMeas := none, offset := none, age := 0,
    predicted := 0, crc := if att.wired then none else crc, missedRejams := 0, missedReplies := 0,
    rateLimited := false, held := false, hasMeas := false, pollLeft := none, periodicLeft := none,
    anchorAge := none, baseline := none, lastResidual := 0, lastClap := none }

/-- A device with given settings and the live state of a declaration (R43). -/
def State.newDevice (s : State) (d : DeviceSettings) : Device :=
  ⟨d, .fresh d.att (s.profileCrc d.profile)⟩

/-! ### Lines (R56, R59) -/

/-- The state of a bound and enabled line (R56). -/
def Sense.lineState : Sense → LineState
  | .present => .active
  | .opened => .faultOpen
  | .short => .faultShort

/-- A line put in a state: a line leaving ACTIVE goes to the idle level, and one entering it emits
from the next frame edge (R57). -/
def Line.put (l : Line) (st : LineState) : Line := { l with state := st, out := none, edgeDue := none }

/-- A LINE notice; the cause is SENSE 0, HOST 1 or BIND 2 (R56). It is queued only when the state
has changed. -/
def State.noteLine (s : State) (n : Nat) (old : LineState) (cause : Nat) : State :=
  let l := s.line n
  if l.state = old then s
  else s.notify 0x46 ([fByte n] ++ fOpt1 fByte l.bound ++
    [fByte old.code, fByte l.state.code, fByte (Sense.code l.sense), fTick s.houseTime, fByte cause])

/-- A line bound to a slot, its enable off (R59). -/
def State.bindLine (s : State) (att : Attachment) (slot : Nat) : State :=
  match att with
  | .line n => s.modLine n fun l => { l.put .disabled with bound := some slot, enabled := false }
  | .radio _ => s

/-- A line unbound: the enable off, the state DISABLED, a notice when it was not (R59). -/
def State.unbindLine (s : State) (att : Attachment) : State :=
  match att with
  | .line n =>
    let old := (s.line n).state
    (s.modLine n fun l => { l.put .disabled with bound := none, enabled := false }).noteLine n old 2
  | .radio _ => s

/-! ### The run tally at a change of the table (R50) -/

/-- What a slot's camera shows the take table: auto-roll on, and its line's run sense active. -/
def State.tallyOf (s : State) (slot : Nat) : Bool := ((s.dev slot).map s.tallies).getD false

/-- The edge that a change of the device table is handed as (R50). -/
def State.handEdge (s : State) (slot : Nat) (before : Bool) : State :=
  match before, s.tallyOf slot with
  | false, true => s.runRise slot
  | true, false => s.runFall slot
  | _, _ => s

/-- A roll name pair dropped as its camera leaves its unit (R117). -/
def State.dropRoll (s : State) (unit : Option Nat) (slot : Nat) : State :=
  match unit with
  | some u => s.modUnit u fun x =>
      { x with info := { x.info with rolls := x.info.rolls.filter fun r => r.1 ≠ slot } }
  | none => s

/-- A device has left a unit: its roll name goes, and a take opened by ROLL_SENSE is tested (R117,
R127). -/
def State.leaveUnit (s : State) (unit : Option Nat) (slot : Nat) : State :=
  match unit with
  | some u => (s.dropRoll unit slot).closeTest u
  | none => s

/-! ### DECLARE_DEVICE (R44, R45) -/

/-- The first failing check of R44, or the settings. -/
def State.declareCheck (s : State) (slot : Nat) (a : DeviceArgs) : Except Status DeviceSettings :=
  if 31 < slot then .error .outOfRange
  else if (s.dev slot).isSome then .error .inUse
  else
    match declaredSettings a with
    | none => .error .outOfRange
    | some d =>
      if !(settingsOk a d.rate && suits d.kind d.att && autoRollOk a d) then .error .outOfRange
      else if s.attachmentHeld slot d.att then .error .inUse
      else if s.unitFull d.unit then .error .outOfRange
      else .ok d

/-- An accepted DECLARE_DEVICE (R45, R50). -/
def State.declare (s : State) (slot : Nat) (d : DeviceSettings) : State :=
  let x := s.newDevice d
  let s1 := (s.setDev slot (some x)).bindLine d.att slot
  (s1.noteDevice slot none (some x.live.state) .host).handEdge slot false

/-- DECLARE_DEVICE (R44). -/
def execDeclareDevice (q : Req) (slot : Nat) (a : DeviceArgs) (s : State) : Out :=
  finish (s.admitted q 0x05 .control (holds 1 slot && a.fits && a.complete) fun s =>
    if !s.store.applied then s.reply q.port 0x05 q.tag .notReady
    else
      match s.declareCheck slot a with
      | .error st => s.reply q.port 0x05 q.tag st
      | .ok d => (s.declare slot d).reply q.port 0x05 q.tag .ok)

/-! ### SET_DEVICE (R46 to R50) -/

/-- A change that R46's check 6 refuses while the device is in a take. -/
def DeviceSettings.disturbs (old new : DeviceSettings) : Bool :=
  decide (old.unit ≠ new.unit ∨ old.rate ≠ new.rate ∨ old.phase ≠ new.phase ∨
    old.origin ≠ new.origin ∨ old.att ≠ new.att)

/-- The kept φ and o lie in the range of the rate code after the request (R46 check 3). -/
def DeviceSettings.placed (d : DeviceSettings) : Bool :=
  decide (d.phase < periodOf d.rate) && decide (d.origin < dayOf d.rate)

/-- The first failing check of R46, or the settings after the request. -/
def State.setCheck (s : State) (slot : Nat) (a : DeviceArgs) :
    Except Status (Device × DeviceSettings) :=
  if 31 < slot then .error .outOfRange
  else
    match s.dev slot with
    | none => .error .noDevice
    | some x =>
      let d := x.set.with a
      if !(settingsOk a d.rate && suits d.kind d.att && autoRollOk a d && d.placed) then
        .error .outOfRange
      else if x.set.att ≠ d.att ∧ s.attachmentHeld slot d.att then .error .inUse
      else if x.set.unit ≠ d.unit ∧ s.unitFull d.unit then .error .outOfRange
      else if x.live.current ≠ .none ∧ x.set.disturbs d then .error .takeOpen
      else .ok (x, d)

/-- The radio requests of a device dropped (R47, R48, R51). -/
def State.dropRadio (s : State) (slot : Nat) : State :=
  { s with radio := s.radio.dropSlot slot }

/-- A DEVICE_STATE notice with cause HOST when the state has changed. -/
def State.noteIfChanged (s : State) (slot : Nat) (old new : DevState) : State :=
  if old = new then s else s.noteDevice slot (some old) (some new) .host

/-- The attachment changed: a new device at the new attachment (R47). -/
def State.reattach (s : State) (slot : Nat) (x : Device) (d : DeviceSettings) : State :=
  let y := s.newDevice d
  let s1 := (s.setDev slot (some y)).unbindLine x.set.att
  let s2 := s1.bindLine d.att slot
  let s3 := if x.isRadio then s2.dropRadio slot else s2
  s3.noteIfChanged slot x.live.state y.live.state

/-- The live state of a radio device whose rate code or label origin changes (R48). -/
def Live.unjam (l : Live) : Live :=
  { l with
    state := .unjammed, jam := none, tMeas := none, offset := none, predicted := 0,
    missedRejams := 0, missedReplies := 0, held := false, pollLeft := none }

/-- The rate code or label origin of a radio device changed (R48). -/
def State.rerateRadio (s : State) (slot : Nat) (x : Device) (d : DeviceSettings) : State :=
  ((s.setDev slot (some ⟨d, x.live.unjam⟩)).dropRadio slot).noteIfChanged slot x.live.state .unjammed

/-- The settings of a device replaced; a wired device's next frame edge is placed anew (R48, R49).
R48 gives the new settings "from the next frame edge": an edge that the house time has reached and the
line has not emitted is dropped, also where the new settings place one at that tick (log entry 14). -/
def State.resettle (s : State) (slot : Nat) (x : Device) (d : DeviceSettings) : State :=
  let s1 := s.setDev slot (some ⟨d, x.live⟩)
  match d.att with
  | .line n =>
    if x.set.rate ≠ d.rate ∨ x.set.phase ≠ d.phase ∨ x.set.origin ≠ d.origin then
      s1.modLine n fun l => { l with edgeDue := none }
    else s1
  | .radio _ => s1

/-- An accepted SET_DEVICE (R46 to R50, R117, R127). -/
def State.change (s : State) (slot : Nat) (x : Device) (d : DeviceSettings) : State :=
  let before := s.tallyOf slot
  let s1 :=
    if x.set.att ≠ d.att then s.reattach slot x d
    else if x.isRadio ∧ (x.set.rate ≠ d.rate ∨ x.set.origin ≠ d.origin) then s.rerateRadio slot x d
    else s.resettle slot x d
  let s2 := s1.handEdge slot before
  if x.set.unit ≠ d.unit then s2.leaveUnit x.set.unit slot else s2

/-- SET_DEVICE (R46). -/
def execSetDevice (q : Req) (slot : Nat) (a : DeviceArgs) (s : State) : Out :=
  finish (s.admitted q 0x06 .control (holds 1 slot && a.fits && a.kind.isNone) fun s =>
    if !s.store.applied then s.reply q.port 0x06 q.tag .notReady
    else
      match s.setCheck slot a with
      | .error st => s.reply q.port 0x06 q.tag st
      | .ok (x, d) => (s.change slot x d).reply q.port 0x06 q.tag .ok)

/-! ### REMOVE_DEVICE (R51) -/

/-- An accepted removal: DEVICE_STATE is queued before a LINE notice, as R51 lists them (R51, R59,
R117, R127, R182). -/
def State.removeDev (s : State) (slot : Nat) (x : Device) : State :=
  let s1 := (s.setDev slot none).noteDevice slot (some x.live.state) none .host
  let s2 := s1.unbindLine x.set.att
  let s3 := if x.isRadio then s2.dropRadio slot else s2
  s3.leaveUnit x.set.unit slot

/-- REMOVE_DEVICE (R51). -/
def execRemoveDevice (q : Req) (slot : Nat) (s : State) : Out :=
  finish (s.admitted q 0x07 .control (holds 1 slot) fun s =>
    if !s.store.applied then s.reply q.port 0x07 q.tag .notReady
    else if 31 < slot then s.reply q.port 0x07 q.tag .outOfRange
    else
      match s.dev slot with
      | none => s.reply q.port 0x07 q.tag .noDevice
      | some x =>
        if x.live.current ≠ .none then s.reply q.port 0x07 q.tag .takeOpen
        else (s.removeDev slot x).reply q.port 0x07 q.tag .ok)

/-! ### DEVICE_STATUS (R52, section 11.5) -/

/-- A field present when the setting or live field applies. -/
def fWhen (applies : Bool) (f : List Field) : List Field := if applies then fByte 1 :: f else [fByte 0]

/-- The settings of R42 in that table's order. -/
def State.settingFields (s : State) (d : Device) : List Field :=
  let x := d.set
  let wired := !d.isRadio
  let recorder := decide (x.kind = .recorder)
  fWhen true [fByte x.kind.code] ++ fWhen true [fByte x.att.codes.1, fByte x.att.codes.2] ++
  fWhen true [fUnit x.unit] ++ fWhen true [fByte x.rate] ++ fWhen recorder [fByte x.audio] ++
  fWhen recorder [fByte x.pull] ++ fWhen wired [uint 4 x.phase] ++ fWhen true [uint 4 x.origin] ++
  fWhen (wired && decide (x.kind = .camera)) [fFlag x.autoRoll] ++
  fWhen d.isRadio [fByte x.tolerance] ++ fWhen d.isRadio [fLong x.poll] ++
  fWhen d.isRadio [fByte x.periodic] ++ fWhen d.isRadio [fFlag x.quiet] ++
  fWhen d.isRadio [fByte (x.profile.getD 255)] ++ fWhen wired [fFlag (s.enableOf d)]

/-- The live fields of R43 in that table's order. -/
def Device.liveFields (d : Device) : List Field :=
  let l := d.live
  let r := d.isRadio
  fWhen true [fByte l.state.code] ++ l.current.fields ++
  fOpt (fun x => [fTick x.1, fFrame x.2]) l.jam ++ fWhen r [fSigned l.rate] ++
  fOpt1 fTick l.tMeas ++ fOpt1 fSigned l.offset ++ fWhen r [fLong l.age] ++
  fWhen r [fPredicted l.predicted] ++ fOpt1 fCount l.crc ++ fWhen r [fCount l.missedRejams] ++
  fWhen r [fCount l.missedReplies] ++ fWhen r [fFlag l.rateLimited] ++ fWhen r [fFlag l.held] ++
  fWhen r [fFlag l.hasMeas]

/-- The line block of a wired device. -/
def State.lineFields (s : State) (d : Device) : List Field :=
  match d.lineNo with
  | none => [fByte 0]
  | some n =>
    let l := s.line n
    [fByte 1, fByte l.state.code, fByte (Sense.code l.sense), fByte (runCode l.run)]

/-- What DEVICE_STATUS answers (R52). -/
def State.deviceAnswer (s : State) (slot : Nat) : Answer :=
  if 31 < slot then (.outOfRange, [])
  else
    match s.dev slot with
    | none => (.ok, [fByte slot, fByte (devStateCode none)])
    | some d =>
      (.ok, [fByte slot, fByte d.live.state.code] ++ s.settingFields d ++ d.liveFields ++
        s.lineFields d ++ [fByte (s.radio.waitingByte slot)])

/-- DEVICE_STATUS (R52). -/
def execDeviceStatus (q : Req) (slot : Nat) (s : State) : Out :=
  finish (s.ask q 0x08 (holds 1 slot) fun s => s.deviceAnswer slot)

/-! ### JAM_DEVICE (R53, R99) -/

/-- An accepted JAM_DEVICE: a HOST_JAM is posted, and an UNJAMMED device becomes JAM_PENDING (R99). -/
def State.hostJam (s : State) (slot : Nat) (d : Device) (frame : Option Nat) : State :=
  let s1 := s.post .hostJam slot frame
  if d.live.state = .unjammed then
    (s1.enter slot .jamPending).noteDevice slot (some .unjammed) (some .jamPending) .host
  else s1

/-- JAM_DEVICE (R53). -/
def execJamDevice (q : Req) (slot : Nat) (label : Option Label) (s : State) : Out :=
  finish (s.admitted q 0x09 .control (holds 1 slot && (label.map labelHolds).getD true) fun s =>
    if !s.store.applied then s.reply q.port 0x09 q.tag .notReady
    else if 31 < slot then s.reply q.port 0x09 q.tag .outOfRange
    else
      match s.dev slot with
      | none => s.reply q.port 0x09 q.tag .noDevice
      | some d =>
        if !d.isRadio then s.reply q.port 0x09 q.tag .outOfRange
        else if (label.map (labelOk d.set.rate)).getD true = false then
          s.reply q.port 0x09 q.tag .badLabel
        else if d.heldBack then s.reply q.port 0x09 q.tag .takeOpen
        else
          (s.hostJam slot d (label.map (frameOf d.set.rate))).reply q.port 0x09 q.tag .ok)

/-! ### Lines (R57, R58, R60 to R62) -/

/-- LINE_ENABLE accepted (R60, R61). -/
def State.enableLine (s : State) (n slot : Nat) (on : Bool) : State :=
  let l := s.line n
  if l.enabled = on then s
  else if on then
    (s.modLine n fun l => { l.put (Sense.lineState l.sense) with enabled := true }).noteLine n l.state 1
  else
    ((s.modLine n fun l => { l.put .disabled with enabled := false }).noteLine n l.state 1).lineFault
      slot

/-- LINE_ENABLE (R60). -/
def execLineEnable (q : Req) (n : Nat) (on : Bool) (s : State) : Out :=
  finish (s.admitted q 0x0A .control (holds 1 n) fun s =>
    if !s.store.applied then s.reply q.port 0x0A q.tag .notReady
    else if 15 < n then s.reply q.port 0x0A q.tag .outOfRange
    else
      match (s.line n).bound with
      | none => s.reply q.port 0x0A q.tag .noDevice
      | some slot =>
        let s1 := s.enableLine n slot on
        s1.reply q.port 0x0A q.tag .ok [fByte (s1.line n).state.code])

/-- The frame word of a device for the frame that begins at house time `t` (R57). -/
def Device.frameWord (d : Device) (t : Int) : FrameWord :=
  ⟨labelOf d.set.rate (wiredFrame d.set.rate d.set.phase d.set.origin t), isDrop d.set.rate⟩

/-- The frame edge that a line has reached and can emit: its house time and the bound device (R57). -/
def State.takeableEdge (s : State) (n : Nat) : Option (Nat × Device) :=
  let l := s.line n
  match l.state, l.edgeDue, l.bound.bind s.dev with
  | .active, some t, some d => some (t, d)
  | _, _, _ => none

/-- LINE_FRAME_EDGE (R57). -/
def execLineFrameEdge (n : Nat) (s : State) : Out :=
  finish (
    match s.takeableEdge n with
    | some (t, d) => s.modLine n fun l => { l with out := some (d.frameWord t), edgeDue := none }
    | none => s)

/-- The new sense recorded; a bound and enabled line takes the state it gives (R58). -/
def Line.sensed (l : Line) (sense : Sense) : Line :=
  let l := { l with sense := sense }
  if l.bound.isSome ∧ l.enabled then l.put (Sense.lineState sense) else l

/-- A line fault is handed for a line now in FAULT_OPEN or FAULT_SHORT (R58, R61). -/
def State.faultIfDown (s : State) (n : Nat) : State :=
  let l := s.line n
  match l.state, l.bound with
  | .faultOpen, some slot | .faultShort, some slot => s.lineFault slot
  | _, _ => s

/-- LINE_SENSE_CHANGE (R58). -/
def execLineSenseChange (n : Nat) (sense : Sense) (s : State) : Out :=
  finish (
    if 15 < n ∨ (s.line n).sense = sense then s
    else
      ((s.modLine n fun l => l.sensed sense).noteLine n (s.line n).state 0).faultIfDown n)

/-- The slot of a line's camera when its auto-roll is on (R62). -/
def State.tallySlot (s : State) (n : Nat) : Option Nat :=
  (s.line n).bound.filter fun slot =>
    ((s.dev slot).map fun d => decide (d.set.kind = .camera) && d.set.autoRoll).getD false

/-- RUN_SENSE_CHANGE (R62). -/
def execRunSenseChange (n : Nat) (active : Bool) (s : State) : Out :=
  finish (
    if 15 < n ∨ (s.line n).run = active then s
    else
      let s1 := s.modLine n fun l => { l with run := active }
      match s.tallySlot n with
      | none => s1
      | some slot => if active then s1.runRise slot else s1.runFall slot)

end Sys2Proof.Machine
end

