-- ==== Sys2Proof/Machine/Startup.lean ====
section
/-!
DEFINITION. Reset and start-up (R151 to R154, R185): the reset, the settings applied, the scan of
the log area, and its completion.
-/

namespace Sys2Proof.Machine

/-! ### RESET -/

/-- The page that a log write in flight is writing (R138). -/
def StoreOp.writing : StoreOp → Option (List Byte)
  | .commit _ (p :: _) => some p
  | .amend _ p => some p
  | .cleared p => some p
  | _ => none

/-- What a page write cut off by the reset leaves at the pointer (R138, log entry 6). -/
def leftBehind (left : PageLeft) (pointer : Nat) (page : List Byte) (log : List (Nat × PageData)) :
    List (Nat × PageData) :=
  match left with
  | .blank => log
  | .damaged => writePage pointer .damaged log
  | .whole => writePage pointer (.bytes page) log

/-- What a cut-off write can leave of its page. A commit write on the last page of its take leaves no
good page there, since R144 has the take's pages stay as an incomplete record; that a page left whole
counts as damaged then is log entry 6. -/
def StoreOp.remains (op : StoreOp) (left : PageLeft) : PageLeft :=
  match op, left with
  | .commit _ [_], .whole => .damaged
  | _, left => left

/-- The log area as a reset finds it: a write in flight stops where it stands, a take in its commit
write stays incomplete, and an erase in flight has blanked some pages (R138, R144). What a cut-off
write leaves, and that a cut-off erase leaves every page blank or as it was, is log entry 6. -/
def State.logAtReset (s : State) (left : PageLeft) (erased : List Nat) : List (Nat × PageData) :=
  match s.store.op with
  | .erase => s.flash.log.filter fun x => !erased.contains x.1
  | op =>
    match op.writing with
    | some page => leftBehind (op.remains left) s.store.pointer page s.flash.log
    | none => s.flash.log

/-- RESET (R1, R23, R63, R95, R116, R135, R138, R144, R177, R185). The flash, the levels at the line inputs
and the commands waiting outside stay. -/
def execReset (pinA pinB : Bool) (left : PageLeft) (erased : List Nat) (s : State) : Out :=
  .next (.afterReset s.pending { s.flash with log := s.logAtReset left erased }
    (s.lines.map fun l => (l.sense, l.run)) (lineRateOf pinA pinB))

/-! ### SETTINGS_APPLY (R151) -/

/-- A saved profile restored, its CRC recomputed (R75). -/
def SavedProfile.restore (p : SavedProfile) : Profile := .make p.state p.count p.bias p.points

/-- A saved device restored with the live state of a declaration (R55). -/
def State.restoreDevice (s : State) (x : Option (DeviceSettings × Bool)) : Option Device :=
  x.map fun y => s.newDevice y.1

/-- The saved slot that names a line, with its saved enable (R63). -/
def Snapshot.onLine (c : Snapshot) (n : Nat) : Option (Nat × Bool) :=
  (c.slots.toList.zipIdx.findSome? fun x =>
    match x.1 with
    | some (d, on) => if d.att = .line n then some (x.2, on) else none
    | none => none)

/-- A line bound to a saved device with the saved enable (R63). -/
def Line.restore (l : Line) (x : Option (Nat × Bool)) : Line :=
  match x with
  | none => l
  | some (slot, on) =>
    { l.put (if on then Sense.lineState l.sense else .disabled) with bound := some slot, enabled := on }

/-- Good settings applied, in R151's order. -/
def State.applySnapshot (s : State) (c : Snapshot) : State :=
  let s1 := { s with profiles := c.profiles.map SavedProfile.restore }
  { s1 with
    slots := c.slots.map s1.restoreDevice
    lines := Vector.ofFn fun (i : Fin 16) => (s1.line i).restore (c.onLine i)
    ref := { s1.ref with set := c.ref }
    house := c.house
    units := Vector.ofFn fun (i : Fin 4) => { s1.unit i with info := (c.slates[i]) }
    store := { s1.store with delay := c.delay }
    radio := { s1.radio with enabled := c.radioOn } }

/-- Every default stands, and the radio is on (R151). -/
def State.applyDefaults (s : State) : State :=
  { s with
    ref := { s.ref with set := .default }
    house := 2
    units := s.units.map fun u => { u with info := .reset }
    store := { s.store with delay := 2 }
    radio := { s.radio with enabled := true } }

/-- The settings applied, and what was applied recorded (R151). -/
def State.applySettings (s : State) : State :=
  match s.flash.settings with
  | .good c =>
    let s1 := s.applySnapshot c
    { s1 with store := { s1.store with applied := true, loaded := true } }
  | .blank | .bad =>
    let s1 := s.applyDefaults
    { s1 with store := { s1.store with applied := true, loaded := false } }

/-- SETTINGS_APPLY (R151). -/
def execSettingsApply (s : State) : Out :=
  finish (if s.store.applied then s else s.applySettings)

/-! ### LOG_SCAN_PAGE_READ (R152) -/

/-- The page at the pointer read and classed (R152). -/
def State.scanPage (s : State) : State :=
  match readPage s.flash.log s.store.pointer with
  | none => { s with store := { s.store with scanEnded := true } }
  | some d =>
    let e := entryOf d
    { s with store := { s.store with
      directory := s.store.directory ++ [e]
      pointer := s.store.pointer + 1
      skipped := s.store.skipped + (if e.isNone then 1 else 0)
      scanEnded := decide (logPages ≤ s.store.pointer + 1) } }

/-- LOG_SCAN_PAGE_READ (R152). -/
def execLogScanPageRead (s : State) : Out :=
  finish (if s.store.applied && !s.store.scanEnded then s.scanPage else s)

/-! ### SCAN_COMPLETE (R153, R154) -/

/-- The largest session of the good pages, none when there is no good page (R152). -/
def largestSession (dir : List (Option PageHeader)) : Option Nat :=
  (dir.filterMap fun x => x.map PageHeader.session).max?

/-- The largest log index of the good pages of a session, 0 when there is none (R152). -/
def largestIndex (dir : List (Option PageHeader)) (session : Nat) : Nat :=
  ((dir.filterMap fun x => x.bind fun h =>
    if h.session = session then some h.index else none).max?).getD 0

/-- The new session (R153, step 1). -/
def newSession (dir : List (Option PageHeader)) : Nat :=
  match largestSession dir with
  | none => 1
  | some n => if n = 65535 then 1 else n + 1

/-- The store becomes READY. -/
def State.storeReady (s : State) : State := { s with store := { s.store with state := .ready } }

/-- The SESSION page of the start-up written and checked; `first` and `second` are the read-backs of
the page and of its retry (R141, R142, R153 step 2). -/
def State.writeSession (s : State) (page : List Byte) (first second : Bool) : State :=
  if logPages ≤ s.store.pointer then s.enterLogFull
  else if first then (s.pageGoodAt page).storeReady
  else
    let s1 := s.pageBadAt
    if logPages ≤ s1.store.pointer then s1.enterLogFull
    else if second then (s1.pageGoodAt page).storeReady
    else s1.pageBadAt.enterFault s1.store.pointer

/-- The STARTED notice (R153, step 4). -/
def State.noteStarted (s : State) : State :=
  s.notify 0x41 [fSession s.store.session, fFlag s.store.loaded, fCount s.store.pointer,
    fCount s.store.skipped, fByte s.store.state.code]

/-- A unit's take opened at the scan's completion, for its cameras whose run sense is active, each
with this tick as its roll start (R154). -/
def State.openAtScan (s : State) (u : Nat) : State :=
  let cameras := (s.assigned u).filter fun x => s.tallies x.2
  if (s.unit u).rolling || cameras.isEmpty then s
  else cameras.foldl (fun t x => t.rollStarts x.1) (s.openTake u .rollSense)

/-- The scan completes (R153, R154). -/
def State.completeScan (s : State) (first second : Bool) : State :=
  let session := newSession s.store.directory
  let index := largestIndex s.store.directory session
  let s1 := s.writeSession (sessionPage 0 session index s.houseTime s.clock.counter) first second
  let s2 := { s1 with
    store := { s1.store with session := session, scanned := true }
    takes := { s1.takes with lastIndex := index } }
  (List.range 4).foldl State.openAtScan s2.noteStarted

/-- SCAN_COMPLETE (R153). -/
def execScanComplete (first second : Bool) (s : State) : Out :=
  finish (if s.store.scanEnded && !s.store.scanned then s.completeScan first second else s)

end Sys2Proof.Machine
end

