-- ==== Sys2Proof/Machine/Bytes.lean ====
section
/-!
DEFINITION. Bytes and frames at a port (R177 to R179): a byte received, a gap, and a complete frame
taken as the request it spells.
-/

namespace Sys2Proof.Machine

/-- The state a command leaves; this block's commands always answer a next state. -/
def Out.state (o : Out) (s : State) : State :=
  match o with
  | .next t => t
  | _ => s

/-- A frame whose kind code is no request kind of the catalogue (R179, step 2). -/
def execUnknownRequest (q : Req) (kind : Nat) (s : State) : Out :=
  finish (
    if 4 ≤ (s.port q.port).outstanding.length then s.portReply q.port kind q.tag .queueFull
    else s.portReply q.port 0 q.tag .malformed)

/-- A frame of a request kind whose body does not fit the layout (R179, step 2). -/
def takeMalformed (q : Req) (kind : Nat) (s : State) : Out :=
  finish (
    if 4 ≤ (s.port q.port).outstanding.length then s.portReply q.port kind q.tag .queueFull
    else s.portReply q.port kind q.tag .malformed)

/-- A request handed to its owning block (R179). A command that is no request is never spelled by a
frame. -/
def takeRequest (i : Instr) (s : State) : Out :=
  match i with
  | .timeNow q => execTimeNow q s
  | .refConfig q a => execRefConfig q a s
  | .setHouseRate q c => execSetHouseRate q c s
  | .setOrigin q l => execSetOrigin q l s
  | .declareDevice q n a => execDeclareDevice q n a s
  | .setDevice q n a => execSetDevice q n a s
  | .removeDevice q n => execRemoveDevice q n s
  | .deviceStatus q n => execDeviceStatus q n s
  | .jamDevice q n l => execJamDevice q n l s
  | .lineEnable q n b => execLineEnable q n b s
  | .profileBegin q n c b => execProfileBegin q n c b s
  | .profilePoints q n l => execProfilePoints q n l s
  | .profileRead q n => execProfileRead q n s
  | .radioEnable q b => execRadioEnable q b s
  | .radioStatus q => execRadioStatus q s
  | .setSlate q a => execSetSlate q a s
  | .unitStatus q u => execUnitStatus q u s
  | .startTake q u => execStartTake q u s
  | .endTake q u => execEndTake q u s
  | .markTake q a => execMarkTake q a s
  | .takeTableStatus q => execTakeTableStatus q s
  | .setCommitDelay q n => execSetCommitDelay q n s
  | .flush q => execFlush q s
  | .clearLog q => execClearLog q s
  | .saveSettings q => execSaveSettings q s
  | .storeStatus q => execStoreStatus q s
  | .whereIs q a => execWhereIs q a s
  | .atTick q a => execAtTick q a s
  | .exportTakes q a => execExportTakes q a s
  | .cancelExport q => execCancelExport q s
  | _ => .next s

/-- A complete frame taken as a request (R179). -/
def takeFrame (p : Port) (s : State) (f : Frame) : State :=
  let q : Req := ⟨p, f.tag, f.more⟩
  Out.state (match requestParser q f.kind with
    | none => execUnknownRequest q f.kind s
    | some parser =>
      match runParse parser f.body with
      | some i => takeRequest i s
      | none => takeMalformed q f.kind s) s

/-- The complete frames of a port taken in order, and the bytes of a frame still being received
(R177). -/
def State.takeFrames (s : State) (p : Port) (frames : List Frame) (rest : List Byte) : State :=
  frames.foldl (takeFrame p) (s.modPort p fun x => { x with rx := rest })

/-- The frame being received is discarded (R177). -/
def State.flushPort (s : State) (p : Port) : State :=
  let rx := (s.port p).rx
  s.takeFrames p (flushFrames rx.length rx) []

/-- A byte with its stop bit joins the frame being received (R177). -/
def State.receive (s : State) (p : Port) (b : Byte) : State :=
  let rx := (s.port p).rx ++ [b]
  let r := scanFrames rx.length.succ rx
  s.takeFrames p r.1 r.2

/-- PORT_BYTE_RECEIVED (R177); `stopFound` is false for a framing failure. -/
def execPortByteReceived (p : Port) (b : Byte) (stopFound : Bool) (s : State) : Out :=
  finish (if stopFound then s.receive p b else s.flushPort p)

/-- FRAME_GAP_TIMEOUT: more than 5 ms have passed since the last byte of a frame (R177). -/
def execFrameGapTimeout (p : Port) (s : State) : Out := finish (s.flushPort p)

end Sys2Proof.Machine
end

