-- ==== Sys2Proof/Machine/Clockwork.lean ====
section
/-!
DEFINITION. The part's own events: which of them is due when no command waits. At one instant they
come in the order of this file, one to a step (log entry 5).
-/

namespace Sys2Proof.Machine

/-- An event that is due, when it is. -/
def dueWhen (due : Bool) (e : Instr) : Option Instr := if due then some e else none

/-- The transaction's slot has ended, or a beacon mark can be taken (R76, R83). -/
def State.dueLink (s : State) : Option Instr :=
  if (s.radio.flight.map s.slotOver) = some true then some .transactionEnd
  else dueWhen s.radio.takeableMark.isSome .beaconMark

/-- A countdown has run out (R91, R110). -/
def State.dueCountdown (s : State) : Option Instr :=
  match allSlots.find? s.pollRunOut, allSlots.find? s.periodicRunOut with
  | some i, _ => some (.pollDue i)
  | none, some i => some (.periodicExpiry i)
  | none, none => none

/-- A slot start can be taken (R77). -/
def State.dueSlot (s : State) : Option Instr := dueWhen s.radio.takeableSlot.isSome .slotStart

/-- A line has reached a frame edge (R57). -/
def State.dueEdge (s : State) : Option Instr :=
  ((List.range 16).find? fun n => (s.takeableEdge n).isSome).map Instr.lineFrameEdge

/-- A wait of the reference unit is over (R28, R35, R36, R38). -/
def State.dueReference (s : State) : Option Instr :=
  if s.acquisitionTimedOut then some .acquisitionTimeout
  else if s.referenceLost then some .referenceLoss
  else if s.holdoverExpired then some .holdoverExpiry
  else dueWhen s.originDue .originBoundary

/-- The head take's delay has run out while the flash is free (R139). -/
def State.dueCommit (s : State) : Option Instr :=
  dueWhen (decide (s.store.op = .idle) && decide (s.store.state = .ready) && s.headDelayOut)
    .commitDelayExpiry

/-- The part's own event that is due, when one is. -/
def State.nextDue (s : State) : Option Instr :=
  s.dueLink.or (s.dueCountdown.or (s.dueSlot.or (s.dueEdge.or (s.dueReference.or s.dueCommit))))

end Sys2Proof.Machine
end

