-- ==== Sys2Proof/Machine/Dispatch.lean ====
section
/-!
DEFINITION. The dispatch: one arm for each command of the DH-16, each one direct call of its meaning.
-/

namespace Sys2Proof.Machine

/-- A command's effect on everything but the queue of waiting commands. -/
def exec (i : Instr) (s : State) : Host.Outcome State Fault Refusal :=
  match i with
  | .reset pinA pinB left erased => Sys2Proof.Machine.execReset pinA pinB left erased s
  | .settingsApply => Sys2Proof.Machine.execSettingsApply s
  | .logScanPageRead => Sys2Proof.Machine.execLogScanPageRead s
  | .scanComplete first second => Sys2Proof.Machine.execScanComplete first second s
  | .timeNow q => Sys2Proof.Machine.execTimeNow q s
  | .refConfig q a => Sys2Proof.Machine.execRefConfig q a s
  | .setHouseRate q code => Sys2Proof.Machine.execSetHouseRate q code s
  | .setOrigin q label => Sys2Proof.Machine.execSetOrigin q label s
  | .originBoundary => Sys2Proof.Machine.execOriginBoundary s
  | .declareDevice q slot a => Sys2Proof.Machine.execDeclareDevice q slot a s
  | .setDevice q slot a => Sys2Proof.Machine.execSetDevice q slot a s
  | .removeDevice q slot => Sys2Proof.Machine.execRemoveDevice q slot s
  | .deviceStatus q slot => Sys2Proof.Machine.execDeviceStatus q slot s
  | .jamDevice q slot label => Sys2Proof.Machine.execJamDevice q slot label s
  | .lineEnable q line on => Sys2Proof.Machine.execLineEnable q line on s
  | .profileBegin q profile count bias => Sys2Proof.Machine.execProfileBegin q profile count bias s
  | .profilePoints q profile points => Sys2Proof.Machine.execProfilePoints q profile points s
  | .profileRead q profile => Sys2Proof.Machine.execProfileRead q profile s
  | .radioEnable q on => Sys2Proof.Machine.execRadioEnable q on s
  | .radioStatus q => Sys2Proof.Machine.execRadioStatus q s
  | .setSlate q a => Sys2Proof.Machine.execSetSlate q a s
  | .unitStatus q unit => Sys2Proof.Machine.execUnitStatus q unit s
  | .startTake q unit => Sys2Proof.Machine.execStartTake q unit s
  | .endTake q unit => Sys2Proof.Machine.execEndTake q unit s
  | .markTake q a => Sys2Proof.Machine.execMarkTake q a s
  | .takeTableStatus q => Sys2Proof.Machine.execTakeTableStatus q s
  | .setCommitDelay q seconds => Sys2Proof.Machine.execSetCommitDelay q seconds s
  | .flush q => Sys2Proof.Machine.execFlush q s
  | .clearLog q => Sys2Proof.Machine.execClearLog q s
  | .saveSettings q => Sys2Proof.Machine.execSaveSettings q s
  | .storeStatus q => Sys2Proof.Machine.execStoreStatus q s
  | .whereIs q a => Sys2Proof.Machine.execWhereIs q a s
  | .atTick q a => Sys2Proof.Machine.execAtTick q a s
  | .exportTakes q a => Sys2Proof.Machine.execExportTakes q a s
  | .cancelExport q => Sys2Proof.Machine.execCancelExport q s
  | .unknownRequest q kind => Sys2Proof.Machine.execUnknownRequest q kind s
  | .frameGapTimeout p => Sys2Proof.Machine.execFrameGapTimeout p s
  | .messageSent p => Sys2Proof.Machine.execMessageSent p s
  | .referenceEdge e => Sys2Proof.Machine.execReferenceEdge e s
  | .acquisitionTimeout => Sys2Proof.Machine.execAcquisitionTimeout s
  | .referenceLoss => Sys2Proof.Machine.execReferenceLoss s
  | .holdoverExpiry => Sys2Proof.Machine.execHoldoverExpiry s
  | .lineFrameEdge line => Sys2Proof.Machine.execLineFrameEdge line s
  | .lineSenseChange line sense => Sys2Proof.Machine.execLineSenseChange line sense s
  | .runSenseChange line active => Sys2Proof.Machine.execRunSenseChange line active s
  | .beaconMark => Sys2Proof.Machine.execBeaconMark s
  | .pollDue slot => Sys2Proof.Machine.execPollDue slot s
  | .periodicExpiry slot => Sys2Proof.Machine.execPeriodicExpiry slot s
  | .slotStart => Sys2Proof.Machine.execSlotStart s
  | .echoReceived e intact => Sys2Proof.Machine.execEchoReceived e intact s
  | .transactionEnd => Sys2Proof.Machine.execTransactionEnd s
  | .commitDelayExpiry => Sys2Proof.Machine.execCommitDelayExpiry s
  | .pageWriteCheck ok => Sys2Proof.Machine.execPageWriteCheck ok s
  | .storeReadDone => Sys2Proof.Machine.execStoreReadDone s
  | .settingsWriteDone ok => Sys2Proof.Machine.execSettingsWriteDone ok s
  | .logEraseDone failed => Sys2Proof.Machine.execLogEraseDone failed s
  | .portByteReceived p byte stopFound => Sys2Proof.Machine.execPortByteReceived p byte stopFound s

end Sys2Proof.Machine
end

