-- ==== Sys2Proof/Machine/Step.lean ====
section
/-!
DEFINITION. The step: the command at the front of the queue, or with an empty queue the part's own
clockwork.
-/

namespace Sys2Proof.Machine

/-- What the block does with no command waiting: the event of its own that is due, else one tick of
its oscillator (log entry 3). -/
def idle (s : State) : Host.Outcome State Fault Refusal :=
  match s.nextDue with
  | some e => exec e s
  | none => .next s.tick

/-- One step of the DH-16: the command at the front of the queue is taken. -/
def step (s : State) : Host.Outcome State Fault Refusal :=
  match s.pending with
  | c :: rest => exec c { s with pending := rest }
  | [] => idle s

/-- The state with the command that a word spells at the front of its queue; unchanged where it
spells none. -/
def State.withFetchWord (s : State) (nbits w : Nat) : State :=
  match decodeTableWord nbits w with
  | some c => { s with pending := c :: s.pending }
  | none => s

end Sys2Proof.Machine
end

