-- ==== Sys2Proof/Safety.lean ====
section
/-!
DEFINITION. What a sound state of the DH-16 is, and the views in which statements speak of a command:
what a port has still to say, what the control port has still to announce, and everything else.
-/

namespace Sys2Proof.Machine

/-! ### Bounds of the manual, as invariants -/

/-- Counter and origin stay in the ranges of R1, and the fraction below a whole tick. -/
def State.timeOk (s : State) : Bool :=
  decide (s.clock.counter ≤ maxCounter) && decide (s.clock.frac < totalParts) &&
    decide (s.origin ≤ maxOrigin)

/-- At most 16 notices wait and the lost count stays in its range (R182); at most four requests are
outstanding on a port (R179). -/
def State.portsOk (s : State) : Bool :=
  decide (s.notices.length ≤ 16) && decide (s.lost ≤ 65535) &&
    decide (s.control.outstanding.length ≤ 4) && decide (s.suite.outstanding.length ≤ 4)

/-- A device's missed re-jam count is 0, 1 or 2, and 2 exactly when it is DRIFTING (R111). -/
def Live.countOk (l : Live) : Bool :=
  decide (l.missedRejams ≤ 2) && decide (l.missedRejams = 2 ↔ l.state = .drifting)

/-- Every declared device's count is so. -/
def State.countsOk (s : State) : Bool := s.declared.all fun x => x.2.live.countOk

/-- The pages an operation in flight has still to write. -/
def StoreOp.pages : StoreOp → List (List Byte)
  | .commit _ ps => ps
  | .amend _ p => [p]
  | .cleared p => [p]
  | _ => []

/-- The start-up's order: pages are written, and a clear or an erase waits or runs, only once the scan
has completed, and the scan completes only when it has ended (R152 to R154). -/
def Store.startupOk (x : Store) : Bool :=
  (x.scanned || (x.op.pages.isEmpty && decide (x.op ≠ .erase) && decide (x.state = .scanning) &&
    x.clear.isNone)) && (!x.scanned || x.scanEnded)

/-- The CLEARED page is written at page 0, or at page 1 when page 0 has failed (R141, R149). -/
def Store.clearedOk (x : Store) : Bool :=
  match x.op with
  | .cleared _ => decide (x.pointer ≤ 1) && decide (x.failures = 0 → x.pointer = 0)
  | _ => true

/-- The log area is in its canonical form, no operation writes a blank page, and one that writes has
a page to write to (R136, R141). -/
def State.flashOk (s : State) : Bool :=
  logWf s.flash.log && s.store.op.pages.all (fun p => decide (p ≠ blankPage)) &&
    (s.store.op.pages.isEmpty || decide (s.store.pointer < logPages)) && s.store.startupOk &&
    s.store.clearedOk

/-! ### Views -/

/-- The replies a port has still to send, the one in transmission first. -/
def State.outgoing (s : State) (p : Port) : List Reply :=
  (match (s.port p).tx with
    | some (.reply r) => [r]
    | _ => []) ++ (s.port p).replies

/-- The notices the control port has still to send, the one in transmission first. -/
def State.announced (s : State) : List Message :=
  (match s.control.tx with
    | some (.notice m) => [m]
    | _ => []) ++ s.notices.map Notice.message

/-- A port but for its outstanding requests and what it has to send. -/
def PortState.still (x : PortState) : PortState :=
  { x with outstanding := [], replies := [], tx := none }

/-- Everything but the outstanding requests and what the ports have still to send. -/
def State.inner (s : State) : State :=
  { s with control := s.control.still, suite := s.suite.still, notices := [], lost := 0 }

/-- The other port. -/
def otherPort : Port → Port
  | .control => .suite
  | .suite => .control

/-- Between `s` and `t`, the port of the request has formed exactly one reply to it. -/
def Answered (s t : State) (q : Req) (kind : Nat) (st : Status) (fields : List Field) : Prop :=
  t.outgoing q.port = s.outgoing q.port ++ [⟨replyMessage kind q.tag st fields, true, false⟩] ∧
    t.outgoing (otherPort q.port) = s.outgoing (otherPort q.port)

/-- Between `s` and `t`, no port has formed a reply. -/
def NoReply (s t : State) : Prop := ∀ p, t.outgoing p = s.outgoing p

/-- Between `s` and `t`, no notice has been raised. -/
def Silent (s t : State) : Prop := t.announced = s.announced ∧ t.lost = s.lost

/-- Between `s` and `t`, exactly one notice has been raised: it is queued with the gap count, or lost
when 16 wait (R182). -/
def Raised (s t : State) (kind : Nat) (fields : List Field) : Prop :=
  (s.notices.length < 16 →
    t.announced = s.announced ++ [⟨kind, 0, fCount s.lost :: fields⟩] ∧ t.lost = 0) ∧
  (16 ≤ s.notices.length → t.announced = s.announced ∧ t.lost = min (s.lost + 1) 65535)

/-- The port takes the request: a place is free, and the header spells a request (R179). -/
def Taken (s : State) (q : Req) : Prop :=
  (s.port q.port).outstanding.length < 4 ∧ q.more = false ∧ q.tag < 256

/-- No log write can begin: the store is not READY, or no amendment, closed take or FLUSH waits. -/
def State.nothingToWrite (s : State) : Prop :=
  s.store.state ≠ .ready ∨
    (s.store.amendments = [] ∧ s.store.flushes = [] ∧ s.takes.queue = [])

/-- The store arbiter has nothing to begin: the flash is busy, or no work waits (R146). -/
def State.settled (s : State) : Prop :=
  s.store.op ≠ .idle ∨
    (s.store.save = none ∧ s.store.clear = none ∧ s.store.reads = [] ∧ s.nothingToWrite)

/-- The poll countdown of a slot, none for an EMPTY one. -/
def State.currentPoll (s : State) (slot : Nat) : Option Nat :=
  (s.dev slot).bind fun d => d.live.pollLeft

/-- `q` is the integer nearest to `a / b`, a half going away from zero (R6). -/
def Nearest (q a b : Int) : Prop :=
  2 * (q * b - a).natAbs ≤ b.natAbs ∧
    (2 * (q * b - a).natAbs = b.natAbs → a.natAbs < (q * b).natAbs)

/-- From one radio record to the next, a request has been posted and nothing else has changed: it
joined the tail with the next age, or gave its label frame to the one that waits (R84, R85). -/
def Posted (r r' : Radio) (c : ReqClass) (slot : Nat) (frame : Option Nat) : Prop :=
  ((∀ x ∈ r.requests, ¬ (x.cls = c ∧ x.slot = slot)) → r' = { r with
    requests := r.requests ++ [⟨c, slot, frame, r.nextAge⟩], nextAge := r.nextAge + 1 }) ∧
  ((∃ x ∈ r.requests, x.cls = c ∧ x.slot = slot) → r' = { r with
    requests := r.requests.map fun x =>
      if x.cls = c ∧ x.slot = slot then { x with frame := frame } else x })

/-- From one radio record to the next, every request for a slot has been dropped, the outcome of a
transaction to it is to be discarded, and nothing else has changed (R47, R48, R51, R86). -/
def Dropped (r r' : Radio) (slot : Nat) : Prop :=
  r' = { r with
    requests := r.requests.filter fun x => x.slot ≠ slot
    flight := r.flight.map fun f =>
      if f.request.slot = slot then { f with dropped := true } else f }

/-- From one radio record to the next, requests of two classes may have been posted and nothing else
has changed: every request keeps its class, slot and age. -/
def OnlyPosted (r r' : Radio) (c1 c2 : ReqClass) : Prop :=
  r' = { r with requests := r'.requests, nextAge := r'.nextAge } ∧
  (∀ x ∈ r.requests, ∃ y ∈ r'.requests, y.cls = x.cls ∧ y.slot = x.slot ∧ y.age = x.age) ∧
  (∀ x ∈ r.requests, x.cls ≠ c1 → x.cls ≠ c2 → x ∈ r'.requests) ∧
  (∀ y ∈ r'.requests, y.cls ≠ c1 → y.cls ≠ c2 → y ∈ r.requests)

/-- Between `s` and `t`, the take table's entries but those of one take are as they were, and so are
its last log index and its commit orders. -/
def EntriesKept (s t : State) (session index : Nat) : Prop :=
  t.takes.lastIndex = s.takes.lastIndex ∧ t.takes.nextOrder = s.takes.nextOrder ∧
  ∀ k : Fin 64, (∀ e, s.takes.entries[k] = some e →
    ¬ (e.copy.session = session ∧ e.copy.index = index)) →
    t.takes.entries[k] = s.takes.entries[k]

/-- Between `s` and `t`, a unit has become ROLLING on a take opened from `o` now, and the devices
assigned to it have the take as their current one; no other unit and no other device has changed
(R122, R125). -/
def UnitRolls (s t : State) (u : Nat) (o : Opener) (c : CurrentTake) : Prop :=
  t.unit u = { s.unit u with current := c, opener := some o, start := s.houseTime } ∧
  (∀ v, v ≠ u → t.unit v = s.unit v) ∧
  (∀ i d, s.dev i = some d → t.dev i =
    some (if d.set.unit = some u then { d with live := { d.live with current := c } } else d)) ∧
  (∀ i, s.dev i = none → t.dev i = none)

/-- Between `s` and `t`, a unit has become IDLE with the next take number; the devices whose current
take was `c` have none and are held no more, those that were held with an OVERDUE request, and the
unit's slates with a DISPLAY request; no other request has been posted, and no other unit and no other
device has changed (R128 steps 4 to 6, R112). -/
def UnitLeft (s t : State) (u : Nat) (c : CurrentTake) : Prop :=
  t.unit u = { s.unit u with
    current := .none
    opener := none
    info := { (s.unit u).info with
      takeNo := if (s.unit u).info.takeNo = 999 then 1 else (s.unit u).info.takeNo + 1 } } ∧
  (∀ v, v ≠ u → t.unit v = s.unit v) ∧
  (∀ i d, s.dev i = some d → t.dev i =
    some (if d.live.current = c then { d with live := { d.live with
      current := .none, held := false } } else d)) ∧
  (∀ i, s.dev i = none → t.dev i = none) ∧
  OnlyPosted s.radio t.radio .overdue .display ∧
  (∀ i d, s.dev i = some d → d.live.current = c → d.live.held = true →
    ∃ x ∈ t.radio.requests, x.cls = .overdue ∧ x.slot = i) ∧
  (∀ i d, s.dev i = some d → d.set.kind = .slate → d.set.unit = some u →
    ∃ x ∈ t.radio.requests, x.cls = .display ∧ x.slot = i) ∧
  (∀ y ∈ t.radio.requests, y ∈ s.radio.requests ∨ ∃ d, s.dev y.slot = some d ∧
    ((y.cls = .overdue ∧ d.live.current = c ∧ d.live.held = true) ∨
      (y.cls = .display ∧ d.set.kind = .slate ∧ d.set.unit = some u)))

/-- The replies that the waiting FLUSH requests of a port get, each with its own fields (R145). -/
def flushReplies (fs : List WaitingFlush) (p : Port) (st : Status)
    (fields : WaitingFlush → List Field) : List Reply :=
  (fs.filter fun f => f.port = p).map fun f =>
    ⟨replyMessage 0x17 f.tag st (fields f), true, false⟩

/-- The log index of the head take, when a take waits, as a field (R145). -/
def State.headField (s : State) : List Field := (s.takes.queue.head?.map fIndex).toList

/-- Between `s` and `t`, every waiting FLUSH has been answered with a status and the head take's log
index, and no other reply has been formed (R145). -/
def FlushesFail (s t : State) (st : Status) : Prop :=
  t.store.flushes = [] ∧
  ∀ p, t.outgoing p = s.outgoing p ++ flushReplies s.store.flushes p st fun _ => s.headField

/-- Between `s` and `t`, a read of the export has ended with nothing else for the flash to do, and has
left the export context as `x`; nothing else has changed, and nothing has been sent or announced. -/
def ExportReadEnds (s t : State) (x : Exporter) : Prop :=
  t.inner = { s with
    store := { s.store with op := .idle, lastWrite := false }
    exporter := x }.inner ∧ NoReply s t ∧ Silent s t

/-- The records of one take put in a state, the other entries as they were (R140 to R142). -/
def TakeTable.inState (t : TakeTable) (session index : Nat) (st : RecState) (order : Option Nat) :
    Vector (Option Entry) 64 :=
  t.entries.map fun o => o.map fun x =>
    if x.copy.session = session ∧ x.copy.index = index then
      { x with copy := { x.copy with state := st }, order := order.or x.order } else x

/-- A request's frame header; none for an event. -/
def reqOf : Instr → Option Req
  | .timeNow q | .refConfig q _ | .setHouseRate q _ | .setOrigin q _ | .declareDevice q _ _
  | .setDevice q _ _ | .removeDevice q _ | .deviceStatus q _ | .jamDevice q _ _ | .lineEnable q _ _
  | .profileBegin q _ _ _ | .profilePoints q _ _ | .profileRead q _ | .radioEnable q _
  | .radioStatus q | .setSlate q _ | .unitStatus q _ | .startTake q _ | .endTake q _ | .markTake q _
  | .takeTableStatus q | .setCommitDelay q _ | .flush q | .clearLog q | .saveSettings q
  | .storeStatus q | .whereIs q _ | .atTick q _ | .exportTakes q _ | .cancelExport q
  | .unknownRequest q _ => some q
  | .reset _ _ _ _ | .settingsApply | .logScanPageRead | .scanComplete _ _ | .originBoundary
  | .frameGapTimeout _ | .messageSent _ | .referenceEdge _ | .acquisitionTimeout | .referenceLoss
  | .holdoverExpiry | .lineFrameEdge _ | .lineSenseChange _ _ | .runSenseChange _ _ | .beaconMark
  | .pollDue _ | .periodicExpiry _ | .slotStart | .echoReceived _ _ | .transactionEnd
  | .commitDelayExpiry | .pageWriteCheck _ | .storeReadDone | .settingsWriteDone _
  | .logEraseDone _ | .portByteReceived _ _ _ => none

/-- The permission class of a kind code of the catalogue (R183). -/
def classOf (kind : Nat) : Class :=
  if [0x01, 0x08, 0x0D, 0x0F, 0x11, 0x15, 0x1A, 0x1B, 0x1C].contains kind then .both
  else if [0x1D, 0x1E].contains kind then .suite
  else .control

/-- A DECLARE_DEVICE carries its three required fields; every other command is complete (R44). -/
def completeOk : Instr → Bool
  | .declareDevice _ _ a => a.complete
  | _ => true

/-- The bounds that a take record keeps so that its encoding can hold it (section 11.5). -/
def TakeRecord.encodable (r : TakeRecord) : Bool :=
  holds 2 r.session && holds 4 r.index && holds 1 r.unit && holds 2 r.takeNo &&
  holdsText 12 r.scene && holds 8 r.startTick && holdsOpt 8 r.endTick &&
  (r.note.map (holdsText 32)).getD true && holds 1 r.participants.length && holds 2 r.clapTotal &&
  holds 1 r.claps.length &&
  r.claps.all (fun c => holds 1 c.slot && decide (0 ≤ c.tick) && holds 8 c.tick.toNat &&
    holds 4 c.frame) &&
  r.participants.all fun p =>
    holds 1 p.slot && holds 1 p.att.codes.2 && holds 1 p.rate && holds 1 p.audio && holds 1 p.pull &&
    holds 4 p.phase && holds 4 p.origin && holdsOpt 4 p.startFrame && holdsOpt 4 p.endFrame &&
    holdsOpt 8 p.rollStart && holdsOpt 8 p.rollStop && holdsOpt 8 p.lineFault &&
    holds 1 p.segments.length &&
    p.segments.all fun g => decide (0 ≤ g.tick) && holds 8 g.tick.toNat && holds 4 g.frame &&
      holdsInt 4 g.rate && holds 4 g.residual

end Sys2Proof.Machine
end

