-- ==== Sys2Proof/Certificates/Slice0/Obligations.lean ====
section
/-!
DEFINITION. The statements for the provers, block by block: what each command does, and what it
leaves alone. A command's frame is said through `State.inner`: everything but what the ports have
still to send; what they have still to send is said by `Answered`, `NoReply`, `Raised` and `Silent`.
-/

open Sys2Proof Sys2Proof.Machine

/-! ### The step and the reset -/

/-- A step takes the command at the front of the queue and runs it on the state with the rest. With an
empty queue it runs the part's own event that is due, a beacon mark that is due with no transaction in
flight among them, and when none is due the oscillator ticks (log entries 3 and 5). -/
def Obligations.StepTakesFrontCommand : Prop :=
  ∀ (c : Instr) (rest : List Instr) (s : State),
    (s.pending = c :: rest → step s = exec c { s with pending := rest }) ∧
    (s.pending = [] →
      (∀ e, s.nextDue = some e → step s = exec e s) ∧
      (s.nextDue = none → step s = .next s.tick) ∧
      (∀ b, s.radio.flight = none → s.radio.markDue = some b → step s = exec .beaconMark s))

/-- RESET puts every block in its reset state and leaves the flash, the input levels and the waiting
commands alone (sections 2.1, 3.6, 5.6, 6.9, 7.7, 8.2, 11.6). Of a commit write in flight on the last
page of its take, no good page comes in, so the take's pages stay an incomplete record (section 8.5).
Inside the reset records, what the scan is yet to find and what is not held is the model's choice (log
entries 25 and 43), and so is what a cut-off write or erase leaves (log entry 6). -/
def Obligations.ResetState : Prop :=
  ∀ (a b : Bool) (left : PageLeft) (erased : List Nat) (s : State), ∃ t,
    exec (.reset a b left erased) s = .next t ∧
    t.clock = ⟨0, 0⟩ ∧ t.origin = 0 ∧ t.house = 2 ∧ t.ref = .reset ∧
    (∀ i, t.dev i = none) ∧ (∀ i, i < 8 → t.profile i = .unset) ∧
    (∀ i, i < 16 → (t.line i).bound = none ∧ (t.line i).enabled = false ∧
      (t.line i).state = .disabled ∧ (t.line i).out = none ∧
      (t.line i).sense = (s.line i).sense ∧ (t.line i).run = (s.line i).run) ∧
    t.radio = .reset ∧ t.marks = 256 ∧ (∀ u, u < 4 → t.unit u = .reset) ∧ t.takes = .reset ∧
    t.store = .reset ∧ t.control = .reset ∧ t.suite = .reset ∧ t.notices = [] ∧ t.lost = 0 ∧
    t.exporter = .reset ∧
    t.lineRate = (if a && !b then 460800 else if b && !a then 921600 else 115200) ∧
    t.flash.settings = s.flash.settings ∧ (s.store.op = .idle → t.flash.log = s.flash.log) ∧
    (∀ ix page, s.store.op = .commit ix [page] → t.flash.log = s.flash.log ∨
      t.flash.log = writePage s.store.pointer .damaged s.flash.log) ∧
    t.pending = s.pending

/-! ### Picture time and labels -/

/-- R15: the label frame of a label that passes R14 is in the label day and labels back to it, and
the label of any label frame passes R14 and reads back. R11: the fields of a label frame at a non-drop
rate, their ranges, and one label frame for every label of that form. -/
def Obligations.LabelRoundTrip : Prop :=
  ∀ (code : Nat), 1 ≤ code → code ≤ 17 →
    (∀ l : Label, labelOk code l = true →
      frameOf code l = (rateOf code).base * (3600 * l.hh + 60 * l.mm + l.ss) + l.ff -
        (rateOf code).drop * (60 * l.hh + l.mm - (60 * l.hh + l.mm) / 10) ∧
      frameOf code l < dayOf code ∧ labelOf code (frameOf code l) = l) ∧
    (∀ n : Nat, n < dayOf code → labelOk code (labelOf code n) = true ∧
      frameOf code (labelOf code n) = n) ∧
    (code ≠ 5 → code ≠ 11 →
      (∀ n, n < dayOf code →
        labelOf code n = ⟨n / (3600 * (rateOf code).base),
          n % (3600 * (rateOf code).base) / (60 * (rateOf code).base),
          n % (60 * (rateOf code).base) / (rateOf code).base, n % (rateOf code).base⟩ ∧
        (labelOf code n).hh ≤ 23 ∧ (labelOf code n).mm ≤ 59 ∧ (labelOf code n).ss ≤ 59 ∧
        (labelOf code n).ff < (rateOf code).base) ∧
      (∀ l : Label, l.hh ≤ 23 → l.mm ≤ 59 → l.ss ≤ 59 → l.ff < (rateOf code).base →
        ∃ n, (n < dayOf code ∧ labelOf code n = l) ∧
          ∀ m, m < dayOf code ∧ labelOf code m = l → m = n))

/-- A frame start of a radio device mapped to its house tick and back: the device ticks come back
within one tick, and at a rate of 0 or below the label frame comes back at sub-frame 0 (section 1.7).
Section 1.7 says so of every rate; at some positive rates its own formulas give one tick less, and the
model follows the formulas (log entry 19). -/
def Obligations.RadioFrameRoundTrip : Prop :=
  ∀ (code n n0 : Nat) (j r : Int), 1 ≤ code → code ≤ 17 → n < dayOf code → n0 < dayOf code →
    -10000 ≤ r → r ≤ 10000 →
    (deviceElapsed r (radioTick code j n0 r n - j) -
      (((n : Int) - n0) % dayOf code) * periodOf code).natAbs ≤ 1 ∧
    (r ≤ 0 → radioFrame code j n0 r (radioTick code j n0 r n) = n ∧
      radioSub code j r (radioTick code j n0 r n) = 0)

/-- R3: SET_HOUSE_RATE sets the house rate and nothing else, after which every house label is worked
at that code, as is the label of a SET_ORIGIN; it refuses a code outside 1 to 17, and is not
permitted on the suite port. -/
def Obligations.SetHouseRate : Prop :=
  ∀ (q : Req) (code : Nat) (s : State), Taken s q → code < 256 →
    (q.port = .control → 1 ≤ code → code ≤ 17 → ∃ t, exec (.setHouseRate q code) s = .next t ∧
      Answered s t q 0x03 .ok [] ∧ Silent s t ∧ t.inner = { s with house := code }.inner ∧
      (∀ T : Int, houseLabel t.house T = labelOf code ((T / periodOf code) % dayOf code).toNat) ∧
      (∀ q' l u w, exec (.setOrigin q' l) t = .next u → t.ref.waiting = none →
        u.ref.waiting = some w → w.rate = code ∧ labelOk code l = true ∧
          w.frame = frameOf code l)) ∧
    (q.port = .control → (code = 0 ∨ 17 < code) → ∃ t, exec (.setHouseRate q code) s = .next t ∧
      Answered s t q 0x03 .outOfRange [] ∧ Silent s t ∧ t.inner = s.inner) ∧
    (q.port = .suite → (s.suite.replies.filter fun r => !r.listed).length < 4 →
      ∃ t, exec (.setHouseRate q code) s = .next t ∧ Silent s t ∧ t.inner = s.inner ∧
        t.outgoing .suite = s.outgoing .suite ++
          [⟨replyMessage 0x03 q.tag .notPermitted [], false, false⟩])

/-! ### The reference unit -/

/-- REF_CONFIG in range sets the reference settings, keeps a trim that is not carried, restarts the
live state and announces it; the waiting SET_ORIGIN stays (section 2.1). -/
def Obligations.RefConfigSets : Prop :=
  ∀ (q : Req) (src : Source) (rate th sl ho : Nat) (lo : Bool) (trim : Option Int) (s : State),
    Taken s q → q.port = .control → 1 ≤ rate → rate ≤ (if src = .ltcIn then 6 else 17) →
    1 ≤ th → th ≤ 10000 → 1 ≤ sl → sl ≤ 100 → 10 ≤ ho → ho ≤ 3600 →
    (∀ x, trim = some x → -5000 ≤ x ∧ x ≤ 5000) →
    ∃ t, exec (.refConfig q ⟨src.code, rate, lo, th, sl, ho, trim⟩) s = .next t ∧
      t.ref = { RefUnit.reset with
        set := ⟨src, rate, lo, th, sl, ho, trim.getD s.ref.set.trim⟩
        state := if src = .internal then .free else .acquiring
        waiting := s.ref.waiting } ∧
      t.inner = { s with ref := t.ref }.inner ∧ Answered s t q 0x02 .ok [] ∧
      Raised s t 0x42 [fByte s.ref.state.code, fByte t.ref.state.code, fByte src.code,
        fTick s.clock.counter, fTick s.houseTime]

/-- An accepted SET_ORIGIN waits, unanswered, for the next house second: its boundary is the first
whole house second after now, as a counter value (section 2.8). -/
def Obligations.SetOriginWaits : Prop :=
  ∀ (q : Req) (l : Label) (s : State), Taken s q → q.port = .control →
    s.anyTakeOpen = false → s.ref.waiting = none → labelHolds l = true → labelOk s.house l = true →
    ∃ t w, exec (.setOrigin q l) s = .next t ∧ t.ref.waiting = some w ∧
      w.frame = frameOf s.house l ∧ w.rate = s.house ∧ w.port = q.port ∧ w.tag = q.tag ∧
      (w.boundary + s.origin) % ticksPerSecond = 0 ∧ s.clock.counter < w.boundary ∧
      w.boundary ≤ s.clock.counter + ticksPerSecond ∧
      t.inner = { s with ref := { s.ref with waiting := some w } }.inner ∧ NoReply s t ∧ Silent s t

/-- An origin found for a label makes the label show at the counter value it takes effect at, is the
current origin when that is a candidate, and is the least candidate otherwise; none is found only when
no origin in range makes the label show (section 2.8). -/
def Obligations.OriginForLabel : Prop :=
  ∀ (code n : Nat) (c : Int) (current : Nat), 1 ≤ code → code ≤ 17 → n < dayOf code →
    current ≤ maxOrigin →
    (∀ o, originFor code n c current = some o →
      o ≤ maxOrigin ∧ (c + o) % ((dayOf code : Int) * periodOf code) = (n : Int) * periodOf code ∧
      ((c + current) % ((dayOf code : Int) * periodOf code) = (n : Int) * periodOf code →
        o = current) ∧
      ((c + current) % ((dayOf code : Int) * periodOf code) ≠ (n : Int) * periodOf code →
        ∀ o' : Nat, (c + o') % ((dayOf code : Int) * periodOf code) = (n : Int) * periodOf code →
          o ≤ o')) ∧
    (originFor code n c current = none → ∀ o' : Nat, o' ≤ maxOrigin →
      (c + o') % ((dayOf code : Int) * periodOf code) ≠ (n : Int) * periodOf code)

/-- At its boundary, with no take open, a SET_ORIGIN that finds an origin applies it, clears the
pending-origin mark and answers with the old origin, the new one and the counter; one that finds none
is answered OUT_OF_RANGE; with a take open it is refused and no origin changes (section 2.8). With
LTC_IN, a used edge that slews, carries the label after the one before it and finds the pending-origin
mark set and no take open takes the origin at its nominal time (section 2.8). -/
def Obligations.OriginBoundaryApplies : Prop :=
  (∀ (w : WaitingOrigin) (s : State), s.ref.waiting = some w → w.boundary ≤ s.clock.counter →
    (∀ o, s.anyTakeOpen = false →
      originFor w.rate w.frame s.clock.counter s.origin = some o →
      ∃ t, exec .originBoundary s = .next t ∧ t.origin = o ∧ t.clock = s.clock ∧
        t.ref = { s.ref with waiting := none, pendingOrigin := false } ∧
        t.outgoing w.port = s.outgoing w.port ++
          [⟨replyMessage 0x04 w.tag .ok [fTick s.origin, fTick o, fTick s.clock.counter],
            true, false⟩] ∧
        (o ≠ s.origin → t.marks = 0 ∧ t.radio.opened = false ∧ t.radio.flight = none ∧
          Raised s t 0x44 ([fTick s.origin, fTick o, fByte 0, fTick s.clock.counter] ++
            fLabel (houseLabel s.house (s.clock.counter + o : Nat)))) ∧
        (o = s.origin → t.inner = { s with ref := t.ref }.inner ∧ Silent s t) ∧
        t.units = s.units ∧ t.takes = s.takes ∧ t.store = s.store ∧ t.flash = s.flash ∧
        t.profiles = s.profiles) ∧
    (s.anyTakeOpen = false → originFor w.rate w.frame s.clock.counter s.origin = none →
      ∃ t, exec .originBoundary s = .next t ∧
        t.inner = { s with ref := { s.ref with waiting := none } }.inner ∧ Silent s t ∧
        t.outgoing w.port = s.outgoing w.port ++
          [⟨replyMessage 0x04 w.tag .outOfRange [], true, false⟩]) ∧
    (s.anyTakeOpen = true → ∃ t, exec .originBoundary s = .next t ∧
      t.inner = { s with ref := { s.ref with waiting := none } }.inner ∧ Silent s t ∧
      t.outgoing w.port = s.outgoing w.port ++
        [⟨replyMessage 0x04 w.tag .takeOpen [], true, false⟩])) ∧
  (∀ (u : UsedEdge) (p o : Nat) (l : Label) (e : Int) (s : State), s.ref.set.source = .ltcIn →
    s.ref.state = .locked → s.ref.lastUsed = some u → u.label = some p → 1 ≤ s.ref.set.rate →
    s.ref.set.rate ≤ 6 → s.clock.counter = u.counter + periodOf s.ref.set.rate →
    labelOk s.ref.set.rate l = true →
    frameOf s.ref.set.rate l = (p + 1) % dayOf s.ref.set.rate →
    e = reduceError (periodOf s.ref.set.rate) s.houseTime → e.natAbs ≤ s.ref.set.threshold →
    s.anyTakeOpen = false → s.ref.pendingOrigin = true →
    originFor s.ref.set.rate (frameOf s.ref.set.rate l) (s.clock.counter - e) s.origin = some o →
    ∃ t, exec (.referenceEdge (.timecode l)) s = .next t ∧ t.origin = o ∧ t.clock = s.clock ∧
      t.ref.pendingOrigin = false ∧ t.ref.state = .locked ∧ t.ref.waiting = s.ref.waiting ∧
      t.ref.lastUsed = some ⟨s.clock.counter, some (frameOf s.ref.set.rate l), e⟩ ∧
      (o ≠ s.origin → t.marks = 0 ∧ t.radio.opened = false ∧ t.radio.flight = none ∧
        Raised s t 0x44 ([fTick s.origin, fTick o, fByte 1, fTick (s.clock.counter - e)] ++
          fLabel (houseLabel s.house (s.clock.counter - e + o)))) ∧
      (o = s.origin → t.inner = { s with ref := t.ref }.inner ∧ Silent s t) ∧
      t.units = s.units ∧ t.takes = s.takes ∧ t.store = s.store ∧ t.flash = s.flash ∧
      t.profiles = s.profiles ∧ NoReply s t)

/-- An edge in FREE or HOLDOVER begins an acquisition run and is announced; in ACQUIRING an edge joins
the run when its interval is regular and its error lies within 2 ticks of the first, else begins it
anew; the eighth enters LOCKED, is announced, and is slewed or stepped like any LOCKED edge but for the
correction list (section 2.4). An edge at an input that is not the current source's is ignored, and
with INTERNAL every edge is (section 2.2). -/
def Obligations.EdgeBeginsAcquisition : Prop :=
  ∀ (e : EdgeInput) (lab : Option Nat) (err : Int) (s : State),
    ((s.ref.set.source = .housePulse ∧ e = .housePulse ∧ lab = none) ∨
      (s.ref.set.source = .ltcIn ∧ ∃ l, e = .timecode l ∧
        lab = if labelOk s.ref.set.rate l then some (frameOf s.ref.set.rate l) else none) →
      1 ≤ s.ref.set.rate → s.ref.set.rate ≤ 17 →
      err = reduceError (periodOf s.ref.set.rate) s.houseTime →
      (s.ref.state = .free ∨ s.ref.state = .holdover →
        ∃ t, exec (.referenceEdge e) s = .next t ∧
          t.ref = { s.ref with
            state := .acquiring
            holdoverStart := none
            run := some ⟨1, err, s.clock.counter, lab⟩ } ∧
          (∃ k : Int, err = s.houseTime - k * periodOf s.ref.set.rate) ∧
          -(periodOf s.ref.set.rate : Int) < 2 * err ∧ 2 * err ≤ periodOf s.ref.set.rate ∧
          t.inner = { s with ref := t.ref }.inner ∧ NoReply s t ∧
          Raised s t 0x42 [fByte s.ref.state.code, fByte 1, fByte s.ref.set.source.code,
            fTick s.clock.counter, fTick s.houseTime]) ∧
      (s.ref.state = .acquiring → s.ref.run = none → ∃ t, exec (.referenceEdge e) s = .next t ∧
        t.inner = { s with ref := { s.ref with
          run := some ⟨1, err, s.clock.counter, lab⟩ } }.inner ∧ NoReply s t ∧ Silent s t) ∧
      (∀ r, s.ref.state = .acquiring → s.ref.run = some r → r.last ≤ s.clock.counter →
        (periodOf s.ref.set.rate / 100 <
            ((s.clock.counter - r.last : Nat) - (periodOf s.ref.set.rate : Int)).natAbs ∨
          2 < (reduceError (periodOf s.ref.set.rate) (err - r.firstErr)).natAbs) →
        ∃ t, exec (.referenceEdge e) s = .next t ∧ t.inner = { s with ref := { s.ref with
          run := some ⟨1, err, s.clock.counter, lab⟩ } }.inner ∧ NoReply s t ∧ Silent s t) ∧
      (∀ r, s.ref.state = .acquiring → s.ref.run = some r → r.last ≤ s.clock.counter →
        ((s.clock.counter - r.last : Nat) - (periodOf s.ref.set.rate : Int)).natAbs ≤
          periodOf s.ref.set.rate / 100 →
        (reduceError (periodOf s.ref.set.rate) (err - r.firstErr)).natAbs ≤ 2 →
        (r.edges < 7 → ∃ t, exec (.referenceEdge e) s = .next t ∧ t.inner = { s with ref :=
          { s.ref with run := some { r with
            edges := r.edges + 1, last := s.clock.counter, label := lab } } }.inner ∧
          NoReply s t ∧ Silent s t) ∧
        (r.edges = 7 → (err.natAbs ≤ s.ref.set.threshold ∨ s.anyTakeOpen = true) →
          (s.ref.set.source = .housePulse ∨ s.anyTakeOpen = true ∨
            (s.ref.pendingOrigin = false ∧ s.ref.set.ltcOrigin = false)) →
          ∃ t c, exec (.referenceEdge e) s = .next t ∧
            (err.natAbs ≤ s.ref.set.slew → c = -err) ∧
            (s.ref.set.slew < err.natAbs →
              c = if err < 0 then (s.ref.set.slew : Int) else -(s.ref.set.slew : Int)) ∧
            t.ref = { s.ref with
              state := .locked
              run := none
              list := []
              lastUsed := some ⟨s.clock.counter, lab, err⟩
              correction := some ⟨c, periodOf s.ref.set.rate, periodOf s.ref.set.rate⟩
              begun := c
              pendingStep := decide (s.ref.set.threshold < err.natAbs)
              pendingOrigin := s.ref.pendingOrigin ||
                (decide (s.ref.set.source = .ltcIn) && s.ref.set.ltcOrigin) } ∧
            t.inner = { s with ref := t.ref }.inner ∧ NoReply s t ∧
            Raised s t 0x42 [fByte 1, fByte 2, fByte s.ref.set.source.code,
              fTick s.clock.counter, fTick s.houseTime]) ∧
        (r.edges = 7 → s.ref.set.source = .housePulse → s.ref.set.threshold < err.natAbs →
          s.anyTakeOpen = false → s.clock.counter + periodOf s.ref.set.rate ≤ maxCounter →
          ∃ t, exec (.referenceEdge e) s = .next t ∧ s.clock.counter ≤ t.clock.counter ∧
            t.clock.counter < s.clock.counter + periodOf s.ref.set.rate ∧
            t.houseTime % periodOf s.ref.set.rate = 0 ∧ t.origin = s.origin ∧
            t.ref = { s.ref with
              state := .locked
              run := none
              list := []
              lastUsed := some ⟨t.clock.counter, none, 0⟩
              correction := none
              begun := 0
              pendingStep := false } ∧
            t.units = s.units ∧ t.takes = s.takes ∧ t.store = s.store ∧ NoReply s t ∧
            (s.notices.length < 15 → ∃ m1 m2, t.announced = s.announced ++ [m1, m2] ∧
              m1.kind = 0x42 ∧ m2.kind = 0x43)))) ∧
    ((s.ref.set.source = .internal ∨ (s.ref.set.source = .housePulse ∧ e ≠ .housePulse) ∨
        (s.ref.set.source = .ltcIn ∧ e = .housePulse)) →
      ∃ t, exec (.referenceEdge e) s = .next t ∧ t.inner = s.inner ∧ NoReply s t ∧ Silent s t)

/-- An edge in LOCKED whose interval from the last used one is not within a hundredth of one period of
one, two or three periods is ignored (section 2.4, section 2.5). One that is, m periods on, is used:
its error within the step threshold or a take open, it is slewed: the counter does not move, and the
correction is the negated error, limited to the slew limit with its sign (section 2.5). The m periods
that end enter the list, which keeps its last 64 entries, and the trim becomes the mean correction over
it in 0.01 ppm, limited (section 2.6); that a correction still in progress enters as 0 is log entry
21's reading. The origin that timecode can set at such an edge is left to `OriginBoundaryApplies`. -/
def Obligations.LockedEdgeSlews : Prop :=
  ∀ (u : UsedEdge) (i : EdgeInput) (lab : Option Nat) (s : State),
    (s.ref.set.source = .housePulse ∧ i = .housePulse ∧ lab = none) ∨
      (s.ref.set.source = .ltcIn ∧ ∃ l, i = .timecode l ∧
        lab = if labelOk s.ref.set.rate l then some (frameOf s.ref.set.rate l) else none) →
    s.ref.state = .locked → s.ref.lastUsed = some u → 1 ≤ s.ref.set.rate → s.ref.set.rate ≤ 17 →
    u.counter ≤ s.clock.counter →
    ((∀ m : Int, 1 ≤ m → m ≤ 3 → periodOf s.ref.set.rate / 100 <
        ((s.clock.counter - u.counter : Nat) - m * periodOf s.ref.set.rate).natAbs) →
      ∃ t, exec (.referenceEdge i) s = .next t ∧ t.inner = s.inner ∧ NoReply s t ∧ Silent s t) ∧
    (∀ (m : Nat) (e : Int) (l : List (Int × Nat)), 1 ≤ m → m ≤ 3 →
      ((s.clock.counter - u.counter : Nat) - (m * periodOf s.ref.set.rate : Int)).natAbs ≤
        periodOf s.ref.set.rate / 100 →
      e = reduceError (periodOf s.ref.set.rate) s.houseTime →
      (e.natAbs ≤ s.ref.set.threshold ∨ s.anyTakeOpen = true) →
      (s.ref.set.source = .housePulse ∨ s.anyTakeOpen = true ∨ s.ref.pendingOrigin = false) →
      l = s.ref.list ++ [(if s.ref.correction.isSome then 0 else s.ref.begun, m)] →
      ∃ t c q, exec (.referenceEdge i) s = .next t ∧
        c.natAbs ≤ s.ref.set.slew ∧ (e.natAbs ≤ s.ref.set.slew → c = -e) ∧
        (s.ref.set.slew < e.natAbs →
          c = if e < 0 then (s.ref.set.slew : Int) else -(s.ref.set.slew : Int)) ∧
        t.ref.list = l.drop (l.length - 64) ∧ t.ref.list.length ≤ 64 ∧
        Nearest q (100000000 * (t.ref.list.map Prod.fst).sum)
          (periodOf s.ref.set.rate * (t.ref.list.map fun x => (x.2 : Int)).sum) ∧
        t.ref = { s.ref with
          set := { s.ref.set with trim := max (-5000) (min 5000 q) }
          lastUsed := some ⟨s.clock.counter, lab, e⟩
          correction := some ⟨c, periodOf s.ref.set.rate, periodOf s.ref.set.rate⟩
          begun := c
          list := t.ref.list
          pendingStep := decide (s.ref.set.threshold < e.natAbs) } ∧
        t.inner = { s with ref := t.ref }.inner ∧ NoReply s t ∧ Silent s t)

/-- A used edge in LOCKED, one, two or three periods after the last used one, with a larger error and
no take open steps the counter forward, by less than one reference period, to the next frame start at
the reference rate, and the periods that end enter the list as at a slewed edge (sections 2.5, 2.6);
every radio device's segment moves with it, its rate and age staying, and a DRIFT request waits for it
(section 6.8). The origin that timecode can set at such an edge is left out: with LTC_IN no origin is
pending. That a correction still in progress enters the list as 0 is log entry 21's reading. -/
def Obligations.LockedEdgeSteps : Prop :=
  ∀ (u : UsedEdge) (i : EdgeInput) (lab : Option Nat) (m : Nat) (e : Int) (l : List (Int × Nat))
    (s : State),
    (s.ref.set.source = .housePulse ∧ i = .housePulse ∧ lab = none) ∨
      (s.ref.set.source = .ltcIn ∧ s.ref.pendingOrigin = false ∧ ∃ l, i = .timecode l ∧
        lab = if labelOk s.ref.set.rate l then some (frameOf s.ref.set.rate l) else none) →
    s.ref.state = .locked →
    s.ref.lastUsed = some u → 1 ≤ s.ref.set.rate → s.ref.set.rate ≤ 17 →
    u.counter ≤ s.clock.counter → 1 ≤ m → m ≤ 3 →
    ((s.clock.counter - u.counter : Nat) - (m * periodOf s.ref.set.rate : Int)).natAbs ≤
      periodOf s.ref.set.rate / 100 →
    e = reduceError (periodOf s.ref.set.rate) s.houseTime →
    s.ref.set.threshold < e.natAbs → s.anyTakeOpen = false →
    s.clock.counter + periodOf s.ref.set.rate ≤ maxCounter →
    l = s.ref.list ++ [(if s.ref.correction.isSome then 0 else s.ref.begun, m)] →
    ∃ t q, exec (.referenceEdge i) s = .next t ∧
      s.clock.counter ≤ t.clock.counter ∧
      t.clock.counter < s.clock.counter + periodOf s.ref.set.rate ∧
      t.houseTime % periodOf s.ref.set.rate = 0 ∧ t.origin = s.origin ∧
      t.ref.correction = none ∧ t.ref.pendingStep = false ∧ t.marks = 0 ∧
      Nearest q (100000000 * (t.ref.list.map Prod.fst).sum)
        (periodOf s.ref.set.rate * (t.ref.list.map fun x => (x.2 : Int)).sum) ∧
      t.ref = { s.ref with
        set := { s.ref.set with trim := max (-5000) (min 5000 q) }
        lastUsed := some ⟨t.clock.counter, lab, 0⟩
        correction := none
        begun := 0
        list := l.drop (l.length - 64)
        pendingStep := false } ∧
      t.radio.opened = false ∧ t.radio.flight = none ∧
      (∀ i d, s.dev i = some d → ∃ g, t.dev i = some g ∧ g.set = d.set ∧
        g.live.state = d.live.state ∧ g.live.rate = d.live.rate ∧ g.live.age = d.live.age ∧
        g.live.predicted = d.live.predicted ∧
        (d.isRadio = true → g.live.jam = d.live.jam.map fun x =>
          ((x.1 + (t.clock.counter - s.clock.counter : Nat) : Int), x.2)) ∧
        (d.isRadio = true → d.live.jam ≠ none → (d.live.state = .tracked ∨
          d.live.state = .drifting ∨ d.live.state = .outOfRange ∨ d.live.state = .jamPending) →
          ∃ x ∈ t.radio.requests, x.cls = .drift ∧ x.slot = i)) ∧
      t.units = s.units ∧ t.takes = s.takes ∧ t.store = s.store ∧ t.flash = s.flash ∧
      t.profiles = s.profiles ∧ NoReply s t ∧
      Raised s t 0x43 ([fTick (t.clock.counter - s.clock.counter : Nat), fTick s.clock.counter,
        fTick t.clock.counter, fTick t.houseTime] ++ fLabel (houseLabel s.house t.houseTime) ++
        [fFlag s.ref.pendingStep])

/-- The three waits of the reference unit: an acquisition run is emptied, a lost reference gives
HOLDOVER, an expired holdover gives FREE; the trim and the counter stay (sections 2.4, 2.7). That the
first two also run with the source INTERNAL, on the period of the stored rate code, is the model's
reading (log entry 23). -/
def Obligations.ReferenceWaits : Prop :=
  ∀ (s : State),
    (∀ r, s.ref.state = .acquiring → s.ref.run = some r →
      r.last + 4 * periodOf s.ref.set.rate ≤ s.clock.counter →
      ∃ t, exec .acquisitionTimeout s = .next t ∧
        t.inner = { s with ref := { s.ref with run := none } }.inner ∧ NoReply s t ∧ Silent s t) ∧
    (∀ u, s.ref.state = .locked → s.ref.lastUsed = some u →
      u.counter + 4 * periodOf s.ref.set.rate ≤ s.clock.counter →
      ∃ t, exec .referenceLoss s = .next t ∧
        t.inner = { s with ref := { s.ref with
          state := .holdover, list := [], holdoverStart := some s.clock.counter } }.inner ∧
        NoReply s t ∧
        Raised s t 0x42 [fByte 2, fByte 3, fByte s.ref.set.source.code, fTick s.clock.counter,
          fTick s.houseTime]) ∧
    (∀ c, s.ref.state = .holdover → s.ref.holdoverStart = some c →
      c + s.ref.set.holdover * 2400000 ≤ s.clock.counter →
      ∃ t, exec .holdoverExpiry s = .next t ∧
        t.inner = { s with ref := { s.ref with state := .free, holdoverStart := none } }.inner ∧
        NoReply s t ∧
        Raised s t 0x42 [fByte 3, fByte 0, fByte s.ref.set.source.code, fTick s.clock.counter,
          fTick s.houseTime])

/-- Over an oscillator tick the exact running total, in parts of a tick, gains one tick, the trim
unless the state is LOCKED, and the share of the correction in progress, which is over after its last
tick (section 2.3). A beacon mark, a slot boundary or a frame edge of an ACTIVE line that house time
reaches in it becomes due (sections 3.6, 5.1), and nothing else changes. That what is due is held in
markDue, slotDue and edgeDue, and that a newly reached mark, boundary or edge takes the place of one
not yet taken, is the model's own (log entry 20, DESIGN CHOICE), no rule of those sections. -/
def Obligations.TickGain : Prop :=
  ∀ (c : Correction) (s : State), 1 ≤ s.ref.set.rate → s.ref.set.rate ≤ 17 →
    (s.ref.correction = some c ∨ (s.ref.correction = none ∧ c.ticks = 0)) →
    c.period = periodOf s.ref.set.rate →
    s.clock.frac < totalParts → s.clock.counter + 3 ≤ maxCounter →
    -5000 ≤ s.ref.set.trim → s.ref.set.trim ≤ 5000 → c.ticks.natAbs ≤ 100 →
    ((s.tick.clock.counter * totalParts + s.tick.clock.frac : Nat) : Int) * 100000000 * c.period =
      ((s.clock.counter * totalParts + s.clock.frac : Nat) : Int) * 100000000 * c.period +
      (totalParts : Int) * (100000000 * c.period +
        (if s.ref.state = .locked then 0 else s.ref.set.trim * c.period) + 100000000 * c.ticks) ∧
    s.tick.clock.frac < totalParts ∧
    (s.ref.correction = some c → c.left ≤ 1 → s.tick.ref.correction = none) ∧
    (s.ref.correction = some c → 1 < c.left →
      s.tick.ref.correction = some { c with left := c.left - 1 }) ∧
    (s.ref.correction = none → s.tick.ref.correction = none) ∧
    (∀ b, s.houseTime < b → b ≤ s.tick.houseTime →
      (b % 2400000 = 0 → s.tick.radio.markDue = some b) ∧
      (b % 120000 = 0 → s.tick.radio.slotDue = some b)) ∧
    ((∀ b, s.houseTime < b → b ≤ s.tick.houseTime → b % 2400000 ≠ 0) →
      s.tick.radio.markDue = s.radio.markDue) ∧
    ((∀ b, s.houseTime < b → b ≤ s.tick.houseTime → b % 120000 ≠ 0) →
      s.tick.radio.slotDue = s.radio.slotDue) ∧
    (∀ n slot d, n < 16 → (s.line n).state = .active → (s.line n).bound = some slot →
      s.dev slot = some d →
      (∀ b, s.houseTime < b → b ≤ s.tick.houseTime →
        (b + d.set.phase) % periodOf d.set.rate = 0 →
        s.tick.line n = { s.line n with edgeDue := some b }) ∧
      ((∀ b, s.houseTime < b → b ≤ s.tick.houseTime →
        (b + d.set.phase) % periodOf d.set.rate ≠ 0) → s.tick.line n = s.line n)) ∧
    (∀ n, ((s.line n).state ≠ .active ∨ ∀ slot, (s.line n).bound = some slot →
      s.dev slot = none) → s.tick.line n = s.line n) ∧
    s.tick = { s with
      clock := s.tick.clock
      ref := { s.ref with correction := s.tick.ref.correction }
      radio := { s.radio with markDue := s.tick.radio.markDue, slotDue := s.tick.radio.slotDue }
      lines := s.tick.lines }

/-! ### Devices and lines -/

/-- A DECLARE_DEVICE that passes its checks fills the slot with what is carried and defaults for the
rest and with the live state of a new device (sections 3.1, 6.1), binds a line with its enable off,
and is announced (section 3.2). A camera declared with auto-roll on onto a line whose run sense is
active is handed a rise as well (section 3.3): after the scan it opens the take of an IDLE unit with
ROLL_SENSE, the camera in it with its roll start (section 7.2); with the run sense inactive, no unit,
a unit already rolling, or before the scan it does nothing more. -/
def Obligations.DeviceDeclared : Prop :=
  ∀ (q : Req) (slot rate : Nat) (k : Kind) (att : Attachment) (a : DeviceArgs) (s : State),
    Taken s q → q.port = .control → s.store.applied = true → slot < 32 → s.dev slot = none →
    a.fits = true → a.kind = some k.code → a.att = some att.codes → a.rate = some rate →
    settingsOk a rate = true → suits k att = true →
    (a.autoRoll = some true → k = .camera) →
    s.attachmentHeld slot att = false → s.unitFull (a.unit.bind orNone) = false →
    ∃ t d, exec (.declareDevice q slot a) s = .next t ∧ t.dev slot = some d ∧
      d.set.kind = k ∧ d.set.att = att ∧ d.set.rate = rate ∧ d.set.unit = a.unit.bind orNone ∧
      d.set.origin = a.origin.getD 0 ∧ (d.set.autoRoll = true ↔ a.autoRoll = some true) ∧
      (k = .recorder → d.set.audio = a.audio.getD 1 ∧ d.set.pull = a.pull.getD 0) ∧
      (att.wired = true → d.set.phase = a.phase.getD 0) ∧
      (att.wired = false → d.set.tolerance = a.tolerance.getD 2 ∧
        d.set.poll = a.poll.getD 10 ∧ d.set.periodic = a.periodic.getD 0 ∧
        d.set.quiet = a.quiet.getD false ∧ d.set.profile = a.profile.bind orNone) ∧
      d.live = { state := if att.wired then .wired else .unjammed
                 current := d.live.current, jam := none, rate := 0, tMeas := none, offset := none
                 age := 0, predicted := 0
                 crc := if att.wired then none else s.profileCrc (a.profile.bind orNone)
                 missedRejams := 0, missedReplies := 0, rateLimited := false, held := false
                 hasMeas := false, pollLeft := none, periodicLeft := none, anchorAge := none
                 baseline := none, lastResidual := 0, lastClap := none } ∧
      (∀ n, att = .line n → t.line n = { s.line n with
        bound := some slot, enabled := false, state := .disabled, out := none, edgeDue := none }) ∧
      (∀ n, att ≠ .line n → t.line n = s.line n) ∧
      Answered s t q 0x05 .ok [] ∧
      ((a.autoRoll = some true → ∀ n, att = .line n → (s.line n).run = false ∨
          s.store.scanned = false ∨ a.unit.bind orNone = none ∨
          ∃ u, a.unit.bind orNone = some u ∧ (s.unit u).current ≠ .none) →
        d.live.current = .none ∧ (∀ i, i ≠ slot → t.dev i = s.dev i) ∧
        t.inner = { s with slots := t.slots, lines := t.lines }.inner ∧
        Raised s t 0x45 [fByte slot, fByte (Config.unlistedCode "EMPTY"),
          fByte (if att.wired then 0 else 1), fTick s.houseTime, fByte 0, fByte 0, fByte 0,
          fByte 0]) ∧
      (∀ n u, a.autoRoll = some true → att = .line n → (s.line n).run = true →
        s.store.scanned = true → a.unit.bind orNone = some u → (s.unit u).current = .none →
        t.unit u = { s.unit u with
          current := d.live.current, opener := some .rollSense, start := s.houseTime } ∧
        d.live.current ≠ .none ∧ (∀ v, v ≠ u → t.unit v = s.unit v) ∧
        t.inner = { s with
          slots := t.slots, lines := t.lines, units := t.units, takes := t.takes }.inner ∧
        (∀ ss ix, d.live.current = .logged ss ix →
          (∀ x, some x ∈ s.takes.entries.toList → x.copy.session = s.store.session →
            x.copy.index ≤ s.takes.lastIndex) →
          ss = s.store.session ∧ ix = s.takes.lastIndex + 1 ∧
          ∃ x p, t.findTake ss ix = some x ∧ x.copy.state = .opened ∧
            x.copy.opener = .rollSense ∧ x.copy.startTick = s.houseTime ∧
            p ∈ x.copy.participants ∧ p.slot = slot ∧ p.rollStart = some s.houseTime) ∧
        (s.notices.length < 15 → ∃ m1 m2, t.announced = s.announced ++ [m1, m2] ∧
          m1.kind = 0x45 ∧
          ((∀ ss ix, d.live.current ≠ .logged ss ix) → m2.kind = 0x4A) ∧
          (∀ ss ix, d.live.current = .logged ss ix → m2.kind = 0x47)))

/-- What an accepted SET_DEVICE does (section 3.3). A new rate code or label
origin unjams a radio device, drops its waiting requests and keeps its rate, its age and its profile's
CRC. A wired device takes its new settings, and its line's next edge is placed anew (that an edge due
at that very tick is dropped is log entry 14). A new attachment makes it a new device there. A new unit
takes it out of the old one, with its roll name. Auto-roll turned on or off under an active run sense
opens and closes a take as an edge of it would. -/
def Obligations.RateChangeUnjams : Prop :=
  ∀ (q : Req) (slot : Nat) (d : Device) (s : State),
    Taken s q → q.port = .control → s.store.applied = true → slot < 32 → s.dev slot = some d →
    suits d.set.kind d.set.att = true → (d.isRadio = true → d.set.phase = 0) →
    (∀ (r o : Option Nat) (rate org : Nat), d.isRadio = true → d.live.current = .none →
      rate = r.getD d.set.rate → org = o.getD d.set.origin → 1 ≤ rate → rate ≤ 17 →
      org < dayOf rate → (rate ≠ d.set.rate ∨ org ≠ d.set.origin) →
      ∃ t, exec (.setDevice q slot { rate := r, origin := o }) s = .next t ∧
        t.dev slot = some ⟨{ d.set with rate := rate, origin := org }, { d.live with
          state := .unjammed, jam := none, tMeas := none, offset := none, predicted := 0
          missedRejams := 0, missedReplies := 0, held := false, pollLeft := none }⟩ ∧
        Dropped s.radio t.radio slot ∧ (∀ i, i ≠ slot → t.dev i = s.dev i) ∧
        t.inner = { s with slots := t.slots, radio := t.radio }.inner ∧
        Answered s t q 0x06 .ok [] ∧ (d.live.state = .unjammed → Silent s t) ∧
        (d.live.state ≠ .unjammed → Raised s t 0x45 [fByte slot, fByte d.live.state.code, fByte 1,
          fTick s.houseTime, fByte 0, fByte 0, fByte 0, fByte 0])) ∧
    (∀ (n : Nat) (r o f au pu : Option Nat) (new : DeviceSettings), d.set.att = .line n → n < 16 →
      d.live.current = .none → new = { d.set with
        rate := r.getD d.set.rate
        origin := o.getD d.set.origin
        phase := f.getD d.set.phase
        audio := if d.set.kind = .recorder then au.getD d.set.audio else d.set.audio
        pull := if d.set.kind = .recorder then pu.getD d.set.pull else d.set.pull } →
      1 ≤ new.rate → new.rate ≤ 17 → new.origin < dayOf new.rate → new.phase < periodOf new.rate →
      (∀ x, au = some x → x ≤ 4) → (∀ x, pu = some x → x ≤ 2) →
      ∃ t, exec (.setDevice q slot
          { rate := r, origin := o, phase := f, audio := au, pull := pu }) s = .next t ∧
        t.inner = ({ s with lines := t.lines }.setDev slot (some ⟨new, d.live⟩)).inner ∧
        (∀ k, k ≠ n → t.line k = s.line k) ∧
        (new.rate = d.set.rate → new.origin = d.set.origin → new.phase = d.set.phase →
          t.line n = s.line n) ∧
        ((new.rate ≠ d.set.rate ∨ new.origin ≠ d.set.origin ∨ new.phase ≠ d.set.phase) →
          t.line n = { s.line n with edgeDue := none }) ∧
        Answered s t q 0x06 .ok [] ∧ Silent s t) ∧
    (∀ (tol pl pe pr : Option Nat) (qu : Option Bool), d.isRadio = true →
      d.set.placed = true → rateCodeOk d.set.rate = true →
      (∀ x, tol = some x → 1 ≤ x ∧ x ≤ 8) → (∀ x, pl = some x → 1 ≤ x ∧ x ≤ 60) →
      (∀ x, pe = some x → x ≤ 63) → (∀ x, pr = some x → x ≤ 7 ∨ x = 255) →
      ∃ t, exec (.setDevice q slot
          { tolerance := tol, poll := pl, periodic := pe, quiet := qu, profile := pr }) s = .next t ∧
        t.inner = (s.setDev slot (some ⟨{ d.set with
          tolerance := tol.getD d.set.tolerance
          poll := pl.getD d.set.poll
          periodic := pe.getD d.set.periodic
          quiet := qu.getD d.set.quiet
          profile := (pr.map orNone).getD d.set.profile }, d.live⟩)).inner ∧
        Answered s t q 0x06 .ok [] ∧ Silent s t) ∧
    (∀ att : Attachment, d.live.current = .none → d.set.placed = true →
      rateCodeOk d.set.rate = true → att ≠ d.set.att → suits d.set.kind att = true →
      attachmentOk att = true →
      s.attachmentHeld slot att = false → d.set.autoRoll = false →
      ∃ t, exec (.setDevice q slot { att := some att.codes }) s = .next t ∧
        t.dev slot = some ⟨{ d.set with
          att := att, phase := if att.wired && d.set.att.wired then d.set.phase else 0 },
          .fresh att (s.profileCrc d.set.profile)⟩ ∧
        (∀ i, i ≠ slot → t.dev i = s.dev i) ∧
        (d.isRadio = true → Dropped s.radio t.radio slot) ∧
        (d.isRadio = false → t.radio = s.radio) ∧
        (∀ n, n < 16 → d.set.att = .line n → t.line n = { s.line n with
          bound := none, enabled := false, state := .disabled, out := none, edgeDue := none }) ∧
        (∀ n, n < 16 → att = .line n → t.line n = { s.line n with
          bound := some slot, enabled := false, state := .disabled, out := none, edgeDue := none }) ∧
        (∀ n, att ≠ .line n → d.set.att ≠ .line n → t.line n = s.line n) ∧
        t.inner = { s with slots := t.slots, lines := t.lines, radio := t.radio }.inner ∧
        Answered s t q 0x06 .ok [] ∧
        (∀ new, new = (if att.wired then DevState.wired else .unjammed) →
          (∀ n, d.set.att = .line n → (s.line n).state = .disabled) →
          (d.live.state = new → Silent s t) ∧
          (d.live.state ≠ new → Raised s t 0x45 [fByte slot, fByte d.live.state.code,
            fByte new.code, fTick s.houseTime, fByte 0, fByte 0, fByte 0, fByte 0]))) ∧
    (∀ u : Nat, d.live.current = .none → d.set.placed = true → rateCodeOk d.set.rate = true →
      (u < 4 ∨ u = 255) → d.set.unit ≠ orNone u → s.unitFull (orNone u) = false →
      (∀ v, d.set.unit = some v → v < 4 ∧ (s.unit v).current = .none) →
      ∃ t, exec (.setDevice q slot { unit := some u }) s = .next t ∧
        t.inner = ({ s with units := t.units }.setDev slot
          (some ⟨{ d.set with unit := orNone u }, d.live⟩)).inner ∧
        (∀ v, d.set.unit ≠ some v → t.unit v = s.unit v) ∧
        (∀ v, d.set.unit = some v → t.unit v = { s.unit v with info := { (s.unit v).info with
          rolls := (s.unit v).info.rolls.filter fun x => x.1 ≠ slot } }) ∧
        Answered s t q 0x06 .ok [] ∧ Silent s t) ∧
    (∀ (n u : Nat) (on : Bool), d.set.kind = .camera → d.set.att = .line n → n < 16 →
      d.set.placed = true → rateCodeOk d.set.rate = true →
      d.set.unit = some u → u < 4 → s.store.scanned = true → d.set.autoRoll ≠ on →
      ((s.line n).run = false → ∃ t, exec (.setDevice q slot { autoRoll := some on }) s = .next t ∧
        t.inner = (s.setDev slot (some ⟨{ d.set with autoRoll := on }, d.live⟩)).inner ∧
        Answered s t q 0x06 .ok [] ∧ Silent s t) ∧
      ((s.line n).run = true → on = true → (s.unit u).current = .none →
        ∃ t, exec (.setDevice q slot { autoRoll := some on }) s = .next t ∧
          (t.unit u).rolling = true ∧ (t.unit u).opener = some .rollSense ∧
          (t.unit u).start = s.houseTime ∧ t.currentOf slot = (t.unit u).current ∧
          Answered s t q 0x06 .ok []) ∧
      ((s.line n).run = true → on = false → (s.unit u).current ≠ .none →
        (s.unit u).opener = some .rollSense → s.settled →
        (∀ x ∈ s.assigned u, x.1 ≠ slot → s.tallies x.2 = false) →
        ∃ t, exec (.setDevice q slot { autoRoll := some on }) s = .next t ∧
          (t.unit u).rolling = false ∧ (t.unit u).opener = none ∧ Answered s t q 0x06 .ok []))

/-- An accepted REMOVE_DEVICE of a device in no unit empties the slot, unbinds its line, drops its
radio requests, and is announced (sections 3.4, 3.6). While its device is a participant of an open
take, logged or UNLOGGED, a slot is neither removed nor moved to another unit (sections 3.3, 3.4). -/
def Obligations.DeviceRemovedUnlessInTake : Prop :=
  ∀ (q : Req) (slot : Nat) (d : Device) (s : State),
    Taken s q → q.port = .control → s.store.applied = true → slot < 32 → s.dev slot = some d →
    (d.live.current = .none → d.set.unit = none →
      ∃ t, exec (.removeDevice q slot) s = .next t ∧ t.dev slot = none ∧
        (∀ i, i ≠ slot → t.dev i = s.dev i) ∧
        (∀ n, n < 16 → d.set.att = .line n → t.line n = { s.line n with
          bound := none, enabled := false, state := .disabled, out := none, edgeDue := none }) ∧
        (∀ n, d.set.att ≠ .line n → t.line n = s.line n) ∧
        (d.isRadio = true → Dropped s.radio t.radio slot) ∧
        (d.isRadio = false → t.radio = s.radio) ∧
        t.inner = { s with slots := t.slots, lines := t.lines, radio := t.radio }.inner ∧
        Answered s t q 0x07 .ok [] ∧
        (d.isRadio = true → Raised s t 0x45 [fByte slot, fByte d.live.state.code,
          fByte (Config.unlistedCode "EMPTY"), fTick s.houseTime, fByte 0, fByte 0, fByte 0,
          fByte 0])) ∧
    (d.live.current ≠ .none →
      (∃ t, exec (.removeDevice q slot) s = .next t ∧ t.inner = s.inner ∧ Silent s t ∧
        Answered s t q 0x07 .takeOpen []) ∧
      (∀ u, u < 4 → d.set.unit ≠ some u → (s.assigned u).length < 12 →
        suits d.set.kind d.set.att = true → rateCodeOk d.set.rate = true →
        d.set.placed = true → (d.isRadio = true → d.set.phase = 0) →
        ∃ t, exec (.setDevice q slot { unit := some u }) s = .next t ∧ t.inner = s.inner ∧
          Silent s t ∧ Answered s t q 0x06 .takeOpen []))

/-- An accepted JAM_DEVICE posts a HOST_JAM with the label's frame, and an UNJAMMED device becomes
JAM_PENDING, is announced, and is polled from then on (sections 3.5, 5.3, 5.5, 6.3). -/
def Obligations.HostJamPosted : Prop :=
  ∀ (q : Req) (slot : Nat) (label : Option Label) (d : Device) (s : State),
    Taken s q → q.port = .control → s.store.applied = true → slot < 32 → s.dev slot = some d →
    d.isRadio = true → d.heldBack = false →
    (∀ l, label = some l → labelHolds l = true ∧ labelOk d.set.rate l = true) →
    ∃ t p, exec (.jamDevice q slot label) s = .next t ∧
      Posted s.radio t.radio .hostJam slot (label.map (frameOf d.set.rate)) ∧
      ((d.set.kind = .slate ∧ ∃ u, d.set.unit = some u ∧ (s.unit u).rolling = true) → p = 1) ∧
      (¬ (d.set.kind = .slate ∧ ∃ u, d.set.unit = some u ∧ (s.unit u).rolling = true) →
        p = d.set.poll) ∧
      (d.live.state = .unjammed →
        t.inner = ({ s with radio := t.radio }.setDev slot (some { d with live := { d.live with
          state := .jamPending, pollLeft := some p } })).inner ∧
        Raised s t 0x45 [fByte slot, fByte 1, fByte 2, fTick s.houseTime, fByte 0, fByte 0, fByte 0,
          fByte 0]) ∧
      (d.live.state ≠ .unjammed → t.inner = { s with radio := t.radio }.inner ∧ Silent s t) ∧
      Answered s t q 0x09 .ok []

/-- LINE_ENABLE on gives a DISABLED line the state of its sense; off puts a line whose device is in no
take at the idle level; both are announced with cause HOST (section 3.6). That LINE_ENABLE on hands no
line fault, also for a line turned on into a fault state during a take, is the model's reading (log
entry 34). -/
def Obligations.LineEnabled : Prop :=
  ∀ (q : Req) (n slot : Nat) (s : State), Taken s q → q.port = .control →
    s.store.applied = true → n < 16 → (s.line n).bound = some slot →
    ((s.line n).enabled = false → (s.line n).state = .disabled →
      ∃ t, exec (.lineEnable q n true) s = .next t ∧
        t.inner = (s.modLine n fun l => { l with
          enabled := true, state := Sense.lineState l.sense, out := none, edgeDue := none }).inner ∧
        Answered s t q 0x0A .ok [fByte (Sense.lineState (s.line n).sense).code] ∧
        Raised s t 0x46 [fByte n, fByte 1, fByte slot, fByte 0,
          fByte (Sense.lineState (s.line n).sense).code, fByte (Sense.code (s.line n).sense),
          fTick s.houseTime, fByte 1]) ∧
    ((s.line n).enabled = true → (s.line n).state = .active → s.currentOf slot = .none →
      ∃ t, exec (.lineEnable q n false) s = .next t ∧
        t.inner = (s.modLine n fun l => { l with
          enabled := false, state := .disabled, out := none, edgeDue := none }).inner ∧
        Answered s t q 0x0A .ok [fByte 0] ∧
        Raised s t 0x46 [fByte n, fByte 1, fByte slot, fByte 1, fByte 0,
          fByte (Sense.code (s.line n).sense), fTick s.houseTime, fByte 1])

/-- At a frame edge an ACTIVE line emits the label of the frame that begins there, with the drop flag
for codes 5 and 11, and nothing else changes (section 3.6). -/
def Obligations.LineEmitsFrameWord : Prop :=
  ∀ (n slot edge : Nat) (d : Device) (s : State), n < 16 → (s.line n).state = .active →
    (s.line n).bound = some slot → s.dev slot = some d → (s.line n).edgeDue = some edge →
    (edge + d.set.phase) % periodOf d.set.rate = 0 → 1 ≤ d.set.rate → d.set.rate ≤ 17 →
    ∃ t, exec (.lineFrameEdge n) s = .next t ∧
      t.inner = (s.modLine n fun l => { l with
        out := some ⟨labelOf d.set.rate (((edge + d.set.phase) / periodOf d.set.rate +
          d.set.origin) % dayOf d.set.rate), d.set.rate == 5 || d.set.rate == 11⟩,
        edgeDue := none }).inner ∧
      NoReply s t ∧ Silent s t

/-- A change of line sense is recorded; an enabled line takes the state it gives and is announced;
when it fails in an open logged take, the device's entry there has a line fault, the first tick being
kept, and no other entry or record changes (section 3.6); a sense that is PRESENT again makes it
ACTIVE. -/
def Obligations.LineSenseTaken : Prop :=
  ∀ (n slot : Nat) (sense : Sense) (s : State), n < 16 → (s.line n).sense ≠ sense →
    (s.line n).bound = some slot →
    ((s.line n).enabled = false → (s.line n).state = .disabled →
      ∃ t, exec (.lineSenseChange n sense) s = .next t ∧
      t.inner = (s.modLine n fun l => { l with sense := sense }).inner ∧ NoReply s t ∧
      Silent s t) ∧
    ((s.line n).enabled = true → (s.line n).state = .active → sense ≠ .present →
      ∃ t, exec (.lineSenseChange n sense) s = .next t ∧
      t.inner = { s.modLine n (fun l => { l with
        sense := sense
        state := if sense = Sense.opened then .faultOpen else .faultShort
        out := none
        edgeDue := none }) with takes := t.takes }.inner ∧ NoReply s t ∧
      (s.currentOf slot = .none → t.takes = s.takes) ∧
      (∀ u, s.currentOf slot = .unlogged u → t.takes = s.takes) ∧
      (∀ ss ix, s.currentOf slot = .logged ss ix →
        t.takes.queue = s.takes.queue ∧ EntriesKept s t ss ix ∧
        (∀ e, s.findTake ss ix = some e → e.copy.state = .opened → ∃ x,
          t.findTake ss ix = some { e with copy := { e.copy with
            participants := e.copy.participants.map (fun p =>
              if p.slot = slot then { p with lineFault := some (p.lineFault.getD s.houseTime) }
              else p)
            timeUncertain := x } } ∧
          (x = true ↔ e.copy.timeUncertain = true ∨
            ∃ p ∈ e.copy.participants, p.uncertain = true))) ∧
      Raised s t 0x46 [fByte n, fByte 1, fByte slot, fByte 1,
        fByte (if sense = .opened then 2 else 3), fByte (Sense.code sense), fTick s.houseTime,
        fByte 0]) ∧
    ((s.line n).enabled = true → ((s.line n).state = .faultOpen ∨ (s.line n).state = .faultShort) →
      sense = .present → ∃ t, exec (.lineSenseChange n sense) s = .next t ∧
      t.inner = (s.modLine n fun l => { l with
        sense := sense, state := .active, out := none, edgeDue := none }).inner ∧ NoReply s t ∧
      Raised s t 0x46 [fByte n, fByte 1, fByte slot, fByte (s.line n).state.code, fByte 1, fByte 0,
        fTick s.houseTime, fByte 0])

/-- A change of run sense is recorded, and hands nothing for a line that is unbound, or bound to a
device that is no camera with auto-roll on (section 3.6); the run tally opens and closes a unit's
take: a rise on an IDLE unit opens it with ROLL_SENSE, the fall of the last tally closes it
(sections 7.2, 7.4). -/
def Obligations.RunTallyOpensAndCloses : Prop :=
  (∀ (n : Nat) (active : Bool) (s : State), n < 16 →
    (∀ slot d, (s.line n).bound = some slot → s.dev slot = some d →
      d.set.kind ≠ .camera ∨ d.set.autoRoll = false) →
    ∃ t, exec (.runSenseChange n active) s = .next t ∧
      t.inner = (s.modLine n fun l => { l with run := active }).inner ∧ NoReply s t ∧
      Silent s t) ∧
  ∀ (n slot u : Nat) (d : Device) (s : State), n < 16 → slot < 32 → u < 4 →
    (s.line n).bound = some slot → s.dev slot = some d → d.set.kind = .camera →
    d.set.att = .line n → d.set.autoRoll = true → d.set.unit = some u → s.store.scanned = true →
    ((s.line n).run = false → (s.unit u).current = .none →
      ∃ t, exec (.runSenseChange n true) s = .next t ∧ (t.unit u).rolling = true ∧
        (t.unit u).opener = some .rollSense ∧ (t.unit u).start = s.houseTime ∧
        t.currentOf slot = (t.unit u).current ∧ (t.line n).run = true) ∧
    (∀ ss ix, (s.line n).run = true → (s.unit u).current = .logged ss ix →
      (s.unit u).opener = some .rollSense →
      (∀ x ∈ s.assigned u, x.1 ≠ slot → x.2.set.att ≠ .line n ∧ s.tallies x.2 = false) →
      ∃ t, exec (.runSenseChange n false) s = .next t ∧ (t.unit u).rolling = false ∧
        (t.unit u).opener = none ∧ (t.line n).run = false)

/-! ### Profiles -/

/-- An accepted PROFILE_BEGIN makes the profile LOADING with no points, whatever it held; an accepted
PROFILE_POINTS stores its points at the load pointer, and the one that fills the profile completes it
and is announced; the CRC is that of the new content each time (sections 4.2, 4.4). That a point count,
of a request, a reply or PROFILE_COMPLETE, travels in one byte is the model's choice (log entry 8). -/
def Obligations.ProfileLoaded : Prop :=
  ∀ (q : Req) (n : Nat) (s : State), Taken s q → q.port = .control → s.store.applied = true →
    n < 8 →
    (∀ (count : Nat) (bias : Int), 1 ≤ count → count ≤ 12 → -8 ≤ bias → bias ≤ 7 →
      ∃ t, exec (.profileBegin q n count bias) s = .next t ∧
        (t.profile n).state = .loading ∧ (t.profile n).count = count ∧ (t.profile n).bias = bias ∧
        (t.profile n).points = [] ∧
        (t.profile n).crc = crc16 (encodeFields [fByte count, fByte (biasCode bias), fByte 0]) ∧
        t.inner = (s.setProfile n (t.profile n)).inner ∧ Silent s t ∧
        Answered s t q 0x0B .ok [fByte n, fByte 1, fByte 0, fCount (t.profile n).crc]) ∧
    (∀ (points : List (Nat × Int)), 1 ≤ points.length → points.length ≤ 4 →
      (s.profile n).state = .loading →
      (s.profile n).points.length + points.length ≤ (s.profile n).count →
      (∀ x ∈ points, x.1 ≤ 15 ∧ -127 ≤ x.2 ∧ x.2 ≤ 127) →
      ∃ t, exec (.profilePoints q n points) s = .next t ∧
        (t.profile n).points = (s.profile n).points ++ points ∧
        (t.profile n).count = (s.profile n).count ∧ (t.profile n).bias = (s.profile n).bias ∧
        (t.profile n).crc = crc16 (encodeFields ([fByte (s.profile n).count,
          fByte (biasCode (s.profile n).bias), fByte (t.profile n).points.length] ++
          (t.profile n).points.flatMap fun x => [fByte x.1, fLevel x.2])) ∧
        ((t.profile n).state = .complete ↔ (t.profile n).points.length = (t.profile n).count) ∧
        ((t.profile n).state = .complete ∨ (t.profile n).state = .loading) ∧
        t.inner = (s.setProfile n (t.profile n)).inner ∧
        Answered s t q 0x0C .ok [fByte n, fByte (t.profile n).state.code,
          fByte (t.profile n).points.length, fCount (t.profile n).crc] ∧
        ((t.profile n).state = .loading → Silent s t) ∧
        ((t.profile n).state = .complete → Raised s t 0x4C [fByte n, fByte (t.profile n).count,
          fByte (biasCode (t.profile n).bias), fCount (t.profile n).crc, fTick s.houseTime]))

/-- TIME_NOW, PROFILE_READ, DEVICE_STATUS, UNIT_STATUS, RADIO_STATUS, TAKE_TABLE_STATUS and
STORE_STATUS are answered at once on either port and change nothing (sections 2.9, 3.5, 4.4, 5.6, 7.1,
7.7, 8.9). That TIME_NOW reports the settings in force also before the start-up read is log entry 49,
and the layout of the STORE_STATUS reply is log entry 15: the model's readings. -/
def Obligations.StatusRequestsOnlyReport : Prop :=
  ∀ (q : Req) (n : Nat) (s : State), Taken s q →
    (∃ t, exec (.timeNow q) s = .next t ∧
      t.inner = s.inner ∧ Silent s t ∧
      Answered s t q 0x01 .ok
        ([fTick s.clock.counter, fTick (s.clock.counter + s.origin : Nat), fTick s.origin,
          fByte s.house] ++ fLabel (labelOf s.house
            (((s.clock.counter + s.origin : Nat) / periodOf s.house) % dayOf s.house)) ++
          [fByte (100 * ((s.clock.counter + s.origin) % periodOf s.house) / periodOf s.house),
           fByte s.ref.set.source.code, fByte s.ref.set.rate, fByte s.ref.state.code,
           fSigned s.ref.set.trim] ++
          fOpt1 fSigned (if s.ref.state = .locked then s.ref.lastUsed.map UsedEdge.err else none) ++
          fOpt1 fCount (if s.ref.state = .acquiring then some ((s.ref.run.map Run.edges).getD 0)
            else none) ++
          [fFlag s.ref.pendingStep, fFlag s.ref.pendingOrigin, fFlag s.ref.waiting.isSome])) ∧
    (n < 8 → ∃ t fs, exec (.profileRead q n) s = .next t ∧ t.inner = s.inner ∧ Silent s t ∧
      Answered s t q 0x0D .ok ([fByte (s.profile n).state.code, fByte (s.profile n).count,
        fByte (biasCode (s.profile n).bias), fByte (s.profile n).points.length] ++ fs)) ∧
    (n < 32 → ∃ t fs, exec (.deviceStatus q n) s = .next t ∧ t.inner = s.inner ∧ Silent s t ∧
      Answered s t q 0x08 .ok ([fByte n, fByte (devStateCode ((s.dev n).map fun d =>
        d.live.state))] ++ fs) ∧ (s.dev n = none → fs = [])) ∧
    (n < 4 → ∃ t fs, exec (.unitStatus q n) s = .next t ∧ t.inner = s.inner ∧ Silent s t ∧
      Answered s t q 0x11 .ok ([fByte (if (s.unit n).rolling then 1 else 0)] ++
        fText (s.unit n).info.scene ++ [fCount (s.unit n).info.takeNo] ++ fs)) ∧
    (∃ t fs, exec (.radioStatus q) s = .next t ∧ t.inner = s.inner ∧ Silent s t ∧
      Answered s t q 0x0F .ok ([fFlag s.radio.enabled, fByte s.radio.next] ++ fs)) ∧
    (∃ t fs, exec (.takeTableStatus q) s = .next t ∧ t.inner = s.inner ∧ Silent s t ∧
      Answered s t q 0x15 .ok ([fSession s.store.session, fIndex s.takes.lastIndex] ++ fs)) ∧
    (∃ t, exec (.storeStatus q) s = .next t ∧ t.inner = s.inner ∧ Silent s t ∧
      Answered s t q 0x1A .ok ([fByte s.store.state.code, fSession s.store.session,
        fCount s.store.pointer, fCount s.store.skipped, fCount s.store.failures,
        fLong s.store.delay, fByte s.store.op.code] ++ fOpt1 fIndex s.store.op.commitIndex ++
        [fCount s.store.reads.length, fCount s.store.flushes.length, fFlag s.store.save.isSome,
         fFlag s.store.clear.isSome] ++
        fList (fun a => [fSession a.session, fIndex a.index, fFlag (s.behindCommit a)])
          s.store.amendments))

/-! ### The slate link -/

/-- RADIO_ENABLE on sets the setting alone; off also closes the second and abandons the transaction,
whose JAM or POLL returns in the place its age gives it, with the label frame of a request posted
meanwhile; a value it already has changes nothing (sections 5.4, 5.6). -/
def Obligations.RadioEnabled : Prop :=
  ∀ (q : Req) (s : State), Taken s q → q.port = .control → s.store.applied = true →
    (∃ t, exec (.radioEnable q s.radio.enabled) s = .next t ∧ t.inner = s.inner ∧ Silent s t ∧
      Answered s t q 0x0E .ok [fFlag s.radio.enabled]) ∧
    (s.radio.enabled = false → ∃ t, exec (.radioEnable q true) s = .next t ∧
      t.inner = { s with radio := { s.radio with enabled := true } }.inner ∧ Silent s t ∧
      Answered s t q 0x0E .ok [fByte 1]) ∧
    (s.radio.enabled = true → ∃ t, exec (.radioEnable q false) s = .next t ∧
      t.inner = { s with radio := { s.radio with
        enabled := false, opened := false, slotDue := none, flight := none
        requests := t.radio.requests } }.inner ∧
      ((s.radio.flight = none ∨ ∃ f, s.radio.flight = some f ∧
        (f.request.cls = .display ∨ f.dropped = true)) →
        t.radio.requests = s.radio.requests) ∧
      (∀ f, s.radio.flight = some f → f.request.cls ≠ .display → f.dropped = false →
        ∃ y ∈ t.radio.requests, y.cls = f.request.cls ∧ y.slot = f.request.slot ∧
          y.age = f.request.age ∧
          ((∀ x ∈ s.radio.requests, ¬ (x.cls = f.request.cls ∧ x.slot = f.request.slot)) →
            y = f.request) ∧
          (∀ x ∈ s.radio.requests, x.cls = f.request.cls → x.slot = f.request.slot →
            (∀ z ∈ s.radio.requests, z.cls = x.cls → z.slot = x.slot → z = x) →
            y.frame = x.frame) ∧
          (∀ x ∈ t.radio.requests, x = y ∨ x ∈ s.radio.requests) ∧
          (∀ x ∈ s.radio.requests, ¬ (x.cls = f.request.cls ∧ x.slot = f.request.slot) →
            x ∈ t.radio.requests)) ∧
      Silent s t ∧ Answered s t q 0x0E .ok [fByte 0])

/-- A beacon mark gives out the number held, advances it, extends the history, is sent exactly while
the radio is enabled, and ages every radio device (sections 5.1, 6.1). At a number that is a multiple
of 4 every TRACKED or DRIFTING device is stepped: it re-anchors when its profile's CRC has changed, its
predicted offset grows by the rate used over 96,000,000 ticks, and one that reaches its tolerance has a
DRIFT request posted, or held for a take, which at twice the tolerance makes it DRIFTING; at another
number nothing is predicted (sections 4.5, 6.5, 6.6). That the step comes before the countdowns of the
same mark is log entry 28, and what t_meas does with no measurement yet log entry 46. -/
def Obligations.BeaconMarkTaken : Prop :=
  ∀ (tick : Nat) (s : State), s.radio.markDue = some tick → s.radio.flight = none →
    ∃ t, exec .beaconMark s = .next t ∧
      t.radio.next = (if s.radio.next = 255 then 0 else (s.radio.next + 1) % 256) ∧
      t.radio.history.getLast? = some ⟨s.radio.next, tick, s.radio.enabled⟩ ∧
      t.radio.history.length ≤ 256 ∧ t.radio.opened = s.radio.enabled ∧
      (s.radio.enabled = true → t.radio.out = some (.beacon s.radio.next)) ∧
      (s.radio.enabled = false → t.radio.out = s.radio.out) ∧ t.radio.flight = none ∧
      t.radio.markDue = none ∧ t.radio.slotDue = none ∧ t.radio.enabled = s.radio.enabled ∧
      t.marks = min (s.marks + 1) 256 ∧
      (∀ i d, s.dev i = some d → d.isRadio = true → ∃ e, t.dev i = some e ∧ e.set = d.set ∧
        e.live = { d.live with
          age := d.live.age + 1
          predicted := e.live.predicted
          crc := e.live.crc
          tMeas := e.live.tMeas
          anchorAge := e.live.anchorAge
          state := e.live.state
          missedRejams := e.live.missedRejams
          held := e.live.held
          pollLeft := e.live.pollLeft
          periodicLeft := e.live.periodicLeft } ∧
        (d.set.quiet = false → e.live.held = false ∧ (d.live.held = true →
          ∃ x ∈ t.radio.requests, x.cls = .overdue ∧ x.slot = i)) ∧
        ((s.radio.next % 4 ≠ 0 ∨ ¬ (d.live.state = .tracked ∨ d.live.state = .drifting)) →
          e.live.predicted = d.live.predicted ∧ e.live.state = d.live.state ∧
          e.live.crc = d.live.crc ∧ e.live.tMeas = d.live.tMeas ∧
          e.live.anchorAge = d.live.anchorAge ∧ e.live.missedRejams = d.live.missedRejams ∧
          (d.set.quiet = true → e.live.held = d.live.held) ∧
          (∀ p c, s.pollPeriod d = some p → d.live.pollLeft = some c →
            e.live.pollLeft = some (min c p - 1)) ∧
          ((d.live.state = .tracked ∨ d.live.state = .drifting) →
            (d.set.periodic = 0 → e.live.periodicLeft = none) ∧
            (∀ c, 1 ≤ d.set.periodic → d.live.periodicLeft = some c →
              e.live.periodicLeft = some (min c (30 * d.set.periodic) - 1)))) ∧
        (s.radio.next % 4 = 0 → (d.live.state = .tracked ∨ d.live.state = .drifting) →
          e.live.crc = s.profileCrc d.set.profile ∧
          (d.live.crc ≠ e.live.crc → d.live.hasMeas = true →
            e.live.tMeas = some (tick : Int) ∧ e.live.anchorAge = some (d.live.age + 1)) ∧
          (d.live.crc = e.live.crc ∨ d.live.hasMeas = false →
            e.live.tMeas = d.live.tMeas ∧ e.live.anchorAge = d.live.anchorAge) ∧
          (∀ a, d.live.hasMeas = true → e.live.anchorAge = some a →
            e.live.predicted = d.live.predicted + 96 * (d.live.rate +
              10 * ((s.profileAnswer d.set.profile (d.live.age + 1)).1 -
                (s.profileAnswer d.set.profile a).1))) ∧
          (d.live.hasMeas = false → e.live.predicted = d.live.predicted + 960 *
            ((s.profileAnswer d.set.profile (d.live.age + 1)).1 +
              (s.profileAnswer d.set.profile (d.live.age + 1)).2)) ∧
          (d.live.state = .drifting → e.live.state = .drifting ∧
            e.live.missedRejams = d.live.missedRejams) ∧
          (d.live.state = .tracked →
            e.live.predicted.natAbs < 1000 * (d.set.tolerance * periodOf d.set.rate / 8) →
            e.live.state = .tracked ∧ e.live.missedRejams = d.live.missedRejams ∧
              (d.set.quiet = true → e.live.held = d.live.held)) ∧
          (d.live.state = .tracked →
            1000 * (d.set.tolerance * periodOf d.set.rate / 8) ≤ e.live.predicted.natAbs →
            (d.heldBack = false → e.live.state = .tracked ∧
              e.live.missedRejams = d.live.missedRejams ∧
              ∃ x ∈ t.radio.requests, x.cls = .drift ∧ x.slot = i) ∧
            (d.heldBack = true → e.live.held = true ∧
              (d.live.missedRejams = 0 → e.live.missedRejams = 1 ∧ e.live.state = .tracked) ∧
              (d.live.missedRejams = 1 →
                (2000 * (d.set.tolerance * periodOf d.set.rate / 8) ≤ e.live.predicted.natAbs →
                  e.live.missedRejams = 2 ∧ e.live.state = .drifting) ∧
                (e.live.predicted.natAbs < 2000 * (d.set.tolerance * periodOf d.set.rate / 8) →
                  e.live.missedRejams = 1 ∧ e.live.state = .tracked)))))) ∧
      (∀ i d, s.dev i = some d → d.isRadio = false → d.live.held = false →
        d.live.predictedState = false → t.dev i = some d) ∧
      (∀ i, s.dev i = none → t.dev i = none) ∧
      (s.radio.next % 4 ≠ 0 → t.takes = s.takes ∧ Silent s t) ∧
      t.takes.lastIndex = s.takes.lastIndex ∧ t.takes.queue = s.takes.queue ∧
      t.clock = s.clock ∧ t.origin = s.origin ∧ t.ref = s.ref ∧ t.lines = s.lines ∧
      t.units = s.units ∧ t.store = s.store ∧ t.flash = s.flash ∧ t.profiles = s.profiles ∧
      t.exporter = s.exporter ∧ NoReply s t

/-- A poll countdown that has run out posts a POLL and is reloaded with the period in force; a
periodic countdown that has run out is reloaded and posts a PERIODIC request, or for a device held back
counts a missed re-jam, the second of which makes it DRIFTING and its entry UNCERTAIN (sections 5.5,
6.5, 6.6). -/
def Obligations.CountdownsExpire : Prop :=
  ∀ (i : Nat) (d : Device) (s : State), i < 32 → s.dev i = some d →
    (∀ p rolling, d.live.pollLeft = some 0 →
      (rolling ↔ d.set.kind = .slate ∧ ∃ u, d.set.unit = some u ∧ (s.unit u).rolling = true) →
      ((d.live.state = .outOfRange ∧ p = 4 * d.set.poll) ∨
        ((d.live.state = .jamPending ∨ d.live.state = .tracked ∨ d.live.state = .drifting) ∧
          ((rolling ∧ p = 1) ∨ (¬ rolling ∧ p = d.set.poll)))) →
      ∃ t, exec (.pollDue i) s = .next t ∧ Posted s.radio t.radio .poll i none ∧
        t.inner = ({ s with radio := t.radio }.setDev i (some { d with live :=
          { d.live with pollLeft := some p } })).inner ∧ NoReply s t ∧ Silent s t) ∧
    (d.live.periodicLeft = some 0 → (d.live.state = .tracked ∨ d.live.state = .drifting) →
      1 ≤ d.set.periodic →
      (d.heldBack = false → ∃ t, exec (.periodicExpiry i) s = .next t ∧
        Posted s.radio t.radio .periodic i none ∧
        t.inner = ({ s with radio := t.radio }.setDev i (some { d with live :=
          { d.live with periodicLeft := some (30 * d.set.periodic) } })).inner ∧ NoReply s t ∧
        Silent s t) ∧
      (d.heldBack = true → d.live.state = .drifting → ∃ t, exec (.periodicExpiry i) s = .next t ∧
        t.inner = (s.setDev i (some { d with live := { d.live with
          periodicLeft := some (30 * d.set.periodic), held := true } })).inner ∧ NoReply s t ∧
        Silent s t) ∧
      (d.heldBack = true → d.live.state = .tracked → d.live.missedRejams = 0 →
        ∃ t, exec (.periodicExpiry i) s = .next t ∧
        t.inner = (s.setDev i (some { d with live := { d.live with
          periodicLeft := some (30 * d.set.periodic), held := true, missedRejams := 1 } })).inner ∧
        NoReply s t ∧ Silent s t) ∧
      (d.heldBack = true → d.live.state = .tracked → d.live.missedRejams = 1 →
        ∃ t p, exec (.periodicExpiry i) s = .next t ∧
          t.inner = ({ s with takes := t.takes }.setDev i (some { d with live := { d.live with
            periodicLeft := some (30 * d.set.periodic)
            held := true
            missedRejams := 2
            state := .drifting
            pollLeft := some p } })).inner ∧
          (p = 1 ∨ p = d.set.poll) ∧ NoReply s t ∧
          Raised s t 0x45 [fByte i, fByte 3, fByte 4, fTick s.houseTime, fByte 2, fByte 0, fByte 0,
            fByte 0] ∧
          ((∀ ss ix, d.live.current ≠ .logged ss ix) → t.takes = s.takes) ∧
          (∀ ss ix, d.live.current = .logged ss ix →
            t.takes.queue = s.takes.queue ∧ EntriesKept s t ss ix ∧
            ∀ e, s.findTake ss ix = some e → e.copy.state = .opened → ∃ x,
              t.findTake ss ix = some { e with copy := { e.copy with
                participants := e.copy.participants.map (fun p =>
                  if p.slot = i then { p with uncertain := true } else p)
                timeUncertain := x } } ∧
              (x = true ↔ e.copy.timeUncertain = true ∨
                ∃ p ∈ e.copy.participants, p.slot = i ∨ p.uncertain = true))))

/-- At a slot start of an open second the oldest HOST_JAM of a device that is not held back is taken
first: it alone leaves its set, and the JAM names the second's mark, the device's rate code and either
the host's label frame or the frame nearest the mark (sections 5.2, 5.4, 6.3). -/
def Obligations.SlotStartTakesHostJam : Prop :=
  ∀ (b address : Nat) (m : Mark) (x : Request) (rest : List Request) (d : Device) (s : State),
    s.radio.opened = true → s.radio.flight = none → s.radio.slotDue = some b →
    b % 2400000 ≠ 0 → s.radio.history.getLast? = some m → s.radio.classSet .hostJam = x :: rest →
    s.dev x.slot = some d → d.set.att = .radio address → d.heldBack = false →
    ∃ t n0, exec .slotStart s = .next t ∧
      (∀ f, x.frame = some f → n0 = f) ∧
      (x.frame = none → ∃ k : Int, (n0 : Int) = (k + d.set.origin) % dayOf d.set.rate ∧
        Nearest k m.tick (periodOf d.set.rate)) ∧
      t.inner = { s with radio := { s.radio with
        requests := s.radio.requests.filter fun y => ¬ (y.cls = ReqClass.hostJam ∧ y.slot = x.slot)
        flight := some ⟨x, .jam address m.number d.set.rate n0, b, m, n0, none, false⟩
        out := some (.jam address m.number d.set.rate n0)
        slotDue := none } }.inner ∧
      NoReply s t ∧ Silent s t

/-- No JAM begins to a device that is quiet and in an open take: a transaction that a slot start
begins for such a device is a POLL or a DISPLAY (section 5.4). -/
def Obligations.QuietDeviceNotJammed : Prop :=
  ∀ (s t : State) (f : Transaction) (d : Device), exec .slotStart s = .next t →
    s.radio.flight = none → t.radio.flight = some f → s.dev f.request.slot = some d →
    d.set.quiet = true → d.live.current ≠ .none →
    f.request.cls = .poll ∨ f.request.cls = .display

/-- The first intact echo of a window that names a sent mark and comes from the address spoken to is
held with the transaction; a corrupt packet has no effect (section 5.2). Section 5.2 opens the reply
window at the end of the outgoing packet, whose air time is not modelled: that an echo is taken at any
moment of its slot is the model's choice (log entry 7). -/
def Obligations.EchoAccepted : Prop :=
  ∀ (e : Echo) (f : Transaction) (m : Mark) (s : State), s.radio.flight = some f →
    f.echo = none → s.houseTime < f.start + 120000 →
    (f.packet = .poll e.address ∨ ∃ n c k, f.packet = .jam e.address n c k) →
    m ∈ s.radio.history → m.sent = true → m.number = e.beacon →
    (∀ x ∈ s.radio.history, x.number = e.beacon → x = m) →
    (∃ t, exec (.echoReceived e true) s = .next t ∧
      t.inner = { s with radio := { s.radio with
        flight := some { f with echo := some (e, m) } } }.inner ∧ NoReply s t ∧ Silent s t) ∧
    exec (.echoReceived e false) s = .next s.pump

/-! ### Jam and tracking -/

/-- A POLL, or a JAM, that ends unanswered counts one missed reply; the third makes the device
OUT_OF_RANGE with no missed re-jams, which is announced (section 6.7). A JAM that ends unconfirmed,
unanswered or with an echo that names another mark, goes back to the tail of its class, or merges into
the request posted meanwhile (section 5.4); that echo is a reply like any other (section 6.4). -/
def Obligations.MissedReplyCounted : Prop :=
  ∀ (f : Transaction) (a : Nat) (d : Device) (after : Radio) (s : State),
    s.radio.flight = some f → f.dropped = false → f.start + 120000 ≤ s.houseTime →
    s.dev f.request.slot = some d → f.request.slot < 32 →
    ((f.packet = .poll a ∧ after = { s.radio with flight := none }) ∨
      ((∃ n c k, f.packet = .jam a n c k) ∧
        (((∃ x ∈ s.radio.requests, x.cls = f.request.cls ∧ x.slot = f.request.slot) ∧
            after = { s.radio with flight := none }) ∨
          ((∀ x ∈ s.radio.requests, ¬ (x.cls = f.request.cls ∧ x.slot = f.request.slot)) ∧
            after = { s.radio with
              flight := none
              requests := s.radio.requests ++ [{ f.request with age := s.radio.nextAge }]
              nextAge := s.radio.nextAge + 1 })))) →
    (f.echo = none → (d.live.state = .unjammed ∨ d.live.state = .outOfRange) →
      ∃ t, exec .transactionEnd s = .next t ∧ t.inner = { s with radio := after }.inner ∧
        NoReply s t ∧ Silent s t) ∧
    (f.echo = none →
      (d.live.state = .jamPending ∨ d.live.state = .tracked ∨ d.live.state = .drifting) →
      (d.live.missedReplies < 2 → ∃ t, exec .transactionEnd s = .next t ∧
        t.inner = ({ s with radio := after }.setDev f.request.slot
          (some { d with live := { d.live with
            missedReplies := d.live.missedReplies + 1 } })).inner ∧ NoReply s t ∧ Silent s t) ∧
      (d.live.missedReplies = 2 → ∃ t, exec .transactionEnd s = .next t ∧
        t.inner = ({ s with radio := after }.setDev f.request.slot
          (some { d with live := { d.live with
            missedReplies := 3
            missedRejams := 0
            state := .outOfRange
            pollLeft := some (4 * d.set.poll) } })).inner ∧ NoReply s t ∧
        Raised s t 0x45 [fByte f.request.slot, fByte d.live.state.code, fByte 5,
          fTick s.houseTime, fByte 3, fByte 0, fByte 0, fByte 0])) ∧
    (∀ e m n c k, f.echo = some (e, m) → f.packet = .jam a n c k → m.number ≠ n →
      d.live.jam = none → d.live.state ≠ .outOfRange →
      (∀ ss ix, d.live.current ≠ .logged ss ix) →
      ∃ t, exec .transactionEnd s = .next t ∧
        t.inner = ({ s with radio := after }.setDev f.request.slot
          (some { d with live := { d.live with
            missedReplies := 0
            age := e.age + s.radio.entriesAfter m.number
            lastClap := some e.clapCount } })).inner ∧ NoReply s t ∧ Silent s t)

/-- A JAM whose echo names its own mark is confirmed: the device takes the mark's house time and the
label frame it was sent, is TRACKED with nothing held or missed, keeps its rate, and has no re-jam
waiting; it is announced with the segment (sections 5.2, 5.3, 6.3). In an open logged take the new
segment enters the device's entry: as its first, with the entry UNCERTAIN, as its second, REJAMMED, or
in place of its second, UNCERTAIN; with no logged take nothing is marked (section 6.4). -/
def Obligations.JamConfirmed : Prop :=
  ∀ (f : Transaction) (a n c : Nat) (e : Echo) (d : Device) (s : State), s.radio.flight = some f →
    f.packet = .jam a n c f.frame → f.echo = some (e, f.mark) → f.mark.number = n →
    f.dropped = false → f.start + 120000 ≤ s.houseTime → s.dev f.request.slot = some d →
    f.request.slot < 32 →
    (d.set.kind ≠ .slate ∨ d.live.lastClap = none ∨ d.live.lastClap = some e.clapCount ∨
      ∀ ss ix, d.live.current ≠ .logged ss ix) →
    ∃ t left, exec .transactionEnd s = .next t ∧
      (d.live.state = .tracked → left = d.live.pollLeft) ∧
      (d.live.state ≠ .tracked → left = some 1 ∨ left = some d.set.poll) ∧
      t.inner = ({ s with
        takes := t.takes
        radio := { s.radio with
          flight := none
          requests := s.radio.requests.filter fun x => ¬ (x.slot = f.request.slot ∧
            (x.cls = ReqClass.overdue ∨ x.cls = ReqClass.drift ∨
              x.cls = ReqClass.periodic)) } }.setDev f.request.slot
        (some { d with live := { d.live with
          state := .tracked
          jam := some ((f.mark.tick : Int), f.frame)
          offset := some 0
          tMeas := some (f.mark.tick : Int)
          predicted := 0
          anchorAge := some e.age
          baseline := some (0, (f.mark.tick : Int))
          lastResidual := 0
          missedRejams := 0
          missedReplies := 0
          held := false
          age := e.age + s.radio.entriesAfter n
          periodicLeft := if d.set.periodic = 0 then none else some (30 * d.set.periodic)
          pollLeft := left
          lastClap := some e.clapCount } })).inner ∧
      ((∀ ss ix, d.live.current ≠ .logged ss ix) → t.takes = s.takes) ∧
      (∀ ss ix new, d.live.current = .logged ss ix →
        new = Segment.mk f.mark.tick f.frame d.live.rate 0 →
        t.takes.queue = s.takes.queue ∧ EntriesKept s t ss ix ∧
        ∀ x, s.findTake ss ix = some x → x.copy.state = .opened → ∃ y b,
          t.findTake ss ix = some { x with copy := { x.copy with
            participants := y, timeUncertain := b } } ∧
          y = x.copy.participants.map (fun p =>
            if p.slot ≠ f.request.slot then p
            else if p.segments = [] then
              { p with segments := [new], uncertain := true, startFrame := some f.frame }
            else if p.segments.length = 1 then
              { p with segments := p.segments ++ [new], rejammed := true }
            else { p with segments := p.segments.take 1 ++ [new], uncertain := true }) ∧
          (b = true ↔ x.copy.timeUncertain = true ∨ ∃ p ∈ y, p.uncertain = true)) ∧
      NoReply s t ∧
      Raised s t 0x45 [fByte f.request.slot, fByte d.live.state.code, fByte 3, fTick s.houseTime,
        fByte 1, fByte 1, fTick f.mark.tick, fByte 1, fFrame f.frame, fByte 0]

/-- A POLL's echo over a segment, naming a mark since the last change of time and later than the
baseline, measures the offset and the rate: the device ahead of its segment by O ticks, and r the
change of offset over the span in 0.01 ppm, each to the nearest; RATE_LIMITED says exactly that r lies
out of range, and r is then the end it lies past (section 6.4). Of an OUT_OF_RANGE device it makes a
TRACKED one within tolerance, and else, as any other echo does, a JAM_PENDING one with a DRIFT request
(section 6.7). In an open logged take the measurement enters the entry's latest segment, and new claps
of a slate are counted in the record and announced, the latest with its house tick and label frame when
it can be placed and the list has room (sections 6.4, 7.5). That the clap is placed with the rate this
same echo measured, and not with the one before, is the model's reading (log entry 29, DEDUCED,
unsafe), no sentence of section 6.4. -/
def Obligations.EchoMeasures : Prop :=
  ∀ (f : Transaction) (a : Nat) (e : Echo) (m : Mark) (d : Device) (s : State) (rolling : Prop),
    s.radio.flight = some f → f.packet = .poll a → f.echo = some (e, m) → f.dropped = false →
    f.start + 120000 ≤ s.houseTime → s.dev f.request.slot = some d → f.request.slot < 32 →
    (rolling ↔ d.set.kind = .slate ∧ ∃ u, d.set.unit = some u ∧ (s.unit u).rolling = true) →
    (∀ (j o1 b1 : Int) (n0 : Nat), d.live.jam = some (j, n0) → d.live.baseline = some (o1, b1) →
      s.radio.entriesAfter m.number < s.marks → j ≤ m.tick → b1 < m.tick →
      ∃ (o r w : Int) (l : Live),
        Nearest o (((e.frames * 65536 + e.phase) * periodOf d.set.rate : Nat) -
          (m.tick - j) * 65536) 65536 ∧
        Nearest r ((o - o1) * 100000000) (m.tick - b1) ∧ Nearest w d.live.predicted 1000 ∧
        l = { d.live with
          missedReplies := 0
          age := e.age + s.radio.entriesAfter m.number
          rate := max (-10000) (min 10000 r)
          rateLimited := decide (r < -10000 ∨ 10000 < r)
          lastResidual := (o - w).natAbs
          offset := some o
          predicted := 1000 * o
          tMeas := some (m.tick : Int)
          anchorAge := some e.age
          baseline := some (o, (m.tick : Int))
          hasMeas := true
          lastClap := some e.clapCount } ∧
        (d.live.state ≠ .outOfRange → (∀ ss ix, d.live.current ≠ .logged ss ix) →
          ∃ t, exec .transactionEnd s = .next t ∧
            t.inner = ({ s with radio := { s.radio with flight := none } }.setDev f.request.slot
              (some { d with live := l })).inner ∧ NoReply s t ∧ Silent s t) ∧
        (d.live.state = .outOfRange → d.live.current = .none →
          o.natAbs < d.set.tolerance * periodOf d.set.rate / 8 →
          ∃ t, exec .transactionEnd s = .next t ∧
            t.inner = ({ s with radio := { s.radio with flight := none } }.setDev f.request.slot
              (some { d with live := { l with
                state := .tracked, pollLeft := t.currentPoll f.request.slot } })).inner ∧
            (rolling → t.currentPoll f.request.slot = some 1) ∧
            (¬ rolling → t.currentPoll f.request.slot = some d.set.poll) ∧ NoReply s t ∧
            Raised s t 0x45 [fByte f.request.slot, fByte 5, fByte 3, fTick s.houseTime, fByte 4,
              fByte 0, fByte 0, fByte 1, fSigned o]) ∧
        (d.live.state = .outOfRange → d.live.current = .none →
          d.set.tolerance * periodOf d.set.rate / 8 ≤ o.natAbs →
          ∃ t, exec .transactionEnd s = .next t ∧
            Posted { s.radio with flight := none } t.radio .drift f.request.slot none ∧
            t.inner = ({ s with radio := t.radio }.setDev f.request.slot
              (some { d with live := { l with
                state := .jamPending, pollLeft := t.currentPoll f.request.slot } })).inner ∧
            (rolling → t.currentPoll f.request.slot = some 1) ∧
            (¬ rolling → t.currentPoll f.request.slot = some d.set.poll) ∧ NoReply s t ∧
            Raised s t 0x45 [fByte f.request.slot, fByte 5, fByte 2, fTick s.houseTime, fByte 4,
              fByte 0, fByte 0, fByte 1, fSigned o]) ∧
        (∀ ss ix c x, d.live.state ≠ .outOfRange → d.live.current = .logged ss ix →
          s.findTake ss ix = some x → x.copy.state = .opened → d.set.kind = .slate →
          d.live.lastClap = some c → c ≠ e.clapCount →
          ∃ t y new kept, exec .transactionEnd s = .next t ∧ t.findTake ss ix = some y ∧
            new = (((e.clapCount : Int) - c) % 256).toNat ∧
            t.inner = ({ s with
              radio := { s.radio with flight := none }, takes := t.takes }.setDev f.request.slot
              (some { d with live := l })).inner ∧
            EntriesKept s t ss ix ∧ t.takes.queue = s.takes.queue ∧
            y.copy.clapTotal = min (x.copy.clapTotal + new) 65535 ∧
            y.copy.claps = x.copy.claps ++ kept.toList ∧
            (e.clap = none ∨ 4 ≤ x.copy.claps.length → kept = none) ∧
            (∀ k psi, e.clap = some (k, psi) → x.copy.claps.length < 4 → ∃ h,
              Nearest h (((k * 65536 + psi) * periodOf d.set.rate : Nat) * 100000000)
                (65536 * (100000000 + l.rate)) ∧
              kept = some (Clap.mk f.request.slot (j + h) ((n0 + k) % dayOf d.set.rate))) ∧
            y.copy.participants = x.copy.participants.map (fun p =>
              if p.slot = f.request.slot then { p with segments := p.segments.dropLast ++
                (p.segments.getLast?.map fun g =>
                  { g with rate := l.rate, residual := l.lastResidual }).toList }
              else p) ∧
            NoReply s t ∧
            Raised s t 0x49 ([fByte x.copy.unit, fSession ss, fIndex ix, fByte f.request.slot,
              fCount new, fCount y.copy.clapTotal] ++ fOpt1 fTick (kept.map Clap.tick) ++
              fOpt1 fFrame (kept.map Clap.frame)))) ∧
    (d.live.jam = none → d.live.state = .outOfRange → d.live.current = .none →
      ∃ t, exec .transactionEnd s = .next t ∧
        Posted { s.radio with flight := none } t.radio .drift f.request.slot none ∧
        t.inner = ({ s with radio := t.radio }.setDev f.request.slot
          (some { d with live := { d.live with
            missedReplies := 0
            age := e.age + s.radio.entriesAfter m.number
            lastClap := some e.clapCount
            state := .jamPending
            pollLeft := t.currentPoll f.request.slot } })).inner ∧ NoReply s t ∧
        Raised s t 0x45 [fByte f.request.slot, fByte 5, fByte 2, fTick s.houseTime, fByte 4,
          fByte 0, fByte 0, fByte 0])

/-! ### Units and takes -/

/-- An accepted SET_SLATE changes the unit's slate info alone: a new scene starts its takes at 1
unless a take number is carried (section 7.1). -/
def Obligations.SlateSet : Prop :=
  ∀ (q : Req) (a : SlateArgs) (s : State), Taken s q → q.port = .control → a.fits = true →
    a.unit < 4 → (s.unit a.unit).current = .none → s.slateOk a = true →
    ∃ t i, exec (.setSlate q a) s = .next t ∧ (t.unit a.unit).info = i ∧
      i.scene = a.scene.getD (s.unit a.unit).info.scene ∧
      (∀ n, a.takeNo = some n → i.takeNo = n) ∧
      (a.takeNo = none → i.scene ≠ (s.unit a.unit).info.scene → i.takeNo = 1) ∧
      (a.takeNo = none → i.scene = (s.unit a.unit).info.scene →
        i.takeNo = (s.unit a.unit).info.takeNo) ∧
      (∀ x ∈ a.rolls, x.2 ≠ [] → x ∈ i.rolls) ∧
      (∀ x ∈ a.rolls, x.2 = [] → ∀ y ∈ i.rolls, y.1 ≠ x.1) ∧
      (∀ y ∈ (s.unit a.unit).info.rolls, (∀ x ∈ a.rolls, x.1 ≠ y.1) → y ∈ i.rolls) ∧
      t.inner = (s.modUnit a.unit fun x => { x with info := i }).inner ∧ Silent s t ∧
      Answered s t q 0x10 .ok i.fields

/-- START_TAKE on an IDLE unit with a device, when an entry is free or COMMITTED, opens a logged take:
the next log index, the house time as start tick, every assigned slot as a participant with its
settings, its label frame and its segment, no time changed; a free entry is used first, else the one
with the lowest commit order is replaced. With every entry still to be committed the take is UNLOGGED,
and no record is made. Either is announced and answered (sections 7.2, 7.3); the flag byte before the
log index, and HOST as 0, are log entry 15. -/
def Obligations.TakeOpens : Prop :=
  ∀ (q : Req) (u ix : Nat) (s : State), Taken s q → q.port = .control → u < 4 →
    s.store.scanned = true → (s.unit u).current = .none → s.assigned u ≠ [] →
    ix = s.takes.lastIndex + 1 →
    ((∀ e, some e ∈ s.takes.entries.toList → e.copy.session = s.store.session →
        e.copy.index ≤ s.takes.lastIndex) →
      (∃ k : Fin 64, ∀ e, s.takes.entries[k] = some e → e.copy.state = .committed) →
      ∃ t e, ∃ k : Fin 64, exec (.startTake q u) s = .next t ∧
        ((∃ j : Fin 64, s.takes.entries[j] = none) → s.takes.entries[k] = none) ∧
        (∀ x, s.takes.entries[k] = some x → x.copy.state = .committed ∧
          ∀ (j : Fin 64) y, s.takes.entries[j] = some y → y.copy.state = .committed →
            x.order.getD 0 ≤ y.order.getD 0) ∧
        t.takes = { s.takes with
          lastIndex := ix
          entries := s.takes.entries.setIfInBounds k (some e) } ∧
        t.findTake s.store.session ix = some e ∧ e.order = none ∧
        e.copy = { e.copy with
          session := s.store.session
          index := ix
          unit := u
          takeNo := (s.unit u).info.takeNo
          scene := (s.unit u).info.scene
          opener := .host
          state := .opened
          startTick := s.houseTime
          endTick := none
          circled := false
          falseStart := false
          note := none
          clapTotal := 0
          claps := [] } ∧
        (e.copy.timeUncertain = true ↔ ∃ p ∈ e.copy.participants, p.uncertain = true) ∧
        e.copy.participants.map Participant.slot = (s.assigned u).map Prod.fst ∧
        (∀ p ∈ e.copy.participants, ∀ d, s.dev p.slot = some d →
          p = { p with
            kind := d.set.kind
            att := d.set.att
            rate := d.set.rate
            endFrame := none
            rollStart := none
            rollStop := none
            rejammed := false } ∧
          (d.set.kind = .recorder → p.audio = d.set.audio ∧ p.pull = d.set.pull) ∧
          (∀ n, d.set.att = .line n → p.phase = d.set.phase ∧ p.origin = d.set.origin ∧
            p.segments = [] ∧ p.uncertain = false ∧
            p.startFrame = some (((s.houseTime + d.set.phase) / periodOf d.set.rate +
              d.set.origin) % dayOf d.set.rate) ∧
            p.lineFault = if (s.line n).state = .active then none else some s.houseTime) ∧
          (∀ a, d.set.att = .radio a → p.lineFault = none ∧
            (d.live.jam = none → p.segments = [] ∧ p.startFrame = none ∧ p.uncertain = true) ∧
            (∀ j n0, d.live.jam = some (j, n0) →
              p.segments = [⟨j, n0, d.live.rate, d.live.lastResidual⟩] ∧
              p.startFrame = some (radioFrame d.set.rate j n0 d.live.rate s.houseTime) ∧
              (p.uncertain = true ↔ d.live.state = .drifting)))) ∧
        UnitRolls s t u .host (.logged s.store.session ix) ∧
        t.inner = { s with slots := t.slots, units := t.units, takes := t.takes }.inner ∧
        Answered s t q 0x12 .ok [fByte u, fSession s.store.session, fCount (s.unit u).info.takeNo,
          fTick s.houseTime, fCount (s.assigned u).length, fByte 0, fIndex ix] ∧
        Raised s t 0x47 ([fByte u, fSession s.store.session, fIndex ix] ++
          fText (s.unit u).info.scene ++ [fCount (s.unit u).info.takeNo, fByte 0,
            fTick s.houseTime] ++ fLabel (houseLabel s.house s.houseTime) ++
          fList (fun x => [fByte x.1]) (s.assigned u))) ∧
    ((∀ k : Fin 64, ∃ e, s.takes.entries[k] = some e ∧ e.copy.state ≠ .committed) →
      ∃ t, exec (.startTake q u) s = .next t ∧ UnitRolls s t u .host (.unlogged u) ∧
        t.inner = { s with slots := t.slots, units := t.units }.inner ∧
        Answered s t q 0x12 .ok [fByte u, fSession s.store.session, fCount (s.unit u).info.takeNo,
          fTick s.houseTime, fCount (s.assigned u).length, fByte 1] ∧
        Raised s t 0x4A ([fByte u] ++ fText (s.unit u).info.scene ++
          [fCount (s.unit u).info.takeNo, fByte 0, fTick s.houseTime] ++
          fList (fun x => [fByte x.1]) (s.assigned u)))

/-- END_TAKE closes a logged take: the record is frozen CLOSED at the house time and joins the commit
queue's tail, its participants are free, the unit is IDLE with the next take number, and no other
record changes. An UNLOGGED take closes alike with no record (section 7.4). The reply's flag byte
before the log index, and its clap total of 0 for an UNLOGGED take, are log entry 15. -/
def Obligations.TakeCloses : Prop :=
  ∀ (q : Req) (u ss : Nat) (s : State), Taken s q → q.port = .control → u < 4 →
    ss = s.store.session → s.settled →
    (∀ (ix : Nat) (e : Entry), (s.unit u).current = .logged ss ix → s.findTake ss ix = some e →
      e.copy.state = .opened → s.exporter.phase = .idle →
      ∃ t e', exec (.endTake q u) s = .next t ∧ t.findTake ss ix = some e' ∧
        e' = { e with
          copy := { e.copy with
            state := .closed
            endTick := some s.houseTime
            participants := e.copy.participants.map fun p =>
              { p with endFrame := p.frameAt s.houseTime } }
          closeCounter := s.clock.counter } ∧
        t.takes.queue = s.takes.queue ++ [ix] ∧ EntriesKept s t ss ix ∧
        UnitLeft s t u (.logged ss ix) ∧
        t.inner = { s with
          slots := t.slots, units := t.units, takes := t.takes, radio := t.radio }.inner ∧
        Answered s t q 0x13 .ok [fByte u, fSession ss, fByte 0, fIndex ix, fCount e.copy.takeNo,
          fTick (s.unit u).start, fTick s.houseTime, fCount e.copy.clapTotal] ∧
        Raised s t 0x48 ([fByte u, fSession ss, fByte 1, fIndex ix, fCount e.copy.takeNo,
          fTick (s.unit u).start, fTick s.houseTime] ++ fLabel (houseLabel s.house s.houseTime) ++
          [fByte 1, fByte e.copy.marks, fByte 1, fCount e.copy.clapTotal, fByte 0])) ∧
    ((s.unit u).current = .unlogged u →
      ∃ t, exec (.endTake q u) s = .next t ∧ UnitLeft s t u (.unlogged u) ∧
        t.inner = { s with slots := t.slots, units := t.units, radio := t.radio }.inner ∧
        Answered s t q 0x13 .ok [fByte u, fSession ss, fByte 1, fCount (s.unit u).info.takeNo,
          fTick (s.unit u).start, fTick s.houseTime, fCount 0] ∧
        Raised s t 0x48 ([fByte u, fSession ss, fByte 0, fCount (s.unit u).info.takeNo,
          fTick (s.unit u).start, fTick s.houseTime] ++ fLabel (houseLabel s.house s.houseTime) ++
          [fByte 0, fByte 0, fByte 1]))

/-- MARK_TAKE changes an OPEN or CLOSED record and stores no amendment of it; for a COMMITTING or
COMMITTED record in the table it changes the copy and queues an amendment with the values as they then
stand; for a take not in the table it queues the values carried (section 7.6). That the reply packs the
resulting marks into one byte is log entry 15, and that the amendment of a take in the table holds an
absent note as a text of 0 characters is log entry 50: the model's readings. What the reply carries of
a take not in the table beyond the request's own values is free (log entry 11). -/
def Obligations.TakeMarked : Prop :=
  ∀ (q : Req) (a : MarkArgs) (s : State), Taken s q → q.port = .control →
    a.fits = true → markChanges a = true → a.session = s.store.session → 1 ≤ a.index →
    a.index ≤ s.takes.lastIndex →
    (∀ e, s.findTake a.session a.index = some e → e.copy.state = .opened ∨
        (e.copy.state = .closed ∧ s.exporter.phase = .idle) → s.settled →
      ∃ t n, exec (.markTake q a) s = .next t ∧
        t.findTake a.session a.index = some { e with copy := { e.copy with
          circled := a.circled.getD e.copy.circled
          falseStart := a.falseStart.getD e.copy.falseStart
          note := n } } ∧
        (a.note = none → n = e.copy.note) ∧ (a.note = some [] → n = none) ∧
        (∀ x, a.note = some x → x ≠ [] → n = some x) ∧
        EntriesKept s t a.session a.index ∧ t.takes.queue = s.takes.queue ∧
        t.inner = { s with takes := t.takes }.inner ∧ Silent s t ∧
        Answered s t q 0x14 .ok ([fSession a.session, fIndex a.index,
          fByte (marksByte (a.circled.getD e.copy.circled)
            (a.falseStart.getD e.copy.falseStart) e.copy.timeUncertain)] ++
          fOpt fText n ++ [fByte 0])) ∧
    (s.exporter.phase = .idle → s.store.op ≠ .idle → s.store.amendments.length < 16 →
      (∀ x ∈ s.store.amendments, ¬ (x.session = a.session ∧ x.index = a.index)) →
      (∀ e, s.findTake a.session a.index = some e →
          e.copy.state = .committing ∨ e.copy.state = .committed →
        ∃ t n, exec (.markTake q a) s = .next t ∧
          t.findTake a.session a.index = some { e with copy := { e.copy with
            circled := a.circled.getD e.copy.circled
            falseStart := a.falseStart.getD e.copy.falseStart
            note := n } } ∧
          (a.note = none → n = e.copy.note) ∧ (a.note = some [] → n = none) ∧
          (∀ x, a.note = some x → x ≠ [] → n = some x) ∧
          EntriesKept s t a.session a.index ∧ t.takes.queue = s.takes.queue ∧
          t.inner = { s with
            takes := t.takes
            store := { s.store with amendments := s.store.amendments ++ [Amendment.mk a.session
              a.index (some (a.circled.getD e.copy.circled))
              (some (a.falseStart.getD e.copy.falseStart)) (some (n.getD []))] } }.inner ∧ Silent s t ∧
          Answered s t q 0x14 .ok ([fSession a.session, fIndex a.index,
            fByte (marksByte (a.circled.getD e.copy.circled)
              (a.falseStart.getD e.copy.falseStart) e.copy.timeUncertain)] ++
            fOpt fText n ++ [fByte 1])) ∧
      (s.findTake a.session a.index = none →
        ∃ t n c f u, exec (.markTake q a) s = .next t ∧
          (a.note = some [] → n = none) ∧ (∀ x, a.note = some x → x ≠ [] → n = some x) ∧
          (∀ b, a.circled = some b → c = b) ∧ (∀ b, a.falseStart = some b → f = b) ∧
          t.inner = { s with store := { s.store with
            amendments := s.store.amendments ++
              [Amendment.mk a.session a.index a.circled a.falseStart a.note] } }.inner ∧ Silent s t ∧
          Answered s t q 0x14 .ok ([fSession a.session, fIndex a.index, fByte (marksByte c f u)] ++
            fOpt fText n ++ [fByte 1])))

/-! ### The log store -/

/-- SET_COMMIT_DELAY sets the delay alone; FLUSH with an empty queue is answered OK at once with a
count of 0, and with closed takes and a READY store it waits for exactly those (sections 8.3, 8.5). -/
def Obligations.DelayAndFlush : Prop :=
  ∀ (q : Req) (n : Nat) (s : State), Taken s q → q.port = .control →
    (s.store.applied = true → n ≤ 255 → ∃ t, exec (.setCommitDelay q n) s = .next t ∧
      t.inner = { s with store := { s.store with delay := n } }.inner ∧ Silent s t ∧
      Answered s t q 0x16 .ok []) ∧
    (s.store.scanned = true → s.takes.queue = [] → ∃ t, exec (.flush q) s = .next t ∧
      t.inner = s.inner ∧ Silent s t ∧ Answered s t q 0x17 .ok [fCount 0]) ∧
    (s.store.scanned = true → s.takes.queue ≠ [] → s.store.state = .ready → s.store.op ≠ .idle →
      ∃ t, exec (.flush q) s = .next t ∧ NoReply s t ∧ Silent s t ∧
        t.inner = { s with store := { s.store with
          flushes := s.store.flushes ++ [WaitingFlush.mk s.takes.queue q.port q.tag] } }.inner)

/-- An accepted CLEAR_LOG with the flash free begins its erase; the erase done empties the log and the
directory, drops the amendments, frees exactly the COMMITTED entries, keeps the session and the last
log index, and goes on to the CLEARED page (section 8.7). An erase that fails at a page takes the log
as emptied and the store to FAULT, keeps every entry and the commit queue, is announced, and every
waiting FLUSH and the CLEAR_LOG are answered STORE_FAULT (section 8.7). What the flash then holds is log
entry 16, that the FLUSH replies are formed before the CLEAR_LOG reply is log entry 51, and that a page
travels as a count of 2 bytes is log entry 15: the model's own. -/
def Obligations.LogCleared : Prop :=
  ∀ (q : Req) (s : State),
    (Taken s q → q.port = .control → s.store.scanned = true → s.anyTakeOpen = false →
      s.store.clear = none → s.store.save = none → s.store.reads = [] → s.store.op = .idle →
      s.takes.queue = [] → s.store.amendments = [] →
      ∃ t c, exec (.clearLog q) s = .next t ∧ t.store.op = .erase ∧ t.store.clear = some c ∧
        c.port = q.port ∧ c.tag = q.tag ∧ t.flash = s.flash ∧ t.takes = s.takes ∧
        t.store.state = s.store.state ∧ NoReply s t ∧ Silent s t) ∧
    (s.store.op = .erase → ∃ t, exec (.logEraseDone none) s = .next t ∧ t.flash.log = [] ∧
      t.flash.settings = s.flash.settings ∧ t.store.pointer = 0 ∧ t.store.directory = [] ∧
      t.store.skipped = 0 ∧ t.store.failures = 0 ∧ t.store.amendments = [] ∧
      t.store.session = s.store.session ∧ t.takes.lastIndex = s.takes.lastIndex ∧
      t.takes.queue = s.takes.queue ∧ t.takes.nextOrder = s.takes.nextOrder ∧
      (∀ e, some e ∈ t.takes.entries.toList ↔
        some e ∈ s.takes.entries.toList ∧ e.copy.state ≠ .committed) ∧
      (∃ p, t.store.op = .cleared p ∧ pageGood p = true ∧ (pageHeader p).kind = 1) ∧
      t.store.clear = s.store.clear ∧ t.units = s.units ∧ t.slots = s.slots ∧ NoReply s t ∧
      Silent s t) ∧
    (∀ (page : Nat) (c : PendingClear), s.store.op = .erase → page < 8192 →
      s.store.clear = some c → s.store.save = none → s.store.reads = [] →
      ∃ t, exec (.logEraseDone (some page)) s = .next t ∧
        t.store = { s.store with
          state := .fault, pointer := 0, directory := [], skipped := 0, amendments := []
          flushes := [], clear := none, op := .idle, lastWrite := false } ∧
        t.inner = { s with store := t.store, flash := t.flash }.inner ∧
        t.flash.settings = s.flash.settings ∧
        readPage t.flash.log page = some .damaged ∧
        (∀ k, k < page → readPage t.flash.log k = none) ∧
        (∀ k, page < k → readPage t.flash.log k = readPage s.flash.log k) ∧
        (∀ p, t.outgoing p = s.outgoing p ++
          (flushReplies s.store.flushes p .storeFault fun _ => s.headField) ++
          if p = c.port then [⟨replyMessage 0x18 c.tag .storeFault [], true, false⟩] else []) ∧
        Raised s t 0x4B ([fByte 0, fSession s.store.session, fByte 1, fCount page] ++
          fOpt1 fIndex s.takes.queue.head?))

/-- SAVE_SETTINGS with the flash free begins the write of a snapshot of the settings as they stand; a
good read-back leaves that copy and is answered OK, a first bad one is written again, a second is
answered STORE_FAULT with no good copy left (section 8.7). That the area holds no good copy from the
start of a write until it has been read back is the model's choice (log entry 40, DESIGN CHOICE); R150
says it of the write only. -/
def Obligations.SettingsSaved : Prop :=
  ∀ (q : Req) (p : PendingSave) (n : Nat) (s : State),
    (Taken s q → q.port = .control → s.store.scanned = true → s.store.save = none →
      s.store.clear = none → s.store.op = .idle →
      ∃ t x, exec (.saveSettings q) s = .next t ∧
        t.inner = { s with
          store := { s.store with
            op := .settings 1
            save := some x
            arrivals := s.store.arrivals + 1 }
          flash := { s.flash with settings := .bad } }.inner ∧
        x.port = q.port ∧ x.tag = q.tag ∧ x.snapshot.ref = s.ref.set ∧
        x.snapshot.house = s.house ∧ x.snapshot.delay = s.store.delay ∧
        x.snapshot.radioOn = s.radio.enabled ∧
        (∀ u : Fin 4, x.snapshot.slates[u] = (s.unit u).info) ∧
        (∀ k : Fin 8, x.snapshot.profiles[k] = ⟨(s.profile k).state, (s.profile k).count,
          (s.profile k).bias, (s.profile k).points⟩) ∧
        (∀ i : Fin 32, x.snapshot.slots[i] = (s.dev i).map fun d =>
          (d.set, (d.lineNo.map fun l => (s.line l).enabled).getD false)) ∧
        NoReply s t ∧ Silent s t) ∧
    (s.store.op = .settings n → s.store.save = some p → s.store.clear = none →
      s.store.reads = [] → s.nothingToWrite →
      (∃ t, exec (.settingsWriteDone true) s = .next t ∧
        t.inner = { s with
          store := { s.store with save := none, op := .idle, lastWrite := false }
          flash := { s.flash with settings := .good p.snapshot } }.inner ∧ Silent s t ∧
        t.outgoing p.port = s.outgoing p.port ++
          [⟨replyMessage 0x19 p.tag .ok [], true, false⟩] ∧
        t.outgoing (otherPort p.port) = s.outgoing (otherPort p.port)) ∧
      (n = 1 → ∃ t, exec (.settingsWriteDone false) s = .next t ∧
        t.inner = { s with
          store := { s.store with op := .settings 2 }
          flash := { s.flash with settings := .bad } }.inner ∧ NoReply s t ∧ Silent s t) ∧
      (n = 2 → ∃ t, exec (.settingsWriteDone false) s = .next t ∧
        t.inner = { s with
          store := { s.store with save := none, op := .idle, lastWrite := false }
          flash := { s.flash with settings := .bad } }.inner ∧ Silent s t ∧
        t.outgoing p.port = s.outgoing p.port ++
          [⟨replyMessage 0x19 p.tag .storeFault [], true, false⟩] ∧
        t.outgoing (otherPort p.port) = s.outgoing (otherPort p.port)))

/-- With the flash free, nothing pending and the head take's delay run out, its commit write begins:
the record becomes COMMITTING, and the pages to write are its encoding in numbered parts. A record
that does not fit in the pages left sends the store to LOG_FULL, announced, its record still CLOSED and
every waiting FLUSH answered LOG_FULL (section 8.3). That these replies are formed in the order in which
the requests joined the list is the model's choice (log entry 51), and that a page travels as a count of
2 bytes is log entry 15's reading. -/
def Obligations.CommitBegins : Prop :=
  ∀ (i m : Nat) (rest : List Nat) (e : Entry) (s : State), s.store.op = .idle →
    s.store.state = .ready → s.store.save = none → s.store.clear = none →
    (s.store.lastWrite = true → s.store.reads = []) → s.store.amendments = [] →
    s.takes.queue = i :: rest → s.findTake s.store.session i = some e → 1 ≤ s.store.delay →
    e.closeCounter + s.store.delay * 2400000 ≤ s.clock.counter →
    m = (chunks 243 (encodeTake { e.copy with state := .committing })).length →
    (s.store.pointer + m ≤ 8192 →
      ∃ t pages, exec .commitDelayExpiry s = .next t ∧ pages.length = m ∧
        pages.flatMap pageBody = encodeTake { e.copy with state := .committing } ∧
        (∀ p ∈ pages, pageGood p = true ∧ (pageHeader p).kind = 2 ∧
          (e.copy.session < 65536 → (pageHeader p).session = e.copy.session) ∧
          (e.copy.index < 4294967296 → (pageHeader p).index = e.copy.index)) ∧
        (∀ k p, m < 256 → pages[k]? = some p →
          (pageHeader p).part = k + 1 ∧ (pageHeader p).parts = m) ∧
        t.inner = { s with
          store := { s.store with op := .commit i pages }
          takes := { s.takes with
            entries := s.takes.inState s.store.session i .committing none } }.inner ∧
        NoReply s t ∧ Silent s t) ∧
    (8192 < s.store.pointer + m → s.store.reads = [] →
      ∃ t, exec .commitDelayExpiry s = .next t ∧ FlushesFail s t .logFull ∧
        t.inner = { s with store := { s.store with state := .logFull, flushes := [] } }.inner ∧
        Raised s t 0x4B [fByte 1, fSession s.store.session, fByte 1, fCount s.store.pointer,
          fByte 1, fIndex i])

/-- A page that checks good is in the flash and the directory and advances the pointer; a first bad
one is skipped and the same page written again; no other page changes (section 8.3). The last good page
of a commit makes its record COMMITTED with the next commit order, takes it off the queue's head and
answers the waiting FLUSH requests it completes. A second bad page takes the store to FAULT, and pages
run out to LOG_FULL, with the take CLOSED, every waiting FLUSH answered and the change announced
(section 8.3). A good AMENDMENT page takes its amendment off the queue (section 8.4); the good CLEARED
page makes the store READY, announced, and CLEAR_LOG is answered (section 8.7). That FLUSH requests
answered together are answered in the order in which they joined the list is the model's choice (log
entry 51), and that a page travels as a count of 2 bytes is log entry 15's reading. -/
def Obligations.PageWriteChecked : Prop :=
  ∀ (ok : Bool) (s : State) (x : Store) (page : List Byte) (head : List Field),
    ((∃ i rest, s.store.op = .commit i (page :: rest)) ∨ (∃ a, s.store.op = .amend a page) ∨
      s.store.op = .cleared page) →
    x = { s.store with
      pointer := s.store.pointer + 1
      directory := s.store.directory ++ [if ok then some (pageHeader page) else none]
      skipped := if ok then s.store.skipped else s.store.skipped + 1
      failures := if ok then 0 else 1 } →
    head = fOpt1 fIndex s.takes.queue.head? →
    ∃ t, exec (.pageWriteCheck ok) s = .next t ∧
      readPage t.flash.log s.store.pointer = some (if ok then .bytes page else .damaged) ∧
      (∀ k, k ≠ s.store.pointer → readPage t.flash.log k = readPage s.flash.log k) ∧
      (t.store.op ≠ .settings 1 → t.flash.settings = s.flash.settings) ∧
      t.inner = { s with store := t.store, flash := t.flash, takes := t.takes }.inner ∧
      (∀ i rest, s.store.op = .commit i (page :: rest) → s.store.state = .ready →
        (ok = true → rest ≠ [] → s.store.pointer + 1 < 8192 →
          t.store = { x with op := .commit i rest } ∧ t.takes = s.takes ∧ NoReply s t ∧
          Silent s t) ∧
        (ok = false → s.store.failures = 0 → s.store.pointer + 1 < 8192 →
          t.store = x ∧ t.takes = s.takes ∧ NoReply s t ∧ Silent s t) ∧
        (s.store.save = none → s.store.clear = none → s.store.reads = [] →
          (ok = true → rest = [] → s.takes.queue = [i] → s.store.amendments = [] →
            t.store = { x with flushes := [], op := .idle, lastWrite := true } ∧
            t.takes = { s.takes with
              entries := s.takes.inState s.store.session i .committed (some s.takes.nextOrder)
              queue := []
              nextOrder := s.takes.nextOrder + 1 } ∧ Silent s t ∧
            ∀ p, t.outgoing p = s.outgoing p ++ flushReplies s.store.flushes p .ok fun f =>
              [fCount f.boundary.length]) ∧
          ((ok = true ∧ rest ≠ []) ∨ (ok = false ∧ s.store.failures = 0) →
            8192 ≤ s.store.pointer + 1 →
            t.store = { x with
              state := .logFull
              amendments := s.store.amendments.filter fun a =>
                ¬ (a.session = s.store.session ∧ a.index = i)
              flushes := []
              op := .idle
              lastWrite := true } ∧
            t.takes = { s.takes with
              entries := s.takes.inState s.store.session i .closed none } ∧
            FlushesFail s t .logFull ∧
            Raised s t 0x4B ([fByte 1, fSession s.store.session, fByte 1,
              fCount (s.store.pointer + 1)] ++ head)) ∧
          (ok = false → s.store.failures = 1 →
            t.store = { x with
              state := .fault
              amendments := s.store.amendments.filter fun a =>
                ¬ (a.session = s.store.session ∧ a.index = i)
              flushes := []
              op := .idle
              lastWrite := true } ∧
            t.takes = { s.takes with
              entries := s.takes.inState s.store.session i .closed none } ∧
            FlushesFail s t .storeFault ∧
            Raised s t 0x4B ([fByte 0, fSession s.store.session, fByte 1,
              fCount s.store.pointer] ++ head)))) ∧
      (∀ a, s.store.op = .amend a page →
        (ok = false → s.store.failures = 0 → s.store.pointer + 1 < 8192 →
          t.store = x ∧ t.takes = s.takes ∧ NoReply s t ∧ Silent s t) ∧
        (s.store.save = none → s.store.clear = none → s.store.reads = [] →
          (ok = true → s.store.amendments = [a] → s.takes.queue = [] →
            t.store = { x with amendments := [], op := .idle, lastWrite := true } ∧
            t.takes = s.takes ∧ NoReply s t ∧ Silent s t) ∧
          (ok = false → s.store.failures = 0 → 8192 ≤ s.store.pointer + 1 →
            t.store = { x with
              state := .logFull, flushes := [], op := .idle, lastWrite := true } ∧
            t.takes = s.takes ∧ FlushesFail s t .logFull ∧
            Raised s t 0x4B ([fByte 1, fSession s.store.session, fByte 1,
              fCount (s.store.pointer + 1)] ++ head)) ∧
          (ok = false → s.store.failures = 1 →
            t.store = { x with
              state := .fault, flushes := [], op := .idle, lastWrite := true } ∧
            t.takes = s.takes ∧ FlushesFail s t .storeFault ∧
            Raised s t 0x4B ([fByte 0, fSession s.store.session, fByte 1,
              fCount s.store.pointer] ++ head)))) ∧
      (∀ c, s.store.op = .cleared page → s.store.clear = some c →
        (ok = false → s.store.failures = 0 → t.store = x ∧ t.takes = s.takes ∧ NoReply s t ∧
          Silent s t) ∧
        (s.store.save = none → s.store.reads = [] → s.store.flushes = [] →
          (ok = true → s.store.amendments = [] → s.takes.queue = [] →
            t.store = { x with
              state := .ready, clear := none, op := .idle, lastWrite := false } ∧
            t.takes = s.takes ∧
            t.outgoing c.port = s.outgoing c.port ++ [⟨replyMessage 0x18 c.tag .ok
              [fCount (s.store.pointer + 1)], true, false⟩] ∧
            t.outgoing (otherPort c.port) = s.outgoing (otherPort c.port) ∧
            Raised s t 0x4B [fByte 3, fSession s.store.session, fByte 1,
              fCount (s.store.pointer + 1), fByte 0]) ∧
          (ok = false → s.store.failures = 1 →
            t.store = { x with
              state := .fault, clear := none, op := .idle, lastWrite := false } ∧
            t.takes = s.takes ∧
            t.outgoing c.port = s.outgoing c.port ++
              [⟨replyMessage 0x18 c.tag .storeFault [], true, false⟩] ∧
            t.outgoing (otherPort c.port) = s.outgoing (otherPort c.port) ∧
            Raised s t 0x4B ([fByte 0, fSession s.store.session, fByte 1,
              fCount s.store.pointer] ++ head))))

/-- A store read answers the conform query that asked it. For a query that names its take, no record is
NO_TAKE; a record is examined, a match is answered OK with it, and a record that does not match
NOT_FOUND. In the store phase of a query that names none, WHERE_IS or AT_TICK, a record that matches
joins the matches found, and the search goes on to the next index by one read more; it ends at its
second match, for AT_TICK its fifth, or with nothing left to read: WHERE_IS is answered with the match
found first and whether there are more, AT_TICK with up to four and whether there are more. The read
changes no page and no record (sections 8.6, 9.2, 9.5). How the take fields of an answer travel is the
model's reading (log entry 44).
A read of the export collects its record, or counts it as skipped, and with a message in transmission
forms the block that is full or final, or in the follow phase the follow block; the answer to a
withdrawn read is discarded (sections 10.3, 10.4, 10.6). -/
def Obligations.StoreReadAnswers : Prop :=
  (∀ (p : Port) (tag session slot frame rate index : Nat) (s : State),
    s.store.op = .read ⟨.conform p, session, index⟩ true →
    s.store.save = none → s.store.clear = none → s.store.reads = [] → s.nothingToWrite →
    ((s.port p).conform = .busy tag (.whereIs session slot frame rate (some index)) [index] [] →
      ∃ t, exec .storeReadDone s = .next t ∧
        t.inner = ({ s with store := { s.store with op := .idle, lastWrite := false } }.modPort p
          fun x => { x with conform := .answered }).inner ∧ Silent s t ∧
        t.outgoing (otherPort p) = s.outgoing (otherPort p) ∧
        (readTake s.store.directory s.flash.log session index = none →
          t.outgoing p = s.outgoing p ++ [⟨replyMessage 0x1B tag .noTake [], true, true⟩]) ∧
        (∀ r, readTake s.store.directory s.flash.log session index = some r →
          r.whereInstant slot frame rate s.houseTime = none →
          t.outgoing p = s.outgoing p ++ [⟨replyMessage 0x1B tag .notFound [], true, true⟩]) ∧
        (∀ r i, readTake s.store.directory s.flash.log session index = some r →
          r.whereInstant slot frame rate s.houseTime = some i → r.state ≠ .opened →
          t.outgoing p = s.outgoing p ++ [⟨replyMessage 0x1B tag .ok
            ((Match.mk r i none).whereFields s.house false), true, true⟩])) ∧
    (∀ (rest : List Nat) (found found' : List Match),
      (s.port p).conform =
        .busy tag (.whereIs session slot frame rate none) (index :: rest) found →
      found.length < 2 →
      (found' = found ∧ (∀ r, readTake s.store.directory s.flash.log session index = some r →
          r.whereInstant slot frame rate s.houseTime = none)) ∨
        (∃ r i, readTake s.store.directory s.flash.log session index = some r ∧
          r.whereInstant slot frame rate s.houseTime = some i ∧ r.state ≠ .opened ∧
          found' = found ++ [Match.mk r i none]) →
      (∀ j more, rest = j :: more → found'.length < 2 → ∃ t, exec .storeReadDone s = .next t ∧
        t.inner = ({ s with store := { s.store with
          op := .read ⟨.conform p, session, j⟩ true
          lastWrite := false } }.modPort p fun x => { x with
            conform := .busy tag (.whereIs session slot frame rate none) rest found' }).inner ∧
        NoReply s t ∧ Silent s t) ∧
      (rest = [] ∨ found'.length = 2 → ∃ t, exec .storeReadDone s = .next t ∧
        t.inner = ({ s with store := { s.store with op := .idle, lastWrite := false } }.modPort p
          fun x => { x with conform := .answered }).inner ∧ Silent s t ∧
        t.outgoing (otherPort p) = s.outgoing (otherPort p) ∧
        (found' = [] → t.outgoing p = s.outgoing p ++
          [⟨replyMessage 0x1B tag .notFound [], true, true⟩]) ∧
        (∀ m ms, found' = m :: ms → t.outgoing p = s.outgoing p ++ [⟨replyMessage 0x1B tag .ok
          (m.whereFields s.house (decide (ms ≠ []))), true, true⟩]))) ∧
    (∀ (tick : Nat) (rest : List Nat) (found found' : List Match),
      (s.port p).conform = .busy tag (.atTick session tick) (index :: rest) found →
      found.length < 5 →
      (found' = found ∧ (∀ r, readTake s.store.directory s.flash.log session index = some r →
          r.state ≠ .opened ∧ ∃ fin, r.endTick = some fin ∧ (tick < r.startTick ∨ fin < tick))) ∨
        (∃ r fin, readTake s.store.directory s.flash.log session index = some r ∧
          r.state ≠ .opened ∧ r.endTick = some fin ∧ r.startTick ≤ tick ∧ tick ≤ fin ∧
          found' = found ++ [Match.mk r tick none]) →
      (∀ j more, rest = j :: more → found'.length < 5 → ∃ t, exec .storeReadDone s = .next t ∧
        t.inner = ({ s with store := { s.store with
          op := .read ⟨.conform p, session, j⟩ true
          lastWrite := false } }.modPort p fun x => { x with
            conform := .busy tag (.atTick session tick) rest found' }).inner ∧
        NoReply s t ∧ Silent s t) ∧
      (rest = [] ∨ found'.length = 5 → ∃ t, exec .storeReadDone s = .next t ∧
        t.inner = ({ s with store := { s.store with op := .idle, lastWrite := false } }.modPort p
          fun x => { x with conform := .answered }).inner ∧ Silent s t ∧
        t.outgoing (otherPort p) = s.outgoing (otherPort p) ∧
        (found' = [] → t.outgoing p = s.outgoing p ++
          [⟨replyMessage 0x1C tag .notFound [], true, true⟩]) ∧
        (found' ≠ [] → t.outgoing p = s.outgoing p ++ [⟨replyMessage 0x1C tag .ok
          (fByte (min found'.length 4) ::
            (found'.take 4).flatMap (fun m => m.takeFields ++ m.placeFields) ++
            [fByte (if found'.length = 5 then 1 else 0)]), true, true⟩])))) ∧
  ∀ (session index : Nat) (live : Bool) (s : State),
    s.store.op = .read ⟨.exporter, session, index⟩ live → s.store.save = none →
    s.store.clear = none → s.store.reads = [] → s.nothingToWrite →
    (live = false → ∃ t, exec .storeReadDone s = .next t ∧ ExportReadEnds s t s.exporter) ∧
    (live = true → s.exporter.reading = some index → s.exporter.cancel = none →
      s.exporter.formed = none → s.exporter.handed ≠ none →
      (∀ a b, s.exporter.phase = .counting → s.exporter.range = some (a, b) →
        s.exporter.ended = false →
        (∀ r, readTake s.store.directory s.flash.log session index = some r → index < b →
          s.exporter.forming.length + 1 = s.exporter.blockSize →
          ∃ t, exec .storeReadDone s = .next t ∧ ExportReadEnds s t { s.exporter with
            reading := none
            last := some index
            forming := []
            formed := some ⟨s.exporter.seq, false, s.exporter.forming ++ [r], b - index, false,
              s.exporter.skippedOpen, s.exporter.skippedNone, 0⟩
            seq := if s.exporter.seq = 65535 then 1 else s.exporter.seq + 1 }) ∧
        (∀ r, readTake s.store.directory s.flash.log session index = some r → index = b →
          ∃ t, exec .storeReadDone s = .next t ∧ ExportReadEnds s t { s.exporter with
            reading := none
            last := some index
            forming := []
            formed := some ⟨s.exporter.seq, false, s.exporter.forming ++ [r], 0, true,
              s.exporter.skippedOpen, s.exporter.skippedNone, 0⟩
            seq := if s.exporter.seq = 65535 then 1 else s.exporter.seq + 1
            ended := true }) ∧
        (readTake s.store.directory s.flash.log session index = none → index = b →
          ∃ t, exec .storeReadDone s = .next t ∧ ExportReadEnds s t { s.exporter with
            reading := none
            last := some index
            forming := []
            formed := some ⟨s.exporter.seq, false, s.exporter.forming, 0, true,
              s.exporter.skippedOpen, s.exporter.skippedNone + 1, 0⟩
            skippedNone := s.exporter.skippedNone + 1
            amendments := s.exporter.amendments.filter fun h => h.amendment.index ≠ index
            seq := if s.exporter.seq = 65535 then 1 else s.exporter.seq + 1
            ended := true })) ∧
      (∀ rest, s.exporter.phase = .following → s.exporter.queue = index :: rest →
        (∀ r, readTake s.store.directory s.flash.log session index = some r →
          ∃ t, exec .storeReadDone s = .next t ∧ ExportReadEnds s t { s.exporter with
            reading := none
            formed := some ⟨s.exporter.seq, true, [r], 0, false, 0, 0, s.exporter.losses⟩
            seq := if s.exporter.seq = 65535 then 1 else s.exporter.seq + 1
            losses := 0
            queue := rest }) ∧
        (readTake s.store.directory s.flash.log session index = none → rest = [] →
          s.exporter.losses < 65535 →
          ∃ t, exec .storeReadDone s = .next t ∧ ExportReadEnds s t { s.exporter with
            reading := none
            losses := s.exporter.losses + 1
            queue := []
            amendments := s.exporter.amendments.filter fun h =>
              h.amendment.index ≠ index })))

/-! ### Start-up -/

/-- SETTINGS_APPLY applies a good copy whole: reference settings, house rate, profiles with their CRCs
computed from their content, devices as just declared, each with its profile's CRC, lines bound to the
saved devices with their saved enables and in the state their sense gives, slate info, commit delay and
radio enable. Without one it leaves every default, with the radio
on; it moves no time and no live reference state, and announces nothing (section 8.8). -/
def Obligations.SettingsApplied : Prop :=
  ∀ (s : State), s.store.applied = false → ∃ t, exec .settingsApply s = .next t ∧
    (∀ c, s.flash.settings = .good c →
      t.inner = { s with
        ref := { s.ref with set := c.ref }
        house := c.house
        slots := t.slots
        lines := t.lines
        profiles := t.profiles
        radio := { s.radio with enabled := c.radioOn }
        units := t.units
        store := { s.store with applied := true, loaded := true, delay := c.delay } }.inner ∧
      (∀ u : Fin 4, t.unit u = { s.unit u with info := c.slates[u] }) ∧
      (∀ k : Fin 8, (t.profile k).points = (c.profiles[k]).points ∧
        (t.profile k).state = (c.profiles[k]).state ∧
        (t.profile k).count = (c.profiles[k]).count ∧ (t.profile k).bias = (c.profiles[k]).bias ∧
        (t.profile k).crc = crc16 (encodeFields ([fByte (c.profiles[k]).count,
          fByte (biasCode (c.profiles[k]).bias), fByte (c.profiles[k]).points.length] ++
          (c.profiles[k]).points.flatMap fun x => [fByte x.1, fLevel x.2]))) ∧
      (∀ i : Fin 32, (t.dev i).map Device.set = (c.slots[i]).map Prod.fst) ∧
      (∀ i d, t.dev i = some d → d.live =
        { state := if d.set.att.wired then .wired else .unjammed
          current := .none, jam := none, rate := 0, tMeas := none, offset := none, age := 0
          predicted := 0
          crc := if d.set.att.wired then none else d.set.profile.map fun n => (t.profile n).crc
          missedRejams := 0, missedReplies := 0, rateLimited := false, held := false
          hasMeas := false, pollLeft := none, periodicLeft := none, anchorAge := none
          baseline := none, lastResidual := 0, lastClap := none }) ∧
      (∀ (n : Fin 16) (i : Fin 32) x on, c.slots[i] = some (x, on) → x.att = .line n →
        (∀ (j : Fin 32) y b, c.slots[j] = some (y, b) → y.att = .line n → j = i) →
        (t.line n).bound = some i.val ∧ (t.line n).enabled = on ∧
        (t.line n).state = (if on then
          match (s.line n).sense with
          | .present => .active
          | .opened => .faultOpen
          | .short => .faultShort
          else .disabled) ∧
        (t.line n).out = none ∧ (t.line n).sense = (s.line n).sense ∧
        (t.line n).run = (s.line n).run) ∧
      (∀ n : Fin 16, (∀ (j : Fin 32) y b, c.slots[j] = some (y, b) → y.att ≠ .line n) →
        t.line n = s.line n)) ∧
    ((s.flash.settings = .blank ∨ s.flash.settings = .bad) →
      t.inner = { s with
        ref := { s.ref with set := .default }
        house := 2
        radio := { s.radio with enabled := true }
        units := t.units
        store := { s.store with applied := true, loaded := false, delay := 2 } }.inner ∧
      (∀ u, u < 4 → t.unit u = { s.unit u with info := .reset })) ∧
    NoReply s t ∧ Silent s t

/-- A page read by the scan: a blank one ends it at that page; another enters the directory, a good
one with its header and any other skipped and counted, and the scan goes on to the next page, ending
with the last of the 8,192 (section 8.8). -/
def Obligations.ScanReadsPage : Prop :=
  ∀ (s : State), s.store.applied = true → s.store.scanEnded = false →
    (readPage s.flash.log s.store.pointer = none → ∃ t, exec .logScanPageRead s = .next t ∧
      t.inner = { s with store := { s.store with scanEnded := true } }.inner ∧ NoReply s t ∧
      Silent s t) ∧
    (∀ d x, readPage s.flash.log s.store.pointer = some d →
      (∃ bs, d = .bytes bs ∧ pageGood bs = true ∧ x = some (pageHeader bs)) ∨
        ((d = .damaged ∨ ∃ bs, d = .bytes bs ∧ pageGood bs = false) ∧ x = none) →
      ∃ t, exec .logScanPageRead s = .next t ∧
        t.inner = { s with store := { s.store with
          pointer := s.store.pointer + 1
          directory := s.store.directory ++ [x]
          skipped := if x = none then s.store.skipped + 1 else s.store.skipped
          scanEnded := decide (8192 ≤ s.store.pointer + 1) } }.inner ∧ NoReply s t ∧
        Silent s t)

/-- The scan completes. The new session is 1 when no good page was found, else one more than the
largest session found, and 1 when that is 65,535; its last log index is the largest found for it, or 0
(section 8.8). Its SESSION page is written at the pointer, or once more at the page after a bad one, and
the store becomes READY; with no page left for it the store is LOG_FULL, and with a second bad page
FAULT, either announced by a STORE notice. STARTED announces the session in every case. With no tally
active nothing opens. That the command carries both read-backs of the page is log entry 25, and that the
pointer and the skipped count travel as counts of 2 bytes is log entry 15: the model's own. -/
def Obligations.ScanCompletes : Prop :=
  ∀ (first second : Bool) (s : State), s.store.scanEnded = true → s.store.scanned = false →
    (∀ i d, s.dev i = some d → s.tallies d = false) →
    (∀ h, some h ∈ s.store.directory → h.session ≤ 65535) →
    ∃ t, exec (.scanComplete first second) s = .next t ∧ t.store.scanned = true ∧
      ((∀ h, some h ∉ s.store.directory) → t.store.session = 1) ∧
      (∀ g, some g ∈ s.store.directory →
        (∀ h, some h ∈ s.store.directory → h.session ≤ g.session) →
        t.store.session = if g.session = 65535 then 1 else g.session + 1) ∧
      1 ≤ t.store.session ∧ t.store.session ≤ 65535 ∧
      ((∀ h, some h ∈ s.store.directory → h.session < t.store.session) ∨
        (t.store.session = 1 ∧ ∃ h, some h ∈ s.store.directory ∧ h.session = 65535)) ∧
      (∀ h, some h ∈ s.store.directory → h.session = t.store.session →
        h.index ≤ t.takes.lastIndex) ∧
      (t.takes.lastIndex ≠ 0 → ∃ h, some h ∈ s.store.directory ∧ h.session = t.store.session ∧
        h.index = t.takes.lastIndex) ∧
      t.units = s.units ∧ t.slots = s.slots ∧ t.flash.settings = s.flash.settings ∧
      t.inner = { s with
        store := t.store
        flash := t.flash
        takes := { s.takes with lastIndex := t.takes.lastIndex } }.inner ∧
      (first = true → s.store.pointer < 8192 →
        t.store.state = .ready ∧ t.store.pointer = s.store.pointer + 1 ∧
        t.store.skipped = s.store.skipped ∧
        (∃ p, readPage t.flash.log s.store.pointer = some (.bytes p) ∧ pageGood p = true ∧
          (pageHeader p).kind = 1 ∧ (pageHeader p).session = t.store.session ∧
          t.store.directory = s.store.directory ++ [some (pageHeader p)]) ∧
        (∀ k, k ≠ s.store.pointer → readPage t.flash.log k = readPage s.flash.log k) ∧
        NoReply s t ∧
        Raised s t 0x41 [fSession t.store.session, fFlag s.store.loaded, fCount t.store.pointer,
          fCount s.store.skipped, fByte 1]) ∧
      (first = false → second = true → s.store.pointer + 1 < 8192 →
        t.store.state = .ready ∧ t.store.pointer = s.store.pointer + 2 ∧
        t.store.skipped = s.store.skipped + 1 ∧
        readPage t.flash.log s.store.pointer = some .damaged ∧
        (∃ p, readPage t.flash.log (s.store.pointer + 1) = some (.bytes p) ∧ pageGood p = true ∧
          (pageHeader p).kind = 1 ∧ (pageHeader p).session = t.store.session ∧
          t.store.directory = s.store.directory ++ [none, some (pageHeader p)]) ∧
        NoReply s t ∧
        Raised s t 0x41 [fSession t.store.session, fFlag s.store.loaded, fCount t.store.pointer,
          fCount t.store.skipped, fByte 1]) ∧
      (8192 ≤ s.store.pointer → t.store.state = .logFull ∧
        t.store.pointer = s.store.pointer ∧ t.flash = s.flash) ∧
      (first = false → s.store.pointer + 1 = 8192 → t.store.state = .logFull ∧
        t.store.pointer = 8192 ∧ readPage t.flash.log s.store.pointer = some .damaged) ∧
      (first = false → second = false → s.store.pointer + 1 < 8192 → t.store.state = .fault ∧
        t.store.pointer = s.store.pointer + 2) ∧
      (t.store.state ≠ .ready → s.notices.length < 15 → ∃ m1 m2,
        t.announced = s.announced ++ [m1, m2] ∧ m1.kind = 0x4B ∧ m2.kind = 0x41)

/-! ### Conform and export -/

/-- A conform query with scope TABLE is answered at once, over the session's records in the table in
descending log index. WHERE_IS: OK with the first match and the flag of a second, NOT_FOUND with none;
naming a log index, over that record alone, NO_TAKE with none. AT_TICK: OK with up to four of the
records that span the tick and the flag of a fifth, NOT_FOUND with none. An OPEN record runs to the
house time of the query. The query occupies its port's context until the reply is sent, and changes
nothing else (sections 9.1, 9.2, 9.5). That scope byte 0 is TABLE is log entry 45, and how a record's
take fields, its open flag and the segment used travel is log entry 44: the model's readings. -/
def Obligations.ConformAnswersTable : Prop :=
  ∀ (q : Req) (session slot tick rate : Nat) (l : Label) (rs : List TakeRecord) (s : State),
    Taken s q → (s.port q.port).conform = .idle → s.settled → 1 ≤ session → session ≤ 65535 →
    (s.takes.entries.toList.filterMap (Option.map Entry.copy)).filter
      (fun r => decide (r.session = session)) = rs →
    (slot < 32 → 1 ≤ rate → rate ≤ 17 → labelHolds l = true → labelOk rate l = true →
      (∃ t, exec (.whereIs q ⟨session, slot, l, 0, some rate, none⟩) s = .next t ∧
        t.inner = (s.modPort q.port fun x => { x with conform := .answered }).inner ∧
        Silent s t ∧
        t.outgoing (otherPort q.port) = s.outgoing (otherPort q.port) ∧
        (rs = [] → t.outgoing q.port = s.outgoing q.port ++
          [⟨replyMessage 0x1B q.tag .notFound [], true, true⟩]) ∧
        (∀ r i, rs = [r] → r.state ≠ .opened →
          r.whereInstant slot (frameOf rate l) rate s.houseTime = some i →
          t.outgoing q.port = s.outgoing q.port ++ [⟨replyMessage 0x1B q.tag .ok
            ((Match.mk r i none).whereFields s.house false), true, true⟩]) ∧
        (∀ (order : List TakeRecord) (ms : List Match), order.Perm rs → order.Pairwise (fun x y => y.index < x.index) →
          ms = order.filterMap (fun r =>
            (r.whereInstant slot (frameOf rate l) rate s.houseTime).map fun i =>
              Match.mk r i (if r.state = .opened then some s.houseTime else none)) →
          (ms = [] → t.outgoing q.port = s.outgoing q.port ++
            [⟨replyMessage 0x1B q.tag .notFound [], true, true⟩]) ∧
          (∀ m rest, ms = m :: rest → t.outgoing q.port = s.outgoing q.port ++
            [⟨replyMessage 0x1B q.tag .ok (m.whereFields s.house (decide (rest ≠ []))),
              true, true⟩]))) ∧
      (∀ ix, 1 ≤ ix → ix ≤ 4294967295 →
        ∃ t, exec (.whereIs q ⟨session, slot, l, 0, some rate, some ix⟩) s = .next t ∧
          t.inner = (s.modPort q.port fun x => { x with conform := .answered }).inner ∧
          Silent s t ∧
          t.outgoing (otherPort q.port) = s.outgoing (otherPort q.port) ∧
          ((∀ r ∈ rs, r.index ≠ ix) → t.outgoing q.port = s.outgoing q.port ++
            [⟨replyMessage 0x1B q.tag .noTake [], true, true⟩]) ∧
          (∀ r ∈ rs, r.index = ix → (∀ y ∈ rs, y.index = ix → y = r) →
            (r.whereInstant slot (frameOf rate l) rate s.houseTime = none →
              t.outgoing q.port = s.outgoing q.port ++
                [⟨replyMessage 0x1B q.tag .notFound [], true, true⟩]) ∧
            (∀ i, r.whereInstant slot (frameOf rate l) rate s.houseTime = some i →
              t.outgoing q.port = s.outgoing q.port ++ [⟨replyMessage 0x1B q.tag .ok
                ((Match.mk r i (if r.state = .opened then some s.houseTime else none)).whereFields
                  s.house false), true, true⟩])))) ∧
    (tick ≤ maxHouseTime → ∃ t, exec (.atTick q ⟨session, tick, 0⟩) s = .next t ∧
      t.inner = (s.modPort q.port fun x => { x with conform := .answered }).inner ∧
      Silent s t ∧
      t.outgoing (otherPort q.port) = s.outgoing (otherPort q.port) ∧
      (rs = [] → t.outgoing q.port = s.outgoing q.port ++
        [⟨replyMessage 0x1C q.tag .notFound [], true, true⟩]) ∧
      (∀ r fin, rs = [r] → r.state ≠ .opened → r.endTick = some fin → r.startTick ≤ tick →
        tick ≤ fin → t.outgoing q.port = s.outgoing q.port ++ [⟨replyMessage 0x1C q.tag .ok
          (fByte 1 :: ((Match.mk r tick none).takeFields ++ (Match.mk r tick none).placeFields) ++
            [fByte 0]), true, true⟩]) ∧
      (∀ (order : List TakeRecord) (ms : List Match), order.Perm rs → order.Pairwise (fun x y => y.index < x.index) →
        (∀ r ∈ rs, r.state = .opened ∨ ∃ fin, r.endTick = some fin) →
        ms = (order.filter (fun r => decide (r.startTick ≤ tick ∧
          tick ≤ (if r.state = .opened then s.houseTime else r.endTick.getD 0)))).map (fun r =>
            Match.mk r tick (if r.state = .opened then some s.houseTime else none)) →
        (ms = [] → t.outgoing q.port = s.outgoing q.port ++
          [⟨replyMessage 0x1C q.tag .notFound [], true, true⟩]) ∧
        (ms ≠ [] → t.outgoing q.port = s.outgoing q.port ++ [⟨replyMessage 0x1C q.tag .ok
          (fByte (min ms.length 4) :: (ms.take 4).flatMap (fun m => m.takeFields ++ m.placeFields) ++
            [fByte (if 4 < ms.length then 1 else 0)]), true, true⟩])))

/-- A wired entry always has a source instant: the start of a frame that shows the label frame asked,
and the first such from the frame at the take's start on (sections 1.4, 9.3). -/
def Obligations.WiredInstantShowsLabel : Prop :=
  ∀ (p : Participant) (start fin n : Nat), p.isRadio = false → 1 ≤ p.rate →
    p.rate ≤ 17 → n < dayOf p.rate → ∃ t : Int,
    p.instant start (wiredFrame p.rate p.phase p.origin start) fin n = some t ∧
    (t + p.phase) % periodOf p.rate = 0 ∧ wiredFrame p.rate p.phase p.origin t = n ∧
    (start : Int) < t + periodOf p.rate ∧
    ∀ t' : Int, (start : Int) < t' + periodOf p.rate → (t' + p.phase) % periodOf p.rate = 0 →
      wiredFrame p.rate p.phase p.origin t' = n → t ≤ t'

/-- An accepted EXPORT_TAKES starts a count over its range and answers with it; CANCEL_EXPORT is
NOT_FOUND with no export, and ends one that has no message on the way (sections 10.2, 10.6). That the
range is answered as one optional field followed by the number of indices is the model's reading (log
entry 15). -/
def Obligations.ExportStartsAndCancels : Prop :=
  ∀ (q : Req) (a : ExportArgs) (s : State), Taken s q → q.port = .suite →
    (exportArgsOk a = true → 1 ≤ a.count → s.store.scanned = true → s.exporter.phase = .idle →
      s.settled → ∃ t, exec (.exportTakes q a) s = .next t ∧ t.exporter.phase ≠ .idle ∧
        t.exporter.tag = q.tag ∧ t.exporter.session = a.session ∧
        t.exporter.range = some (a.start, a.start + a.count - 1) ∧
        t.exporter.blockSize = a.blockSize ∧ t.exporter.follow = a.follow ∧
        t.takes = s.takes ∧ t.flash = s.flash ∧ t.units = s.units ∧ Silent s t ∧
        Answered s t q 0x1D .ok [fByte 1, fIndex a.start, fIndex (a.start + a.count - 1),
          fLong a.count]) ∧
    (s.exporter.phase = .idle → ∃ t, exec (.cancelExport q) s = .next t ∧ t.inner = s.inner ∧
      Silent s t ∧ Answered s t q 0x1E .notFound []) ∧
    (s.exporter.phase ≠ .idle → s.exporter.cancel = none → s.exporter.handed = none →
      ∃ t, exec (.cancelExport q) s = .next t ∧ t.exporter = .reset ∧
        (∀ x ∈ t.store.reads, x.client ≠ .exporter) ∧ t.takes = s.takes ∧ t.flash = s.flash ∧
        Silent s t ∧
        Answered s t q 0x1E .ok [fByte s.exporter.tag, fCount s.exporter.lastSent])

/-- A block sent enters its takes in the indices sent and its number as the last sent; the final one
of an export that does not follow ends it, and a cancel that waits for the block ends the export and
is answered with its tag and the block's number (sections 10.3, 10.6). In the follow phase the head of
the queue goes out as a follow block of one take with the losses counted, and a head found nowhere is
counted among them (section 10.4). A take of the session that closes outside the range still to be
examined joins the queue (section 10.4), and an amendment of a take already sent the list of those to
be handed (section 10.5). That the amendment holds an absent note as a text of 0 characters is the
model's reading (log entry 50). -/
def Obligations.ExportEnds : Prop :=
  (∀ (tag : Nat) (b : Block) (s : State), s.suite.tx = some (.exported (.block tag b)) →
    s.exporter.handed = some (.block tag b) → s.settled →
    (b.final = true → s.exporter.follow = false → s.exporter.cancel = none →
      ∃ t, exec (.messageSent .suite) s = .next t ∧
        t.inner = { s with exporter := .reset }.inner ∧ NoReply s t ∧ Silent s t) ∧
    (∀ c, s.exporter.cancel = some c → ∃ t, exec (.messageSent .suite) s = .next t ∧
      t.inner = { s with exporter := .reset }.inner ∧ Silent s t ∧
      t.outgoing .suite = s.outgoing .suite ++ [⟨replyMessage 0x1E c .ok
        [fByte s.exporter.tag, fCount b.seq], true, false⟩]) ∧
    (b.final = false → s.exporter.cancel = none →
      ∃ t, exec (.messageSent .suite) s = .next t ∧
        t.exporter.sent = s.exporter.sent ++ b.takes.map TakeRecord.index ∧
        t.exporter.lastSent = b.seq ∧ t.exporter.tag = s.exporter.tag ∧ t.takes = s.takes ∧
        t.flash = s.flash ∧ NoReply s t ∧ Silent s t) ∧
    (∀ i, s.exporter.phase = .following → s.exporter.follow = true → s.exporter.cancel = none →
      s.exporter.reading = none → s.exporter.formed = none → s.exporter.amendments = [] →
      s.exporter.queue = [i] →
      (∀ e, s.findTake s.exporter.session i = some e →
        ∃ t, exec (.messageSent .suite) s = .next t ∧
          t.inner = { s with exporter := { s.exporter with
            sent := s.exporter.sent ++ b.takes.map TakeRecord.index
            lastSent := b.seq
            queue := []
            losses := 0
            seq := if s.exporter.seq = 65535 then 1 else s.exporter.seq + 1
            handed := some (.block s.exporter.tag
              ⟨s.exporter.seq, true, [e.copy], 0, false, 0, 0, s.exporter.losses⟩) } }.inner ∧
          NoReply s t ∧ Silent s t) ∧
      (s.findTake s.exporter.session i = none →
        completePages s.store.directory s.exporter.session i = none →
        s.exporter.losses < 65535 →
        ∃ t, exec (.messageSent .suite) s = .next t ∧
          t.inner = { s with exporter := { s.exporter with
            handed := none
            sent := s.exporter.sent ++ b.takes.map TakeRecord.index
            lastSent := b.seq
            queue := []
            losses := s.exporter.losses + 1 } }.inner ∧ NoReply s t ∧ Silent s t))) ∧
  (∀ (q : Req) (ix : Nat) (e : Entry) (s : State), Taken s q → q.port = .control → s.settled →
    s.findTake s.store.session ix = some e → s.exporter.phase ≠ .idle →
    s.exporter.follow = true → s.exporter.cancel = none →
    s.exporter.session = s.store.session → s.exporter.handed ≠ none →
    s.exporter.formed ≠ none →
    (∀ u, u < 4 → (s.unit u).current = .logged s.store.session ix → e.copy.state = .opened →
      s.exporter.queue.length < 64 →
      (∀ a b, s.exporter.range = some (a, b) →
        ix < a ∨ b < ix ∨ ∃ l, s.exporter.last = some l ∧ ix ≤ l) →
      ∃ t, exec (.endTake q u) s = .next t ∧
        t.exporter = { s.exporter with queue := s.exporter.queue ++ [ix] }) ∧
    (∀ a after, a.fits = true → markChanges a = true → a.session = s.store.session →
      a.index = ix → 1 ≤ ix → ix ≤ s.takes.lastIndex → e.copy.state = .closed →
      ix ∈ s.exporter.sent → s.exporter.amendments.length < 16 →
      (∀ h ∈ s.exporter.amendments, h.amendment.session = s.store.session →
        h.amendment.index ≠ ix) →
      after = a.note.getD (e.copy.note.getD []) →
      ∃ t, exec (.markTake q a) s = .next t ∧
        t.exporter = { s.exporter with amendments := s.exporter.amendments ++ [HeldAmendment.mk
          (Amendment.mk s.store.session ix (some (a.circled.getD e.copy.circled))
            (some (a.falseStart.getD e.copy.falseStart)) (some after)) true] }))

/-! ### The ports -/

/-- The port's own checks, in their order, whatever the state of the part: with four requests
outstanding QUEUE_FULL; for an unknown kind, or a frame that says more follow, MALFORMED; for a class
that does not let the port in NOT_PERMITTED. Each is only answered (section 11.2). -/
def Obligations.PortRefusals : Prop :=
  ∀ (i : Instr) (q : Req) (k : Nat) (s : State), reqOf i = some q →
    ((s.port q.port).replies.filter fun r => !r.listed).length < 4 →
    ((∃ fs, requestFields i = some (k, fs)) ∨ i = .unknownRequest q k) →
    (4 ≤ (s.port q.port).outstanding.length → ∃ t, exec i s = .next t ∧ t.inner = s.inner ∧
      Silent s t ∧ t.outgoing q.port = s.outgoing q.port ++
        [⟨replyMessage k q.tag .queueFull [], false, false⟩]) ∧
    ((s.port q.port).outstanding.length < 4 → i = .unknownRequest q k → ∃ t, exec i s = .next t ∧
      t.inner = s.inner ∧ Silent s t ∧ t.outgoing q.port = s.outgoing q.port ++
        [⟨⟨0x20, q.tag, [fByte 1]⟩, false, false⟩]) ∧
    ((s.port q.port).outstanding.length < 4 → i ≠ .unknownRequest q k → q.more = true →
      ∃ t, exec i s = .next t ∧ t.inner = s.inner ∧ Silent s t ∧
        t.outgoing q.port = s.outgoing q.port ++
          [⟨replyMessage k q.tag .malformed [], false, false⟩]) ∧
    ((s.port q.port).outstanding.length < 4 → i ≠ .unknownRequest q k → q.more = false →
      i.wf = true → completeOk i = true → (classOf k).admits q.port = false →
      ∃ t, exec i s = .next t ∧ t.inner = s.inner ∧ Silent s t ∧
        t.outgoing q.port = s.outgoing q.port ++
          [⟨replyMessage k q.tag .notPermitted [], false, false⟩])

/-- In HUNT a byte that is no start byte is passed over and a start byte begins a frame; a gap
discards the frame being received. A frame received byte by byte only grows until its last byte, which
makes the port take the request it spells, exactly as that request's command is taken. A message sent
makes room for the oldest reply before any notice (sections 11.1, 11.2). -/
def Obligations.PortBytesAndSending : Prop :=
  ∀ (p : Port) (b : Byte) (rest : List Byte) (s : State),
    ((s.port p).rx = [] → b ≠ 0xA5 → ∃ t, exec (.portByteReceived p b true) s = .next t ∧
      t.inner = s.inner ∧ NoReply s t ∧ Silent s t) ∧
    ((s.port p).rx = [] → ∃ t, exec (.portByteReceived p 0xA5 true) s = .next t ∧
      t.inner = (s.modPort p fun x => { x with rx := [0xA5] }).inner ∧ NoReply s t ∧
      Silent s t) ∧
    ((s.port p).rx = 0xA5 :: rest → (∀ x ∈ rest, x ≠ 0xA5) → rest.length < 6 →
      ∃ t, exec (.frameGapTimeout p) s = .next t ∧
        t.inner = (s.modPort p fun x => { x with rx := [] }).inner ∧ NoReply s t ∧ Silent s t) ∧
    (∀ i q k fs, i.wf = true → reqOf i = some q → q.port = p → requestFields i = some (k, fs) →
      (encodeFields fs).length ≤ 1022 →
      (∀ n, n + 1 < (frameBytes k q.tag q.more (encodeFields fs)).length →
        (s.port p).rx = (frameBytes k q.tag q.more (encodeFields fs)).take n →
        (frameBytes k q.tag q.more (encodeFields fs))[n]? = some b →
        ∃ t, exec (.portByteReceived p b true) s = .next t ∧
          t.inner = (s.modPort p fun x => { x with rx :=
            (frameBytes k q.tag q.more (encodeFields fs)).take (n + 1) }).inner ∧
          NoReply s t ∧ Silent s t) ∧
      (frameBytes k q.tag q.more (encodeFields fs) = (s.port p).rx ++ [b] →
        (∃ t, exec (.portByteReceived p b true) s = .next t) ∧
        exec (.portByteReceived p b true) s =
          exec i (s.modPort p fun x => { x with rx := [] }))) ∧
    (∀ m r rs, (s.port p).tx = some (.notice m) → (s.port p).replies = r :: rs → s.settled →
      ∃ t, exec (.messageSent p) s = .next t ∧ (t.port p).tx = some (.reply r) ∧
        (t.port p).replies = rs ∧ t.notices = (if p = .suite ∧ s.control.tx = none ∧
          s.control.replies = [] then s.notices.tail else s.notices) ∧ t.inner = s.inner)

/-! ### Headlines -/

/-- Every well-formed request is read back, by the decoder of requests, from the frame body it is
written as (sections 11.4, 11.5). -/
def Obligations.RequestRoundTrip : Prop :=
  ∀ (i : Instr) (q : Req) (k : Nat) (fs : List Field), i.wf = true → reqOf i = some q →
    requestFields i = some (k, fs) →
    decodeRequest q.port ⟨k, q.more, q.tag, encodeFields fs⟩ = some i

/-- Every take record that its encoding can hold is read back from its bytes (section 11.5). -/
def Obligations.TakeRecordRoundTrip : Prop :=
  ∀ (r : TakeRecord), r.encodable = true → decodeTake (encodeTake r) = some r

/-- Every step keeps counter and origin in their ranges and the fraction below one tick
(sections 1.1, 2.3). -/
def Obligations.TimeStaysInRange : Prop :=
  ∀ (s t : State), s.timeOk = true → step s = .next t → t.timeOk = true

/-- Every step keeps the bounds of the notice queue and of the outstanding requests
(sections 11.2, 11.3). -/
def Obligations.PortsStayBounded : Prop :=
  ∀ (s t : State), s.portsOk = true → step s = .next t → t.portsOk = true

/-- Every step keeps every device's missed re-jam count at 0, 1 or 2, and at 2 exactly while it is
DRIFTING (section 6.6). -/
def Obligations.MissedCountsStay : Prop :=
  ∀ (s t : State), s.countsOk = true → step s = .next t → t.countsOk = true

/-- Every step keeps the log area in its canonical form (section 8.1). -/
def Obligations.FlashStaysCanonical : Prop :=
  ∀ (s t : State), s.flashOk = true → step s = .next t → t.flashOk = true

/-- The state after reset has every one of these bounds. -/
def Obligations.ResetIsSound : Prop :=
  State.reset.timeOk = true ∧ State.reset.portsOk = true ∧ State.reset.countsOk = true ∧
    State.reset.flashOk = true

/-- While a take is open, logged or UNLOGGED, no command but a reset steps the counter or changes the
house origin; and at any time only a reference edge or an origin boundary does (sections 2.5,
2.8). -/
def Obligations.TimeHeldInTake : Prop :=
  ∀ (c : Instr) (s t : State), exec c s = .next t →
    (∀ a b l e, c ≠ .reset a b l e) →
    (s.anyTakeOpen = true → t.clock = s.clock ∧ t.origin = s.origin) ∧
    ((∀ e, c ≠ .referenceEdge e) → c ≠ .originBoundary →
      t.clock = s.clock ∧ t.origin = s.origin) ∧
    (s.clock.counter ≤ maxCounter → s.clock.counter ≤ t.clock.counter)
end

