-- ==== Sys2Proof/Laws/Flash.lean ====
section
/-!
SUPPORT. The flash's log area: reading after a write, and its canonical form kept by every operation
on it (a page written, pages erased).
-/

namespace Sys2Proof.Machine

/-- The canonical form, as a proposition. -/
theorem logWf_iff (log : List (Nat × PageData)) :
    logWf log = true ↔ log.Pairwise (fun a b => a.1 < b.1) ∧
      ∀ x ∈ log, x.1 < 8192 ∧ x.2 ≠ .bytes blankPage := by
  simp [logWf]

/-- A page written reads back as written. -/
theorem readPage_writePage_same (page : Nat) (d : PageData) (log : List (Nat × PageData)) :
    readPage (writePage page d log) page = some d := by
  induction log with
  | nil => simp [writePage, readPage]
  | cons x xs ih =>
    unfold writePage
    split
    · simp [readPage]
    · split
      · simp [readPage]
      · rename_i h1 h2
        have hx : ¬ x.1 = page := fun h => h2 h.symm
        simpa [readPage, hx] using ih

/-- A write leaves every other page alone. -/
theorem readPage_writePage_other (page other : Nat) (d : PageData) (log : List (Nat × PageData))
    (h : other ≠ page) : readPage (writePage page d log) other = readPage log other := by
  have hp : ¬ page = other := fun e => h e.symm
  induction log with
  | nil => simp [writePage, readPage, hp]
  | cons x xs ih =>
    unfold writePage
    split
    · simp [readPage, hp]
    · split
      · rename_i _ h2
        have hx : ¬ x.1 = other := fun e => h (by rw [← e, ← h2])
        simp [readPage, hp, hx]
      · by_cases hx : x.1 = other
        · simp [readPage, hx]
        · simpa [readPage, hx] using ih

/-- What a write lists: the page written, and the entries that were listed. -/
theorem mem_writePage (page : Nat) (d : PageData) (log : List (Nat × PageData))
    (x : Nat × PageData) (h : x ∈ writePage page d log) : x = (page, d) ∨ x ∈ log := by
  induction log with
  | nil => simpa [writePage] using h
  | cons y ys ih =>
    unfold writePage at h
    split at h
    · simpa using h
    · split at h
      · rcases List.mem_cons.mp h with h | h
        · exact .inl h
        · exact .inr (List.mem_cons_of_mem _ h)
      · rcases List.mem_cons.mp h with h | h
        · exact .inr (by simp [h])
        · rcases ih h with h | h
          · exact .inl h
          · exact .inr (List.mem_cons_of_mem _ h)

/-- A write keeps the page numbers rising. -/
theorem pairwise_writePage (page : Nat) (d : PageData) (log : List (Nat × PageData))
    (h : log.Pairwise fun a b => a.1 < b.1) :
    (writePage page d log).Pairwise fun a b => a.1 < b.1 := by
  induction log with
  | nil => simp [writePage]
  | cons y ys ih =>
    obtain ⟨h1, h2⟩ := List.pairwise_cons.mp h
    unfold writePage
    split
    · rename_i hl
      refine List.pairwise_cons.mpr ⟨fun z hz => ?_, h⟩
      rcases List.mem_cons.mp hz with hz | hz
      · simpa [hz] using hl
      · exact Nat.lt_trans hl (h1 z hz)
    · split
      · rename_i _ he
        exact List.pairwise_cons.mpr ⟨fun z hz => by simpa [he] using h1 z hz, h2⟩
      · refine List.pairwise_cons.mpr ⟨fun z hz => ?_, ih h2⟩
        rcases mem_writePage page d ys z hz with hz | hz
        · simp only [hz]; omega
        · exact h1 z hz

/-- A page written in the log area, with content that is not blank, keeps the canonical form. -/
theorem logWf_writePage (page : Nat) (d : PageData) (log : List (Nat × PageData))
    (h : logWf log = true) (hp : page < 8192) (hd : d ≠ .bytes blankPage) :
    logWf (writePage page d log) = true := by
  rw [logWf_iff] at h ⊢
  refine ⟨pairwise_writePage page d log h.1, fun x hx => ?_⟩
  rcases mem_writePage page d log x hx with hx | hx
  · rw [hx]; exact ⟨hp, hd⟩
  · exact h.2 x hx

/-- Erasing pages keeps the canonical form. -/
theorem logWf_filter (f : Nat × PageData → Bool) (log : List (Nat × PageData))
    (h : logWf log = true) : logWf (log.filter f) = true := by
  rw [logWf_iff] at h ⊢
  exact ⟨h.1.filter f, fun x hx => h.2 x (List.mem_filter.mp hx).1⟩

end Sys2Proof.Machine
end

