-- ==== Sys2Proof/Laws/State.lean ====
section
/-!
SUPPORT. What each plain update of the state leaves alone, one lemma per field, true by unfolding, and
the fields that the ports' operations leave alone.
-/

namespace Sys2Proof.Machine

variable (s : State)

/-! ### setDev -/

@[simp] theorem State.setDev_pending (i : Nat) (d : Option Device) : (s.setDev i d).pending = s.pending := rfl
@[simp] theorem State.setDev_clock (i : Nat) (d : Option Device) : (s.setDev i d).clock = s.clock := rfl
@[simp] theorem State.setDev_ref (i : Nat) (d : Option Device) : (s.setDev i d).ref = s.ref := rfl
@[simp] theorem State.setDev_origin (i : Nat) (d : Option Device) : (s.setDev i d).origin = s.origin := rfl
@[simp] theorem State.setDev_house (i : Nat) (d : Option Device) : (s.setDev i d).house = s.house := rfl
@[simp] theorem State.setDev_lines (i : Nat) (d : Option Device) : (s.setDev i d).lines = s.lines := rfl
@[simp] theorem State.setDev_profiles (i : Nat) (d : Option Device) : (s.setDev i d).profiles = s.profiles := rfl
@[simp] theorem State.setDev_radio (i : Nat) (d : Option Device) : (s.setDev i d).radio = s.radio := rfl
@[simp] theorem State.setDev_marks (i : Nat) (d : Option Device) : (s.setDev i d).marks = s.marks := rfl
@[simp] theorem State.setDev_units (i : Nat) (d : Option Device) : (s.setDev i d).units = s.units := rfl
@[simp] theorem State.setDev_takes (i : Nat) (d : Option Device) : (s.setDev i d).takes = s.takes := rfl
@[simp] theorem State.setDev_store (i : Nat) (d : Option Device) : (s.setDev i d).store = s.store := rfl
@[simp] theorem State.setDev_flash (i : Nat) (d : Option Device) : (s.setDev i d).flash = s.flash := rfl
@[simp] theorem State.setDev_lineRate (i : Nat) (d : Option Device) : (s.setDev i d).lineRate = s.lineRate := rfl
@[simp] theorem State.setDev_control (i : Nat) (d : Option Device) : (s.setDev i d).control = s.control := rfl
@[simp] theorem State.setDev_suite (i : Nat) (d : Option Device) : (s.setDev i d).suite = s.suite := rfl
@[simp] theorem State.setDev_notices (i : Nat) (d : Option Device) : (s.setDev i d).notices = s.notices := rfl
@[simp] theorem State.setDev_lost (i : Nat) (d : Option Device) : (s.setDev i d).lost = s.lost := rfl
@[simp] theorem State.setDev_exporter (i : Nat) (d : Option Device) : (s.setDev i d).exporter = s.exporter := rfl

/-! ### modLine -/

@[simp] theorem State.modLine_pending (i : Nat) (f : Line → Line) : (s.modLine i f).pending = s.pending := rfl
@[simp] theorem State.modLine_clock (i : Nat) (f : Line → Line) : (s.modLine i f).clock = s.clock := rfl
@[simp] theorem State.modLine_ref (i : Nat) (f : Line → Line) : (s.modLine i f).ref = s.ref := rfl
@[simp] theorem State.modLine_origin (i : Nat) (f : Line → Line) : (s.modLine i f).origin = s.origin := rfl
@[simp] theorem State.modLine_house (i : Nat) (f : Line → Line) : (s.modLine i f).house = s.house := rfl
@[simp] theorem State.modLine_slots (i : Nat) (f : Line → Line) : (s.modLine i f).slots = s.slots := rfl
@[simp] theorem State.modLine_profiles (i : Nat) (f : Line → Line) : (s.modLine i f).profiles = s.profiles := rfl
@[simp] theorem State.modLine_radio (i : Nat) (f : Line → Line) : (s.modLine i f).radio = s.radio := rfl
@[simp] theorem State.modLine_marks (i : Nat) (f : Line → Line) : (s.modLine i f).marks = s.marks := rfl
@[simp] theorem State.modLine_units (i : Nat) (f : Line → Line) : (s.modLine i f).units = s.units := rfl
@[simp] theorem State.modLine_takes (i : Nat) (f : Line → Line) : (s.modLine i f).takes = s.takes := rfl
@[simp] theorem State.modLine_store (i : Nat) (f : Line → Line) : (s.modLine i f).store = s.store := rfl
@[simp] theorem State.modLine_flash (i : Nat) (f : Line → Line) : (s.modLine i f).flash = s.flash := rfl
@[simp] theorem State.modLine_lineRate (i : Nat) (f : Line → Line) : (s.modLine i f).lineRate = s.lineRate := rfl
@[simp] theorem State.modLine_control (i : Nat) (f : Line → Line) : (s.modLine i f).control = s.control := rfl
@[simp] theorem State.modLine_suite (i : Nat) (f : Line → Line) : (s.modLine i f).suite = s.suite := rfl
@[simp] theorem State.modLine_notices (i : Nat) (f : Line → Line) : (s.modLine i f).notices = s.notices := rfl
@[simp] theorem State.modLine_lost (i : Nat) (f : Line → Line) : (s.modLine i f).lost = s.lost := rfl
@[simp] theorem State.modLine_exporter (i : Nat) (f : Line → Line) : (s.modLine i f).exporter = s.exporter := rfl

/-! ### setProfile -/

@[simp] theorem State.setProfile_pending (i : Nat) (p : Profile) : (s.setProfile i p).pending = s.pending := rfl
@[simp] theorem State.setProfile_clock (i : Nat) (p : Profile) : (s.setProfile i p).clock = s.clock := rfl
@[simp] theorem State.setProfile_ref (i : Nat) (p : Profile) : (s.setProfile i p).ref = s.ref := rfl
@[simp] theorem State.setProfile_origin (i : Nat) (p : Profile) : (s.setProfile i p).origin = s.origin := rfl
@[simp] theorem State.setProfile_house (i : Nat) (p : Profile) : (s.setProfile i p).house = s.house := rfl
@[simp] theorem State.setProfile_slots (i : Nat) (p : Profile) : (s.setProfile i p).slots = s.slots := rfl
@[simp] theorem State.setProfile_lines (i : Nat) (p : Profile) : (s.setProfile i p).lines = s.lines := rfl
@[simp] theorem State.setProfile_radio (i : Nat) (p : Profile) : (s.setProfile i p).radio = s.radio := rfl
@[simp] theorem State.setProfile_marks (i : Nat) (p : Profile) : (s.setProfile i p).marks = s.marks := rfl
@[simp] theorem State.setProfile_units (i : Nat) (p : Profile) : (s.setProfile i p).units = s.units := rfl
@[simp] theorem State.setProfile_takes (i : Nat) (p : Profile) : (s.setProfile i p).takes = s.takes := rfl
@[simp] theorem State.setProfile_store (i : Nat) (p : Profile) : (s.setProfile i p).store = s.store := rfl
@[simp] theorem State.setProfile_flash (i : Nat) (p : Profile) : (s.setProfile i p).flash = s.flash := rfl
@[simp] theorem State.setProfile_lineRate (i : Nat) (p : Profile) : (s.setProfile i p).lineRate = s.lineRate := rfl
@[simp] theorem State.setProfile_control (i : Nat) (p : Profile) : (s.setProfile i p).control = s.control := rfl
@[simp] theorem State.setProfile_suite (i : Nat) (p : Profile) : (s.setProfile i p).suite = s.suite := rfl
@[simp] theorem State.setProfile_notices (i : Nat) (p : Profile) : (s.setProfile i p).notices = s.notices := rfl
@[simp] theorem State.setProfile_lost (i : Nat) (p : Profile) : (s.setProfile i p).lost = s.lost := rfl
@[simp] theorem State.setProfile_exporter (i : Nat) (p : Profile) : (s.setProfile i p).exporter = s.exporter := rfl

/-! ### modUnit -/

@[simp] theorem State.modUnit_pending (u : Nat) (f : UnitRec → UnitRec) : (s.modUnit u f).pending = s.pending := rfl
@[simp] theorem State.modUnit_clock (u : Nat) (f : UnitRec → UnitRec) : (s.modUnit u f).clock = s.clock := rfl
@[simp] theorem State.modUnit_ref (u : Nat) (f : UnitRec → UnitRec) : (s.modUnit u f).ref = s.ref := rfl
@[simp] theorem State.modUnit_origin (u : Nat) (f : UnitRec → UnitRec) : (s.modUnit u f).origin = s.origin := rfl
@[simp] theorem State.modUnit_house (u : Nat) (f : UnitRec → UnitRec) : (s.modUnit u f).house = s.house := rfl
@[simp] theorem State.modUnit_slots (u : Nat) (f : UnitRec → UnitRec) : (s.modUnit u f).slots = s.slots := rfl
@[simp] theorem State.modUnit_lines (u : Nat) (f : UnitRec → UnitRec) : (s.modUnit u f).lines = s.lines := rfl
@[simp] theorem State.modUnit_profiles (u : Nat) (f : UnitRec → UnitRec) : (s.modUnit u f).profiles = s.profiles := rfl
@[simp] theorem State.modUnit_radio (u : Nat) (f : UnitRec → UnitRec) : (s.modUnit u f).radio = s.radio := rfl
@[simp] theorem State.modUnit_marks (u : Nat) (f : UnitRec → UnitRec) : (s.modUnit u f).marks = s.marks := rfl
@[simp] theorem State.modUnit_takes (u : Nat) (f : UnitRec → UnitRec) : (s.modUnit u f).takes = s.takes := rfl
@[simp] theorem State.modUnit_store (u : Nat) (f : UnitRec → UnitRec) : (s.modUnit u f).store = s.store := rfl
@[simp] theorem State.modUnit_flash (u : Nat) (f : UnitRec → UnitRec) : (s.modUnit u f).flash = s.flash := rfl
@[simp] theorem State.modUnit_lineRate (u : Nat) (f : UnitRec → UnitRec) : (s.modUnit u f).lineRate = s.lineRate := rfl
@[simp] theorem State.modUnit_control (u : Nat) (f : UnitRec → UnitRec) : (s.modUnit u f).control = s.control := rfl
@[simp] theorem State.modUnit_suite (u : Nat) (f : UnitRec → UnitRec) : (s.modUnit u f).suite = s.suite := rfl
@[simp] theorem State.modUnit_notices (u : Nat) (f : UnitRec → UnitRec) : (s.modUnit u f).notices = s.notices := rfl
@[simp] theorem State.modUnit_lost (u : Nat) (f : UnitRec → UnitRec) : (s.modUnit u f).lost = s.lost := rfl
@[simp] theorem State.modUnit_exporter (u : Nat) (f : UnitRec → UnitRec) : (s.modUnit u f).exporter = s.exporter := rfl

/-! ### post -/

@[simp] theorem State.post_pending (c : ReqClass) (i : Nat) (f : Option Nat) : (s.post c i f).pending = s.pending := rfl
@[simp] theorem State.post_clock (c : ReqClass) (i : Nat) (f : Option Nat) : (s.post c i f).clock = s.clock := rfl
@[simp] theorem State.post_ref (c : ReqClass) (i : Nat) (f : Option Nat) : (s.post c i f).ref = s.ref := rfl
@[simp] theorem State.post_origin (c : ReqClass) (i : Nat) (f : Option Nat) : (s.post c i f).origin = s.origin := rfl
@[simp] theorem State.post_house (c : ReqClass) (i : Nat) (f : Option Nat) : (s.post c i f).house = s.house := rfl
@[simp] theorem State.post_slots (c : ReqClass) (i : Nat) (f : Option Nat) : (s.post c i f).slots = s.slots := rfl
@[simp] theorem State.post_lines (c : ReqClass) (i : Nat) (f : Option Nat) : (s.post c i f).lines = s.lines := rfl
@[simp] theorem State.post_profiles (c : ReqClass) (i : Nat) (f : Option Nat) : (s.post c i f).profiles = s.profiles := rfl
@[simp] theorem State.post_marks (c : ReqClass) (i : Nat) (f : Option Nat) : (s.post c i f).marks = s.marks := rfl
@[simp] theorem State.post_units (c : ReqClass) (i : Nat) (f : Option Nat) : (s.post c i f).units = s.units := rfl
@[simp] theorem State.post_takes (c : ReqClass) (i : Nat) (f : Option Nat) : (s.post c i f).takes = s.takes := rfl
@[simp] theorem State.post_store (c : ReqClass) (i : Nat) (f : Option Nat) : (s.post c i f).store = s.store := rfl
@[simp] theorem State.post_flash (c : ReqClass) (i : Nat) (f : Option Nat) : (s.post c i f).flash = s.flash := rfl
@[simp] theorem State.post_lineRate (c : ReqClass) (i : Nat) (f : Option Nat) : (s.post c i f).lineRate = s.lineRate := rfl
@[simp] theorem State.post_control (c : ReqClass) (i : Nat) (f : Option Nat) : (s.post c i f).control = s.control := rfl
@[simp] theorem State.post_suite (c : ReqClass) (i : Nat) (f : Option Nat) : (s.post c i f).suite = s.suite := rfl
@[simp] theorem State.post_notices (c : ReqClass) (i : Nat) (f : Option Nat) : (s.post c i f).notices = s.notices := rfl
@[simp] theorem State.post_lost (c : ReqClass) (i : Nat) (f : Option Nat) : (s.post c i f).lost = s.lost := rfl
@[simp] theorem State.post_exporter (c : ReqClass) (i : Nat) (f : Option Nat) : (s.post c i f).exporter = s.exporter := rfl

/-! ### modTake -/

@[simp] theorem State.modTake_pending (a b : Nat) (f : Entry → Entry) : (s.modTake a b f).pending = s.pending := rfl
@[simp] theorem State.modTake_clock (a b : Nat) (f : Entry → Entry) : (s.modTake a b f).clock = s.clock := rfl
@[simp] theorem State.modTake_ref (a b : Nat) (f : Entry → Entry) : (s.modTake a b f).ref = s.ref := rfl
@[simp] theorem State.modTake_origin (a b : Nat) (f : Entry → Entry) : (s.modTake a b f).origin = s.origin := rfl
@[simp] theorem State.modTake_house (a b : Nat) (f : Entry → Entry) : (s.modTake a b f).house = s.house := rfl
@[simp] theorem State.modTake_slots (a b : Nat) (f : Entry → Entry) : (s.modTake a b f).slots = s.slots := rfl
@[simp] theorem State.modTake_lines (a b : Nat) (f : Entry → Entry) : (s.modTake a b f).lines = s.lines := rfl
@[simp] theorem State.modTake_profiles (a b : Nat) (f : Entry → Entry) : (s.modTake a b f).profiles = s.profiles := rfl
@[simp] theorem State.modTake_radio (a b : Nat) (f : Entry → Entry) : (s.modTake a b f).radio = s.radio := rfl
@[simp] theorem State.modTake_marks (a b : Nat) (f : Entry → Entry) : (s.modTake a b f).marks = s.marks := rfl
@[simp] theorem State.modTake_units (a b : Nat) (f : Entry → Entry) : (s.modTake a b f).units = s.units := rfl
@[simp] theorem State.modTake_store (a b : Nat) (f : Entry → Entry) : (s.modTake a b f).store = s.store := rfl
@[simp] theorem State.modTake_flash (a b : Nat) (f : Entry → Entry) : (s.modTake a b f).flash = s.flash := rfl
@[simp] theorem State.modTake_lineRate (a b : Nat) (f : Entry → Entry) : (s.modTake a b f).lineRate = s.lineRate := rfl
@[simp] theorem State.modTake_control (a b : Nat) (f : Entry → Entry) : (s.modTake a b f).control = s.control := rfl
@[simp] theorem State.modTake_suite (a b : Nat) (f : Entry → Entry) : (s.modTake a b f).suite = s.suite := rfl
@[simp] theorem State.modTake_notices (a b : Nat) (f : Entry → Entry) : (s.modTake a b f).notices = s.notices := rfl
@[simp] theorem State.modTake_lost (a b : Nat) (f : Entry → Entry) : (s.modTake a b f).lost = s.lost := rfl
@[simp] theorem State.modTake_exporter (a b : Nat) (f : Entry → Entry) : (s.modTake a b f).exporter = s.exporter := rfl

/-! ### requeue -/

@[simp] theorem State.requeue_pending (q : Request) : (s.requeue q).pending = s.pending := rfl
@[simp] theorem State.requeue_clock (q : Request) : (s.requeue q).clock = s.clock := rfl
@[simp] theorem State.requeue_ref (q : Request) : (s.requeue q).ref = s.ref := rfl
@[simp] theorem State.requeue_origin (q : Request) : (s.requeue q).origin = s.origin := rfl
@[simp] theorem State.requeue_house (q : Request) : (s.requeue q).house = s.house := rfl
@[simp] theorem State.requeue_slots (q : Request) : (s.requeue q).slots = s.slots := rfl
@[simp] theorem State.requeue_lines (q : Request) : (s.requeue q).lines = s.lines := rfl
@[simp] theorem State.requeue_profiles (q : Request) : (s.requeue q).profiles = s.profiles := rfl
@[simp] theorem State.requeue_marks (q : Request) : (s.requeue q).marks = s.marks := rfl
@[simp] theorem State.requeue_units (q : Request) : (s.requeue q).units = s.units := rfl
@[simp] theorem State.requeue_takes (q : Request) : (s.requeue q).takes = s.takes := rfl
@[simp] theorem State.requeue_store (q : Request) : (s.requeue q).store = s.store := rfl
@[simp] theorem State.requeue_flash (q : Request) : (s.requeue q).flash = s.flash := rfl
@[simp] theorem State.requeue_lineRate (q : Request) : (s.requeue q).lineRate = s.lineRate := rfl
@[simp] theorem State.requeue_control (q : Request) : (s.requeue q).control = s.control := rfl
@[simp] theorem State.requeue_suite (q : Request) : (s.requeue q).suite = s.suite := rfl
@[simp] theorem State.requeue_notices (q : Request) : (s.requeue q).notices = s.notices := rfl
@[simp] theorem State.requeue_lost (q : Request) : (s.requeue q).lost = s.lost := rfl
@[simp] theorem State.requeue_exporter (q : Request) : (s.requeue q).exporter = s.exporter := rfl

/-! ### dropRadio -/

@[simp] theorem State.dropRadio_pending (i : Nat) : (s.dropRadio i).pending = s.pending := rfl
@[simp] theorem State.dropRadio_clock (i : Nat) : (s.dropRadio i).clock = s.clock := rfl
@[simp] theorem State.dropRadio_ref (i : Nat) : (s.dropRadio i).ref = s.ref := rfl
@[simp] theorem State.dropRadio_origin (i : Nat) : (s.dropRadio i).origin = s.origin := rfl
@[simp] theorem State.dropRadio_house (i : Nat) : (s.dropRadio i).house = s.house := rfl
@[simp] theorem State.dropRadio_slots (i : Nat) : (s.dropRadio i).slots = s.slots := rfl
@[simp] theorem State.dropRadio_lines (i : Nat) : (s.dropRadio i).lines = s.lines := rfl
@[simp] theorem State.dropRadio_profiles (i : Nat) : (s.dropRadio i).profiles = s.profiles := rfl
@[simp] theorem State.dropRadio_marks (i : Nat) : (s.dropRadio i).marks = s.marks := rfl
@[simp] theorem State.dropRadio_units (i : Nat) : (s.dropRadio i).units = s.units := rfl
@[simp] theorem State.dropRadio_takes (i : Nat) : (s.dropRadio i).takes = s.takes := rfl
@[simp] theorem State.dropRadio_store (i : Nat) : (s.dropRadio i).store = s.store := rfl
@[simp] theorem State.dropRadio_flash (i : Nat) : (s.dropRadio i).flash = s.flash := rfl
@[simp] theorem State.dropRadio_lineRate (i : Nat) : (s.dropRadio i).lineRate = s.lineRate := rfl
@[simp] theorem State.dropRadio_control (i : Nat) : (s.dropRadio i).control = s.control := rfl
@[simp] theorem State.dropRadio_suite (i : Nat) : (s.dropRadio i).suite = s.suite := rfl
@[simp] theorem State.dropRadio_notices (i : Nat) : (s.dropRadio i).notices = s.notices := rfl
@[simp] theorem State.dropRadio_lost (i : Nat) : (s.dropRadio i).lost = s.lost := rfl
@[simp] theorem State.dropRadio_exporter (i : Nat) : (s.dropRadio i).exporter = s.exporter := rfl

/-! ### The ports' operations -/

@[simp] theorem State.modPort_pending (p : Port) (g : PortState → PortState) :
    (s.modPort p g).pending = s.pending := by
  cases p <;> rfl
@[simp] theorem State.modPort_clock (p : Port) (g : PortState → PortState) :
    (s.modPort p g).clock = s.clock := by
  cases p <;> rfl
@[simp] theorem State.modPort_ref (p : Port) (g : PortState → PortState) :
    (s.modPort p g).ref = s.ref := by
  cases p <;> rfl
@[simp] theorem State.modPort_origin (p : Port) (g : PortState → PortState) :
    (s.modPort p g).origin = s.origin := by
  cases p <;> rfl
@[simp] theorem State.modPort_house (p : Port) (g : PortState → PortState) :
    (s.modPort p g).house = s.house := by
  cases p <;> rfl
@[simp] theorem State.modPort_slots (p : Port) (g : PortState → PortState) :
    (s.modPort p g).slots = s.slots := by
  cases p <;> rfl
@[simp] theorem State.modPort_lines (p : Port) (g : PortState → PortState) :
    (s.modPort p g).lines = s.lines := by
  cases p <;> rfl
@[simp] theorem State.modPort_profiles (p : Port) (g : PortState → PortState) :
    (s.modPort p g).profiles = s.profiles := by
  cases p <;> rfl
@[simp] theorem State.modPort_radio (p : Port) (g : PortState → PortState) :
    (s.modPort p g).radio = s.radio := by
  cases p <;> rfl
@[simp] theorem State.modPort_marks (p : Port) (g : PortState → PortState) :
    (s.modPort p g).marks = s.marks := by
  cases p <;> rfl
@[simp] theorem State.modPort_units (p : Port) (g : PortState → PortState) :
    (s.modPort p g).units = s.units := by
  cases p <;> rfl
@[simp] theorem State.modPort_takes (p : Port) (g : PortState → PortState) :
    (s.modPort p g).takes = s.takes := by
  cases p <;> rfl
@[simp] theorem State.modPort_store (p : Port) (g : PortState → PortState) :
    (s.modPort p g).store = s.store := by
  cases p <;> rfl
@[simp] theorem State.modPort_flash (p : Port) (g : PortState → PortState) :
    (s.modPort p g).flash = s.flash := by
  cases p <;> rfl
@[simp] theorem State.modPort_lineRate (p : Port) (g : PortState → PortState) :
    (s.modPort p g).lineRate = s.lineRate := by
  cases p <;> rfl
@[simp] theorem State.modPort_exporter (p : Port) (g : PortState → PortState) :
    (s.modPort p g).exporter = s.exporter := by
  cases p <;> rfl
@[simp] theorem State.modPort_notices (p : Port) (g : PortState → PortState) :
    (s.modPort p g).notices = s.notices := by
  cases p <;> rfl
@[simp] theorem State.modPort_lost (p : Port) (g : PortState → PortState) :
    (s.modPort p g).lost = s.lost := by
  cases p <;> rfl
@[simp] theorem State.notify_pending (k : Nat) (b : List Field) : (s.notify k b).pending = s.pending := by
  unfold State.notify; split <;> rfl
@[simp] theorem State.notify_clock (k : Nat) (b : List Field) : (s.notify k b).clock = s.clock := by
  unfold State.notify; split <;> rfl
@[simp] theorem State.notify_ref (k : Nat) (b : List Field) : (s.notify k b).ref = s.ref := by
  unfold State.notify; split <;> rfl
@[simp] theorem State.notify_origin (k : Nat) (b : List Field) : (s.notify k b).origin = s.origin := by
  unfold State.notify; split <;> rfl
@[simp] theorem State.notify_house (k : Nat) (b : List Field) : (s.notify k b).house = s.house := by
  unfold State.notify; split <;> rfl
@[simp] theorem State.notify_slots (k : Nat) (b : List Field) : (s.notify k b).slots = s.slots := by
  unfold State.notify; split <;> rfl
@[simp] theorem State.notify_lines (k : Nat) (b : List Field) : (s.notify k b).lines = s.lines := by
  unfold State.notify; split <;> rfl
@[simp] theorem State.notify_profiles (k : Nat) (b : List Field) : (s.notify k b).profiles = s.profiles := by
  unfold State.notify; split <;> rfl
@[simp] theorem State.notify_radio (k : Nat) (b : List Field) : (s.notify k b).radio = s.radio := by
  unfold State.notify; split <;> rfl
@[simp] theorem State.notify_marks (k : Nat) (b : List Field) : (s.notify k b).marks = s.marks := by
  unfold State.notify; split <;> rfl
@[simp] theorem State.notify_units (k : Nat) (b : List Field) : (s.notify k b).units = s.units := by
  unfold State.notify; split <;> rfl
@[simp] theorem State.notify_takes (k : Nat) (b : List Field) : (s.notify k b).takes = s.takes := by
  unfold State.notify; split <;> rfl
@[simp] theorem State.notify_store (k : Nat) (b : List Field) : (s.notify k b).store = s.store := by
  unfold State.notify; split <;> rfl
@[simp] theorem State.notify_flash (k : Nat) (b : List Field) : (s.notify k b).flash = s.flash := by
  unfold State.notify; split <;> rfl
@[simp] theorem State.notify_lineRate (k : Nat) (b : List Field) : (s.notify k b).lineRate = s.lineRate := by
  unfold State.notify; split <;> rfl
@[simp] theorem State.notify_exporter (k : Nat) (b : List Field) : (s.notify k b).exporter = s.exporter := by
  unfold State.notify; split <;> rfl
@[simp] theorem State.notify_control (k : Nat) (b : List Field) : (s.notify k b).control = s.control := by
  unfold State.notify; split <;> rfl
@[simp] theorem State.notify_suite (k : Nat) (b : List Field) : (s.notify k b).suite = s.suite := by
  unfold State.notify; split <;> rfl
@[simp] theorem State.pump_pending : s.pump.pending = s.pending := by
  unfold State.pump State.pumpSuite State.pumpControl; dsimp only; split <;> split <;> rfl
@[simp] theorem State.pump_clock : s.pump.clock = s.clock := by
  unfold State.pump State.pumpSuite State.pumpControl; dsimp only; split <;> split <;> rfl
@[simp] theorem State.pump_ref : s.pump.ref = s.ref := by
  unfold State.pump State.pumpSuite State.pumpControl; dsimp only; split <;> split <;> rfl
@[simp] theorem State.pump_origin : s.pump.origin = s.origin := by
  unfold State.pump State.pumpSuite State.pumpControl; dsimp only; split <;> split <;> rfl
@[simp] theorem State.pump_house : s.pump.house = s.house := by
  unfold State.pump State.pumpSuite State.pumpControl; dsimp only; split <;> split <;> rfl
@[simp] theorem State.pump_slots : s.pump.slots = s.slots := by
  unfold State.pump State.pumpSuite State.pumpControl; dsimp only; split <;> split <;> rfl
@[simp] theorem State.pump_lines : s.pump.lines = s.lines := by
  unfold State.pump State.pumpSuite State.pumpControl; dsimp only; split <;> split <;> rfl
@[simp] theorem State.pump_profiles : s.pump.profiles = s.profiles := by
  unfold State.pump State.pumpSuite State.pumpControl; dsimp only; split <;> split <;> rfl
@[simp] theorem State.pump_radio : s.pump.radio = s.radio := by
  unfold State.pump State.pumpSuite State.pumpControl; dsimp only; split <;> split <;> rfl
@[simp] theorem State.pump_marks : s.pump.marks = s.marks := by
  unfold State.pump State.pumpSuite State.pumpControl; dsimp only; split <;> split <;> rfl
@[simp] theorem State.pump_units : s.pump.units = s.units := by
  unfold State.pump State.pumpSuite State.pumpControl; dsimp only; split <;> split <;> rfl
@[simp] theorem State.pump_takes : s.pump.takes = s.takes := by
  unfold State.pump State.pumpSuite State.pumpControl; dsimp only; split <;> split <;> rfl
@[simp] theorem State.pump_store : s.pump.store = s.store := by
  unfold State.pump State.pumpSuite State.pumpControl; dsimp only; split <;> split <;> rfl
@[simp] theorem State.pump_flash : s.pump.flash = s.flash := by
  unfold State.pump State.pumpSuite State.pumpControl; dsimp only; split <;> split <;> rfl
@[simp] theorem State.pump_lineRate : s.pump.lineRate = s.lineRate := by
  unfold State.pump State.pumpSuite State.pumpControl; dsimp only; split <;> split <;> rfl
@[simp] theorem State.pump_exporter : s.pump.exporter = s.exporter := by
  unfold State.pump State.pumpSuite State.pumpControl; dsimp only; split <;> split <;> rfl
@[simp] theorem State.reply_pending (p : Port) (k n : Nat) (st : Status) (l : List Field) :
    (s.reply p k n st l).pending = s.pending := s.modPort_pending p _
@[simp] theorem State.portReply_pending (p : Port) (k n : Nat) (st : Status) :
    (s.portReply p k n st).pending = s.pending := s.modPort_pending p _
@[simp] theorem State.enlist_pending (q : Req) (k : Nat) (x : Option Query) :
    (s.enlist q k x).pending = s.pending := s.modPort_pending q.port _
@[simp] theorem State.reply_clock (p : Port) (k n : Nat) (st : Status) (l : List Field) :
    (s.reply p k n st l).clock = s.clock := s.modPort_clock p _
@[simp] theorem State.portReply_clock (p : Port) (k n : Nat) (st : Status) :
    (s.portReply p k n st).clock = s.clock := s.modPort_clock p _
@[simp] theorem State.enlist_clock (q : Req) (k : Nat) (x : Option Query) :
    (s.enlist q k x).clock = s.clock := s.modPort_clock q.port _
@[simp] theorem State.reply_ref (p : Port) (k n : Nat) (st : Status) (l : List Field) :
    (s.reply p k n st l).ref = s.ref := s.modPort_ref p _
@[simp] theorem State.portReply_ref (p : Port) (k n : Nat) (st : Status) :
    (s.portReply p k n st).ref = s.ref := s.modPort_ref p _
@[simp] theorem State.enlist_ref (q : Req) (k : Nat) (x : Option Query) :
    (s.enlist q k x).ref = s.ref := s.modPort_ref q.port _
@[simp] theorem State.reply_origin (p : Port) (k n : Nat) (st : Status) (l : List Field) :
    (s.reply p k n st l).origin = s.origin := s.modPort_origin p _
@[simp] theorem State.portReply_origin (p : Port) (k n : Nat) (st : Status) :
    (s.portReply p k n st).origin = s.origin := s.modPort_origin p _
@[simp] theorem State.enlist_origin (q : Req) (k : Nat) (x : Option Query) :
    (s.enlist q k x).origin = s.origin := s.modPort_origin q.port _
@[simp] theorem State.reply_house (p : Port) (k n : Nat) (st : Status) (l : List Field) :
    (s.reply p k n st l).house = s.house := s.modPort_house p _
@[simp] theorem State.portReply_house (p : Port) (k n : Nat) (st : Status) :
    (s.portReply p k n st).house = s.house := s.modPort_house p _
@[simp] theorem State.enlist_house (q : Req) (k : Nat) (x : Option Query) :
    (s.enlist q k x).house = s.house := s.modPort_house q.port _
@[simp] theorem State.reply_slots (p : Port) (k n : Nat) (st : Status) (l : List Field) :
    (s.reply p k n st l).slots = s.slots := s.modPort_slots p _
@[simp] theorem State.portReply_slots (p : Port) (k n : Nat) (st : Status) :
    (s.portReply p k n st).slots = s.slots := s.modPort_slots p _
@[simp] theorem State.enlist_slots (q : Req) (k : Nat) (x : Option Query) :
    (s.enlist q k x).slots = s.slots := s.modPort_slots q.port _
@[simp] theorem State.reply_lines (p : Port) (k n : Nat) (st : Status) (l : List Field) :
    (s.reply p k n st l).lines = s.lines := s.modPort_lines p _
@[simp] theorem State.portReply_lines (p : Port) (k n : Nat) (st : Status) :
    (s.portReply p k n st).lines = s.lines := s.modPort_lines p _
@[simp] theorem State.enlist_lines (q : Req) (k : Nat) (x : Option Query) :
    (s.enlist q k x).lines = s.lines := s.modPort_lines q.port _
@[simp] theorem State.reply_profiles (p : Port) (k n : Nat) (st : Status) (l : List Field) :
    (s.reply p k n st l).profiles = s.profiles := s.modPort_profiles p _
@[simp] theorem State.portReply_profiles (p : Port) (k n : Nat) (st : Status) :
    (s.portReply p k n st).profiles = s.profiles := s.modPort_profiles p _
@[simp] theorem State.enlist_profiles (q : Req) (k : Nat) (x : Option Query) :
    (s.enlist q k x).profiles = s.profiles := s.modPort_profiles q.port _
@[simp] theorem State.reply_radio (p : Port) (k n : Nat) (st : Status) (l : List Field) :
    (s.reply p k n st l).radio = s.radio := s.modPort_radio p _
@[simp] theorem State.portReply_radio (p : Port) (k n : Nat) (st : Status) :
    (s.portReply p k n st).radio = s.radio := s.modPort_radio p _
@[simp] theorem State.enlist_radio (q : Req) (k : Nat) (x : Option Query) :
    (s.enlist q k x).radio = s.radio := s.modPort_radio q.port _
@[simp] theorem State.reply_marks (p : Port) (k n : Nat) (st : Status) (l : List Field) :
    (s.reply p k n st l).marks = s.marks := s.modPort_marks p _
@[simp] theorem State.portReply_marks (p : Port) (k n : Nat) (st : Status) :
    (s.portReply p k n st).marks = s.marks := s.modPort_marks p _
@[simp] theorem State.enlist_marks (q : Req) (k : Nat) (x : Option Query) :
    (s.enlist q k x).marks = s.marks := s.modPort_marks q.port _
@[simp] theorem State.reply_units (p : Port) (k n : Nat) (st : Status) (l : List Field) :
    (s.reply p k n st l).units = s.units := s.modPort_units p _
@[simp] theorem State.portReply_units (p : Port) (k n : Nat) (st : Status) :
    (s.portReply p k n st).units = s.units := s.modPort_units p _
@[simp] theorem State.enlist_units (q : Req) (k : Nat) (x : Option Query) :
    (s.enlist q k x).units = s.units := s.modPort_units q.port _
@[simp] theorem State.reply_takes (p : Port) (k n : Nat) (st : Status) (l : List Field) :
    (s.reply p k n st l).takes = s.takes := s.modPort_takes p _
@[simp] theorem State.portReply_takes (p : Port) (k n : Nat) (st : Status) :
    (s.portReply p k n st).takes = s.takes := s.modPort_takes p _
@[simp] theorem State.enlist_takes (q : Req) (k : Nat) (x : Option Query) :
    (s.enlist q k x).takes = s.takes := s.modPort_takes q.port _
@[simp] theorem State.reply_store (p : Port) (k n : Nat) (st : Status) (l : List Field) :
    (s.reply p k n st l).store = s.store := s.modPort_store p _
@[simp] theorem State.portReply_store (p : Port) (k n : Nat) (st : Status) :
    (s.portReply p k n st).store = s.store := s.modPort_store p _
@[simp] theorem State.enlist_store (q : Req) (k : Nat) (x : Option Query) :
    (s.enlist q k x).store = s.store := s.modPort_store q.port _
@[simp] theorem State.reply_flash (p : Port) (k n : Nat) (st : Status) (l : List Field) :
    (s.reply p k n st l).flash = s.flash := s.modPort_flash p _
@[simp] theorem State.portReply_flash (p : Port) (k n : Nat) (st : Status) :
    (s.portReply p k n st).flash = s.flash := s.modPort_flash p _
@[simp] theorem State.enlist_flash (q : Req) (k : Nat) (x : Option Query) :
    (s.enlist q k x).flash = s.flash := s.modPort_flash q.port _
@[simp] theorem State.reply_lineRate (p : Port) (k n : Nat) (st : Status) (l : List Field) :
    (s.reply p k n st l).lineRate = s.lineRate := s.modPort_lineRate p _
@[simp] theorem State.portReply_lineRate (p : Port) (k n : Nat) (st : Status) :
    (s.portReply p k n st).lineRate = s.lineRate := s.modPort_lineRate p _
@[simp] theorem State.enlist_lineRate (q : Req) (k : Nat) (x : Option Query) :
    (s.enlist q k x).lineRate = s.lineRate := s.modPort_lineRate q.port _
@[simp] theorem State.reply_exporter (p : Port) (k n : Nat) (st : Status) (l : List Field) :
    (s.reply p k n st l).exporter = s.exporter := s.modPort_exporter p _
@[simp] theorem State.portReply_exporter (p : Port) (k n : Nat) (st : Status) :
    (s.portReply p k n st).exporter = s.exporter := s.modPort_exporter p _
@[simp] theorem State.enlist_exporter (q : Req) (k : Nat) (x : Option Query) :
    (s.enlist q k x).exporter = s.exporter := s.modPort_exporter q.port _
@[simp] theorem State.reply_notices (p : Port) (k n : Nat) (st : Status) (l : List Field) :
    (s.reply p k n st l).notices = s.notices := s.modPort_notices p _
@[simp] theorem State.portReply_notices (p : Port) (k n : Nat) (st : Status) :
    (s.portReply p k n st).notices = s.notices := s.modPort_notices p _
@[simp] theorem State.enlist_notices (q : Req) (k : Nat) (x : Option Query) :
    (s.enlist q k x).notices = s.notices := s.modPort_notices q.port _
@[simp] theorem State.reply_lost (p : Port) (k n : Nat) (st : Status) (l : List Field) :
    (s.reply p k n st l).lost = s.lost := s.modPort_lost p _
@[simp] theorem State.portReply_lost (p : Port) (k n : Nat) (st : Status) :
    (s.portReply p k n st).lost = s.lost := s.modPort_lost p _
@[simp] theorem State.enlist_lost (q : Req) (k : Nat) (x : Option Query) :
    (s.enlist q k x).lost = s.lost := s.modPort_lost q.port _

end Sys2Proof.Machine
end

