-- ==== Sys2Proof/Laws/Ports.lean ====
section
/-!
SUPPORT. What the ports' operations do to the three views of Safety.lean, and what taking a request
comes to: each said once, so that no later proof unfolds the transmitter or the checks of R179.
-/

namespace Sys2Proof.Machine

variable (s : State)

/-! ### Everything else -/

@[simp] theorem State.inner_modPort (p : Port) (f : PortState → PortState)
    (h : ∀ x, (f x).still = x.still) : (s.modPort p f).inner = s.inner := by
  cases p <;> simp [State.modPort, State.inner, h]

@[simp] theorem State.inner_reply (p : Port) (k n : Nat) (st : Status) (l : List Field) :
    (s.reply p k n st l).inner = s.inner := s.inner_modPort p _ fun _ => rfl

@[simp] theorem State.inner_portReply (p : Port) (k n : Nat) (st : Status) :
    (s.portReply p k n st).inner = s.inner :=
  s.inner_modPort p _ fun _ => by split <;> rfl

@[simp] theorem State.inner_enlist (q : Req) (k : Nat) (x : Option Query) :
    (s.enlist q k x).inner = s.inner := s.inner_modPort q.port _ fun _ => rfl

@[simp] theorem State.inner_notify (k : Nat) (b : List Field) : (s.notify k b).inner = s.inner := by
  unfold State.notify; split <;> rfl

theorem PortState.still_sendReply (x : PortState) : x.sendReply.still = x.still := by
  unfold PortState.sendReply; split <;> rfl

@[simp] theorem State.inner_pumpControl : s.pumpControl.inner = s.inner := by
  have h := PortState.still_sendReply s.control
  unfold State.pumpControl State.inner
  simp only [PortState.still] at h ⊢
  split <;> simp_all

@[simp] theorem State.inner_pumpSuite : s.pumpSuite.inner = s.inner := by
  have h := PortState.still_sendReply s.suite
  unfold State.pumpSuite State.inner
  simp only [PortState.still] at h ⊢
  split <;> simp_all

/-- The transmitters' choice changes nothing but what is still to be sent. -/
@[simp] theorem State.inner_pump : s.pump.inner = s.inner := by simp [State.pump]

/-! ### Replies -/

/-- The replies of a port alone. -/
def PortState.outgoing (x : PortState) : List Reply :=
  (match x.tx with
    | some (.reply r) => [r]
    | _ => []) ++ x.replies

theorem State.outgoing_eq (p : Port) : s.outgoing p = (s.port p).outgoing := rfl

theorem PortState.outgoing_sendReply (x : PortState) : x.sendReply.outgoing = x.outgoing := by
  obtain ⟨rx, o, r, tx, c⟩ := x
  cases tx with
  | none => cases r <;> rfl
  | some m => rfl

theorem PortState.outgoing_setTx (x : PortState) (h : x.tx = none) (m : Outgoing)
    (hm : ∀ r, m ≠ .reply r) : PortState.outgoing { x with tx := some m } = x.outgoing := by
  unfold PortState.outgoing
  rw [h]
  cases m with
  | reply r => exact absurd rfl (hm r)
  | notice _ => rfl
  | exported _ => rfl

@[simp] theorem State.outgoing_pumpControl (p : Port) : s.pumpControl.outgoing p = s.outgoing p := by
  have h := PortState.outgoing_sendReply s.control
  unfold State.pumpControl
  dsimp only
  split
  · rename_i n ns ht hn
    cases p
    · exact (PortState.outgoing_setTx s.control.sendReply ht (.notice n.message)
        fun _ => by intro hc; cases hc).trans h
    · rfl
  · cases p
    · exact h
    · rfl

@[simp] theorem State.outgoing_pumpSuite (p : Port) : s.pumpSuite.outgoing p = s.outgoing p := by
  have h := PortState.outgoing_sendReply s.suite
  unfold State.pumpSuite
  dsimp only
  split
  · rename_i m ht hn
    cases p
    · rfl
    · exact (PortState.outgoing_setTx s.suite.sendReply ht (.exported m)
        fun _ => by intro hc; cases hc).trans h
  · cases p
    · rfl
    · exact h

/-- The transmitters' choice keeps what each port has still to answer. -/
@[simp] theorem State.outgoing_pump (p : Port) : s.pump.outgoing p = s.outgoing p := by
  simp [State.pump]

@[simp] theorem State.outgoing_notify (k : Nat) (b : List Field) (p : Port) :
    (s.notify k b).outgoing p = s.outgoing p := by
  cases p <;> simp [State.outgoing, State.port]

@[simp] theorem State.outgoing_enlist (q : Req) (k : Nat) (x : Option Query) (p : Port) :
    (s.enlist q k x).outgoing p = s.outgoing p := by
  obtain ⟨p', t, m⟩ := q
  cases p' <;> cases p <;> rfl

theorem State.outgoing_reply (p : Port) (k n : Nat) (st : Status) (l : List Field) :
    (s.reply p k n st l).outgoing p = s.outgoing p ++ [⟨replyMessage k n st l, true, false⟩] := by
  cases p <;> simp [State.reply, State.outgoing, State.modPort, State.port]

theorem State.outgoing_reply_other (p : Port) (k n : Nat) (st : Status) (l : List Field) :
    (s.reply p k n st l).outgoing (otherPort p) = s.outgoing (otherPort p) := by
  cases p <;> rfl

/-- What is still to be said depends on the two ports alone. -/
theorem State.outgoing_congr {s t : State} (hc : t.control = s.control) (hs : t.suite = s.suite)
    (p : Port) : t.outgoing p = s.outgoing p := by
  cases p <;> simp [State.outgoing, State.port, hc, hs]

/-! ### Notices -/

/-- What is still to be announced depends on the control port and the notice queue alone. -/
theorem State.announced_congr {s t : State} (hc : t.control = s.control)
    (hn : t.notices = s.notices) : t.announced = s.announced := by
  simp [State.announced, hc, hn]

theorem State.pumpSuite_control : s.pumpSuite.control = s.control := by
  unfold State.pumpSuite; dsimp only; split <;> rfl

theorem State.pumpSuite_notices : s.pumpSuite.notices = s.notices := by
  unfold State.pumpSuite; dsimp only; split <;> rfl

theorem State.announced_pumpControl : s.pumpControl.announced = s.announced := by
  unfold State.pumpControl State.announced PortState.sendReply
  cases ht : s.control.tx with
  | none =>
    cases hr : s.control.replies with
    | nil => cases s.notices <;> simp [ht, hr]
    | cons a l => simp
  | some m => simp [ht]

@[simp] theorem State.announced_pump : s.pump.announced = s.announced :=
  (State.announced_congr s.pumpControl.pumpSuite_control s.pumpControl.pumpSuite_notices).trans
    s.announced_pumpControl

@[simp] theorem State.lost_pump : s.pump.lost = s.lost := by
  unfold State.pump State.pumpSuite State.pumpControl
  dsimp only
  split <;> split <;> rfl

@[simp] theorem State.announced_modPort_suite (f : PortState → PortState) :
    (s.modPort .suite f).announced = s.announced := rfl

@[simp] theorem State.announced_reply (p : Port) (k n : Nat) (st : Status) (l : List Field) :
    (s.reply p k n st l).announced = s.announced := by
  cases p <;> rfl

@[simp] theorem State.announced_enlist (q : Req) (k : Nat) (x : Option Query) :
    (s.enlist q k x).announced = s.announced := by
  obtain ⟨p', t, m⟩ := q
  cases p' <;> rfl

/-- A notice raised (R182). -/
theorem State.raised_notify (k : Nat) (b : List Field) : Raised s (s.notify k b) k b := by
  unfold Raised State.notify State.announced
  refine ⟨fun h => ?_, fun h => ?_⟩
  · simp [h, Notice.message]
  · simp [Nat.not_lt.mpr h]

/-! ### Taking a request (R179) -/

/-- A request that its port takes reaches its owner, in the list. -/
theorem State.admit_taken {s : State} {q : Req} (h : Taken s q) (kind : Nat) {c : Class}
    (hc : c.admits q.port = true) (own : State → State) :
    s.admitted q kind c true own = own (s.enlist q kind) := by
  obtain ⟨h1, h2, h3⟩ := h
  have hn : ¬ 4 ≤ (s.port q.port).outstanding.length := by omega
  simp [State.admitted, State.admitWith, reqFits, hn, h2, hc, holds, h3]

/-- The list is full: the port answers QUEUE_FULL by itself. -/
theorem State.admitWith_full {s : State} {q : Req} (h : 4 ≤ (s.port q.port).outstanding.length)
    (kind : Nat) (c : Class) (layout : Bool) (own : State → State) :
    s.admitWith q kind c layout own = s.portReply q.port kind q.tag .queueFull := by
  simp [State.admitWith, h]

/-- The layout fits but the class does not admitted the port: NOT_PERMITTED. -/
theorem State.admitWith_refused {s : State} {q : Req} (h : Taken s q) (kind : Nat) {c : Class}
    (hc : c.admits q.port = false) (own : State → State) :
    s.admitWith q kind c true own = s.portReply q.port kind q.tag .notPermitted := by
  obtain ⟨h1, h2, h3⟩ := h
  have hn : ¬ 4 ≤ (s.port q.port).outstanding.length := by omega
  simp [State.admitWith, reqFits, hn, h2, hc, holds, h3]

/-- A request that ends in one reply: what the owner leaves, answered. -/
theorem answered_of_reply {s u : State} {q : Req} {kind : Nat} {st : Status} {l : List Field}
    (h : ∀ p, u.outgoing p = s.outgoing p) :
    Answered s (u.reply q.port kind q.tag st l).pump q kind st l := by
  refine ⟨?_, ?_⟩
  · rw [State.outgoing_pump, State.outgoing_reply, h]
  · rw [State.outgoing_pump, State.outgoing_reply_other, h]

end Sys2Proof.Machine
end

