-- ==== Sys2Proof/Laws/Frames.lean ====
section
/-!
SUPPORT. What the shared operations on devices, records and held re-jams leave alone, one lemma per
field.
-/

namespace Sys2Proof.Machine

variable (s : State)

/-! ### modLive -/

@[simp] theorem State.modLive_pending (i : Nat) (f : Live → Live) :
    (s.modLive i f).pending = s.pending := by
  unfold State.modLive; split <;> simp
@[simp] theorem State.modLive_clock (i : Nat) (f : Live → Live) :
    (s.modLive i f).clock = s.clock := by
  unfold State.modLive; split <;> simp
@[simp] theorem State.modLive_ref (i : Nat) (f : Live → Live) :
    (s.modLive i f).ref = s.ref := by
  unfold State.modLive; split <;> simp
@[simp] theorem State.modLive_origin (i : Nat) (f : Live → Live) :
    (s.modLive i f).origin = s.origin := by
  unfold State.modLive; split <;> simp
@[simp] theorem State.modLive_house (i : Nat) (f : Live → Live) :
    (s.modLive i f).house = s.house := by
  unfold State.modLive; split <;> simp
@[simp] theorem State.modLive_lines (i : Nat) (f : Live → Live) :
    (s.modLive i f).lines = s.lines := by
  unfold State.modLive; split <;> simp
@[simp] theorem State.modLive_profiles (i : Nat) (f : Live → Live) :
    (s.modLive i f).profiles = s.profiles := by
  unfold State.modLive; split <;> simp
@[simp] theorem State.modLive_radio (i : Nat) (f : Live → Live) :
    (s.modLive i f).radio = s.radio := by
  unfold State.modLive; split <;> simp
@[simp] theorem State.modLive_marks (i : Nat) (f : Live → Live) :
    (s.modLive i f).marks = s.marks := by
  unfold State.modLive; split <;> simp
@[simp] theorem State.modLive_units (i : Nat) (f : Live → Live) :
    (s.modLive i f).units = s.units := by
  unfold State.modLive; split <;> simp
@[simp] theorem State.modLive_takes (i : Nat) (f : Live → Live) :
    (s.modLive i f).takes = s.takes := by
  unfold State.modLive; split <;> simp
@[simp] theorem State.modLive_store (i : Nat) (f : Live → Live) :
    (s.modLive i f).store = s.store := by
  unfold State.modLive; split <;> simp
@[simp] theorem State.modLive_flash (i : Nat) (f : Live → Live) :
    (s.modLive i f).flash = s.flash := by
  unfold State.modLive; split <;> simp
@[simp] theorem State.modLive_lineRate (i : Nat) (f : Live → Live) :
    (s.modLive i f).lineRate = s.lineRate := by
  unfold State.modLive; split <;> simp
@[simp] theorem State.modLive_control (i : Nat) (f : Live → Live) :
    (s.modLive i f).control = s.control := by
  unfold State.modLive; split <;> simp
@[simp] theorem State.modLive_suite (i : Nat) (f : Live → Live) :
    (s.modLive i f).suite = s.suite := by
  unfold State.modLive; split <;> simp
@[simp] theorem State.modLive_notices (i : Nat) (f : Live → Live) :
    (s.modLive i f).notices = s.notices := by
  unfold State.modLive; split <;> simp
@[simp] theorem State.modLive_lost (i : Nat) (f : Live → Live) :
    (s.modLive i f).lost = s.lost := by
  unfold State.modLive; split <;> simp
@[simp] theorem State.modLive_exporter (i : Nat) (f : Live → Live) :
    (s.modLive i f).exporter = s.exporter := by
  unfold State.modLive; split <;> simp

/-! ### enter -/

@[simp] theorem State.enter_pending (i : Nat) (n : DevState) :
    (s.enter i n).pending = s.pending := by
  unfold State.enter; split <;> (try split) <;> simp
@[simp] theorem State.enter_clock (i : Nat) (n : DevState) :
    (s.enter i n).clock = s.clock := by
  unfold State.enter; split <;> (try split) <;> simp
@[simp] theorem State.enter_ref (i : Nat) (n : DevState) :
    (s.enter i n).ref = s.ref := by
  unfold State.enter; split <;> (try split) <;> simp
@[simp] theorem State.enter_origin (i : Nat) (n : DevState) :
    (s.enter i n).origin = s.origin := by
  unfold State.enter; split <;> (try split) <;> simp
@[simp] theorem State.enter_house (i : Nat) (n : DevState) :
    (s.enter i n).house = s.house := by
  unfold State.enter; split <;> (try split) <;> simp
@[simp] theorem State.enter_lines (i : Nat) (n : DevState) :
    (s.enter i n).lines = s.lines := by
  unfold State.enter; split <;> (try split) <;> simp
@[simp] theorem State.enter_profiles (i : Nat) (n : DevState) :
    (s.enter i n).profiles = s.profiles := by
  unfold State.enter; split <;> (try split) <;> simp
@[simp] theorem State.enter_radio (i : Nat) (n : DevState) :
    (s.enter i n).radio = s.radio := by
  unfold State.enter; split <;> (try split) <;> simp
@[simp] theorem State.enter_marks (i : Nat) (n : DevState) :
    (s.enter i n).marks = s.marks := by
  unfold State.enter; split <;> (try split) <;> simp
@[simp] theorem State.enter_units (i : Nat) (n : DevState) :
    (s.enter i n).units = s.units := by
  unfold State.enter; split <;> (try split) <;> simp
@[simp] theorem State.enter_takes (i : Nat) (n : DevState) :
    (s.enter i n).takes = s.takes := by
  unfold State.enter; split <;> (try split) <;> simp
@[simp] theorem State.enter_store (i : Nat) (n : DevState) :
    (s.enter i n).store = s.store := by
  unfold State.enter; split <;> (try split) <;> simp
@[simp] theorem State.enter_flash (i : Nat) (n : DevState) :
    (s.enter i n).flash = s.flash := by
  unfold State.enter; split <;> (try split) <;> simp
@[simp] theorem State.enter_lineRate (i : Nat) (n : DevState) :
    (s.enter i n).lineRate = s.lineRate := by
  unfold State.enter; split <;> (try split) <;> simp
@[simp] theorem State.enter_control (i : Nat) (n : DevState) :
    (s.enter i n).control = s.control := by
  unfold State.enter; split <;> (try split) <;> simp
@[simp] theorem State.enter_suite (i : Nat) (n : DevState) :
    (s.enter i n).suite = s.suite := by
  unfold State.enter; split <;> (try split) <;> simp
@[simp] theorem State.enter_notices (i : Nat) (n : DevState) :
    (s.enter i n).notices = s.notices := by
  unfold State.enter; split <;> (try split) <;> simp
@[simp] theorem State.enter_lost (i : Nat) (n : DevState) :
    (s.enter i n).lost = s.lost := by
  unfold State.enter; split <;> (try split) <;> simp
@[simp] theorem State.enter_exporter (i : Nat) (n : DevState) :
    (s.enter i n).exporter = s.exporter := by
  unfold State.enter; split <;> (try split) <;> simp

/-! ### noteDevice -/

@[simp] theorem State.noteDevice_pending (i : Nat) (o n : Option DevState) (c : DevCause) (j : Option (Int × Nat)) (k : Option Int) :
    (s.noteDevice i o n c j k).pending = s.pending := by
  simp [State.noteDevice]
@[simp] theorem State.noteDevice_clock (i : Nat) (o n : Option DevState) (c : DevCause) (j : Option (Int × Nat)) (k : Option Int) :
    (s.noteDevice i o n c j k).clock = s.clock := by
  simp [State.noteDevice]
@[simp] theorem State.noteDevice_ref (i : Nat) (o n : Option DevState) (c : DevCause) (j : Option (Int × Nat)) (k : Option Int) :
    (s.noteDevice i o n c j k).ref = s.ref := by
  simp [State.noteDevice]
@[simp] theorem State.noteDevice_origin (i : Nat) (o n : Option DevState) (c : DevCause) (j : Option (Int × Nat)) (k : Option Int) :
    (s.noteDevice i o n c j k).origin = s.origin := by
  simp [State.noteDevice]
@[simp] theorem State.noteDevice_house (i : Nat) (o n : Option DevState) (c : DevCause) (j : Option (Int × Nat)) (k : Option Int) :
    (s.noteDevice i o n c j k).house = s.house := by
  simp [State.noteDevice]
@[simp] theorem State.noteDevice_slots (i : Nat) (o n : Option DevState) (c : DevCause) (j : Option (Int × Nat)) (k : Option Int) :
    (s.noteDevice i o n c j k).slots = s.slots := by
  simp [State.noteDevice]
@[simp] theorem State.noteDevice_lines (i : Nat) (o n : Option DevState) (c : DevCause) (j : Option (Int × Nat)) (k : Option Int) :
    (s.noteDevice i o n c j k).lines = s.lines := by
  simp [State.noteDevice]
@[simp] theorem State.noteDevice_profiles (i : Nat) (o n : Option DevState) (c : DevCause) (j : Option (Int × Nat)) (k : Option Int) :
    (s.noteDevice i o n c j k).profiles = s.profiles := by
  simp [State.noteDevice]
@[simp] theorem State.noteDevice_radio (i : Nat) (o n : Option DevState) (c : DevCause) (j : Option (Int × Nat)) (k : Option Int) :
    (s.noteDevice i o n c j k).radio = s.radio := by
  simp [State.noteDevice]
@[simp] theorem State.noteDevice_marks (i : Nat) (o n : Option DevState) (c : DevCause) (j : Option (Int × Nat)) (k : Option Int) :
    (s.noteDevice i o n c j k).marks = s.marks := by
  simp [State.noteDevice]
@[simp] theorem State.noteDevice_units (i : Nat) (o n : Option DevState) (c : DevCause) (j : Option (Int × Nat)) (k : Option Int) :
    (s.noteDevice i o n c j k).units = s.units := by
  simp [State.noteDevice]
@[simp] theorem State.noteDevice_takes (i : Nat) (o n : Option DevState) (c : DevCause) (j : Option (Int × Nat)) (k : Option Int) :
    (s.noteDevice i o n c j k).takes = s.takes := by
  simp [State.noteDevice]
@[simp] theorem State.noteDevice_store (i : Nat) (o n : Option DevState) (c : DevCause) (j : Option (Int × Nat)) (k : Option Int) :
    (s.noteDevice i o n c j k).store = s.store := by
  simp [State.noteDevice]
@[simp] theorem State.noteDevice_flash (i : Nat) (o n : Option DevState) (c : DevCause) (j : Option (Int × Nat)) (k : Option Int) :
    (s.noteDevice i o n c j k).flash = s.flash := by
  simp [State.noteDevice]
@[simp] theorem State.noteDevice_lineRate (i : Nat) (o n : Option DevState) (c : DevCause) (j : Option (Int × Nat)) (k : Option Int) :
    (s.noteDevice i o n c j k).lineRate = s.lineRate := by
  simp [State.noteDevice]
@[simp] theorem State.noteDevice_control (i : Nat) (o n : Option DevState) (c : DevCause) (j : Option (Int × Nat)) (k : Option Int) :
    (s.noteDevice i o n c j k).control = s.control := by
  simp [State.noteDevice]
@[simp] theorem State.noteDevice_suite (i : Nat) (o n : Option DevState) (c : DevCause) (j : Option (Int × Nat)) (k : Option Int) :
    (s.noteDevice i o n c j k).suite = s.suite := by
  simp [State.noteDevice]
@[simp] theorem State.noteDevice_exporter (i : Nat) (o n : Option DevState) (c : DevCause) (j : Option (Int × Nat)) (k : Option Int) :
    (s.noteDevice i o n c j k).exporter = s.exporter := by
  simp [State.noteDevice]

/-! ### writeEntry -/

@[simp] theorem State.writeEntry_pending (i : Nat) (f : Participant → Participant) :
    (s.writeEntry i f).pending = s.pending := by
  unfold State.writeEntry; split <;> simp
@[simp] theorem State.writeEntry_clock (i : Nat) (f : Participant → Participant) :
    (s.writeEntry i f).clock = s.clock := by
  unfold State.writeEntry; split <;> simp
@[simp] theorem State.writeEntry_ref (i : Nat) (f : Participant → Participant) :
    (s.writeEntry i f).ref = s.ref := by
  unfold State.writeEntry; split <;> simp
@[simp] theorem State.writeEntry_origin (i : Nat) (f : Participant → Participant) :
    (s.writeEntry i f).origin = s.origin := by
  unfold State.writeEntry; split <;> simp
@[simp] theorem State.writeEntry_house (i : Nat) (f : Participant → Participant) :
    (s.writeEntry i f).house = s.house := by
  unfold State.writeEntry; split <;> simp
@[simp] theorem State.writeEntry_slots (i : Nat) (f : Participant → Participant) :
    (s.writeEntry i f).slots = s.slots := by
  unfold State.writeEntry; split <;> simp
@[simp] theorem State.writeEntry_lines (i : Nat) (f : Participant → Participant) :
    (s.writeEntry i f).lines = s.lines := by
  unfold State.writeEntry; split <;> simp
@[simp] theorem State.writeEntry_profiles (i : Nat) (f : Participant → Participant) :
    (s.writeEntry i f).profiles = s.profiles := by
  unfold State.writeEntry; split <;> simp
@[simp] theorem State.writeEntry_radio (i : Nat) (f : Participant → Participant) :
    (s.writeEntry i f).radio = s.radio := by
  unfold State.writeEntry; split <;> simp
@[simp] theorem State.writeEntry_marks (i : Nat) (f : Participant → Participant) :
    (s.writeEntry i f).marks = s.marks := by
  unfold State.writeEntry; split <;> simp
@[simp] theorem State.writeEntry_units (i : Nat) (f : Participant → Participant) :
    (s.writeEntry i f).units = s.units := by
  unfold State.writeEntry; split <;> simp
@[simp] theorem State.writeEntry_store (i : Nat) (f : Participant → Participant) :
    (s.writeEntry i f).store = s.store := by
  unfold State.writeEntry; split <;> simp
@[simp] theorem State.writeEntry_flash (i : Nat) (f : Participant → Participant) :
    (s.writeEntry i f).flash = s.flash := by
  unfold State.writeEntry; split <;> simp
@[simp] theorem State.writeEntry_lineRate (i : Nat) (f : Participant → Participant) :
    (s.writeEntry i f).lineRate = s.lineRate := by
  unfold State.writeEntry; split <;> simp
@[simp] theorem State.writeEntry_control (i : Nat) (f : Participant → Participant) :
    (s.writeEntry i f).control = s.control := by
  unfold State.writeEntry; split <;> simp
@[simp] theorem State.writeEntry_suite (i : Nat) (f : Participant → Participant) :
    (s.writeEntry i f).suite = s.suite := by
  unfold State.writeEntry; split <;> simp
@[simp] theorem State.writeEntry_notices (i : Nat) (f : Participant → Participant) :
    (s.writeEntry i f).notices = s.notices := by
  unfold State.writeEntry; split <;> simp
@[simp] theorem State.writeEntry_lost (i : Nat) (f : Participant → Participant) :
    (s.writeEntry i f).lost = s.lost := by
  unfold State.writeEntry; split <;> simp
@[simp] theorem State.writeEntry_exporter (i : Nat) (f : Participant → Participant) :
    (s.writeEntry i f).exporter = s.exporter := by
  unfold State.writeEntry; split <;> simp

/-! ### lineFault -/

@[simp] theorem State.lineFault_pending (i : Nat) :
    (s.lineFault i).pending = s.pending := by
  simp [State.lineFault]
@[simp] theorem State.lineFault_clock (i : Nat) :
    (s.lineFault i).clock = s.clock := by
  simp [State.lineFault]
@[simp] theorem State.lineFault_ref (i : Nat) :
    (s.lineFault i).ref = s.ref := by
  simp [State.lineFault]
@[simp] theorem State.lineFault_origin (i : Nat) :
    (s.lineFault i).origin = s.origin := by
  simp [State.lineFault]
@[simp] theorem State.lineFault_house (i : Nat) :
    (s.lineFault i).house = s.house := by
  simp [State.lineFault]
@[simp] theorem State.lineFault_slots (i : Nat) :
    (s.lineFault i).slots = s.slots := by
  simp [State.lineFault]
@[simp] theorem State.lineFault_lines (i : Nat) :
    (s.lineFault i).lines = s.lines := by
  simp [State.lineFault]
@[simp] theorem State.lineFault_profiles (i : Nat) :
    (s.lineFault i).profiles = s.profiles := by
  simp [State.lineFault]
@[simp] theorem State.lineFault_radio (i : Nat) :
    (s.lineFault i).radio = s.radio := by
  simp [State.lineFault]
@[simp] theorem State.lineFault_marks (i : Nat) :
    (s.lineFault i).marks = s.marks := by
  simp [State.lineFault]
@[simp] theorem State.lineFault_units (i : Nat) :
    (s.lineFault i).units = s.units := by
  simp [State.lineFault]
@[simp] theorem State.lineFault_store (i : Nat) :
    (s.lineFault i).store = s.store := by
  simp [State.lineFault]
@[simp] theorem State.lineFault_flash (i : Nat) :
    (s.lineFault i).flash = s.flash := by
  simp [State.lineFault]
@[simp] theorem State.lineFault_lineRate (i : Nat) :
    (s.lineFault i).lineRate = s.lineRate := by
  simp [State.lineFault]
@[simp] theorem State.lineFault_control (i : Nat) :
    (s.lineFault i).control = s.control := by
  simp [State.lineFault]
@[simp] theorem State.lineFault_suite (i : Nat) :
    (s.lineFault i).suite = s.suite := by
  simp [State.lineFault]
@[simp] theorem State.lineFault_notices (i : Nat) :
    (s.lineFault i).notices = s.notices := by
  simp [State.lineFault]
@[simp] theorem State.lineFault_lost (i : Nat) :
    (s.lineFault i).lost = s.lost := by
  simp [State.lineFault]
@[simp] theorem State.lineFault_exporter (i : Nat) :
    (s.lineFault i).exporter = s.exporter := by
  simp [State.lineFault]

/-! ### holdTrigger -/

@[simp] theorem State.holdTrigger_pending (i : Nat) (b : Bool) :
    (s.holdTrigger i b).pending = s.pending := by
  unfold State.holdTrigger; split
  · rfl
  · dsimp only; split
    · simp
    · split <;> simp
@[simp] theorem State.holdTrigger_clock (i : Nat) (b : Bool) :
    (s.holdTrigger i b).clock = s.clock := by
  unfold State.holdTrigger; split
  · rfl
  · dsimp only; split
    · simp
    · split <;> simp
@[simp] theorem State.holdTrigger_ref (i : Nat) (b : Bool) :
    (s.holdTrigger i b).ref = s.ref := by
  unfold State.holdTrigger; split
  · rfl
  · dsimp only; split
    · simp
    · split <;> simp
@[simp] theorem State.holdTrigger_origin (i : Nat) (b : Bool) :
    (s.holdTrigger i b).origin = s.origin := by
  unfold State.holdTrigger; split
  · rfl
  · dsimp only; split
    · simp
    · split <;> simp
@[simp] theorem State.holdTrigger_house (i : Nat) (b : Bool) :
    (s.holdTrigger i b).house = s.house := by
  unfold State.holdTrigger; split
  · rfl
  · dsimp only; split
    · simp
    · split <;> simp
@[simp] theorem State.holdTrigger_lines (i : Nat) (b : Bool) :
    (s.holdTrigger i b).lines = s.lines := by
  unfold State.holdTrigger; split
  · rfl
  · dsimp only; split
    · simp
    · split <;> simp
@[simp] theorem State.holdTrigger_profiles (i : Nat) (b : Bool) :
    (s.holdTrigger i b).profiles = s.profiles := by
  unfold State.holdTrigger; split
  · rfl
  · dsimp only; split
    · simp
    · split <;> simp
@[simp] theorem State.holdTrigger_radio (i : Nat) (b : Bool) :
    (s.holdTrigger i b).radio = s.radio := by
  unfold State.holdTrigger; split
  · rfl
  · dsimp only; split
    · simp
    · split <;> simp
@[simp] theorem State.holdTrigger_marks (i : Nat) (b : Bool) :
    (s.holdTrigger i b).marks = s.marks := by
  unfold State.holdTrigger; split
  · rfl
  · dsimp only; split
    · simp
    · split <;> simp
@[simp] theorem State.holdTrigger_units (i : Nat) (b : Bool) :
    (s.holdTrigger i b).units = s.units := by
  unfold State.holdTrigger; split
  · rfl
  · dsimp only; split
    · simp
    · split <;> simp
@[simp] theorem State.holdTrigger_store (i : Nat) (b : Bool) :
    (s.holdTrigger i b).store = s.store := by
  unfold State.holdTrigger; split
  · rfl
  · dsimp only; split
    · simp
    · split <;> simp
@[simp] theorem State.holdTrigger_flash (i : Nat) (b : Bool) :
    (s.holdTrigger i b).flash = s.flash := by
  unfold State.holdTrigger; split
  · rfl
  · dsimp only; split
    · simp
    · split <;> simp
@[simp] theorem State.holdTrigger_lineRate (i : Nat) (b : Bool) :
    (s.holdTrigger i b).lineRate = s.lineRate := by
  unfold State.holdTrigger; split
  · rfl
  · dsimp only; split
    · simp
    · split <;> simp
@[simp] theorem State.holdTrigger_control (i : Nat) (b : Bool) :
    (s.holdTrigger i b).control = s.control := by
  unfold State.holdTrigger; split
  · rfl
  · dsimp only; split
    · simp
    · split <;> simp
@[simp] theorem State.holdTrigger_suite (i : Nat) (b : Bool) :
    (s.holdTrigger i b).suite = s.suite := by
  unfold State.holdTrigger; split
  · rfl
  · dsimp only; split
    · simp
    · split <;> simp
@[simp] theorem State.holdTrigger_exporter (i : Nat) (b : Bool) :
    (s.holdTrigger i b).exporter = s.exporter := by
  unfold State.holdTrigger; split
  · rfl
  · dsimp only; split
    · simp
    · split <;> simp

/-! ### endHold -/

@[simp] theorem State.endHold_pending (i : Nat) :
    (s.endHold i).pending = s.pending := by
  unfold State.endHold; split
  · split <;> simp
  · rfl
@[simp] theorem State.endHold_clock (i : Nat) :
    (s.endHold i).clock = s.clock := by
  unfold State.endHold; split
  · split <;> simp
  · rfl
@[simp] theorem State.endHold_ref (i : Nat) :
    (s.endHold i).ref = s.ref := by
  unfold State.endHold; split
  · split <;> simp
  · rfl
@[simp] theorem State.endHold_origin (i : Nat) :
    (s.endHold i).origin = s.origin := by
  unfold State.endHold; split
  · split <;> simp
  · rfl
@[simp] theorem State.endHold_house (i : Nat) :
    (s.endHold i).house = s.house := by
  unfold State.endHold; split
  · split <;> simp
  · rfl
@[simp] theorem State.endHold_lines (i : Nat) :
    (s.endHold i).lines = s.lines := by
  unfold State.endHold; split
  · split <;> simp
  · rfl
@[simp] theorem State.endHold_profiles (i : Nat) :
    (s.endHold i).profiles = s.profiles := by
  unfold State.endHold; split
  · split <;> simp
  · rfl
@[simp] theorem State.endHold_marks (i : Nat) :
    (s.endHold i).marks = s.marks := by
  unfold State.endHold; split
  · split <;> simp
  · rfl
@[simp] theorem State.endHold_units (i : Nat) :
    (s.endHold i).units = s.units := by
  unfold State.endHold; split
  · split <;> simp
  · rfl
@[simp] theorem State.endHold_takes (i : Nat) :
    (s.endHold i).takes = s.takes := by
  unfold State.endHold; split
  · split <;> simp
  · rfl
@[simp] theorem State.endHold_store (i : Nat) :
    (s.endHold i).store = s.store := by
  unfold State.endHold; split
  · split <;> simp
  · rfl
@[simp] theorem State.endHold_flash (i : Nat) :
    (s.endHold i).flash = s.flash := by
  unfold State.endHold; split
  · split <;> simp
  · rfl
@[simp] theorem State.endHold_lineRate (i : Nat) :
    (s.endHold i).lineRate = s.lineRate := by
  unfold State.endHold; split
  · split <;> simp
  · rfl
@[simp] theorem State.endHold_control (i : Nat) :
    (s.endHold i).control = s.control := by
  unfold State.endHold; split
  · split <;> simp
  · rfl
@[simp] theorem State.endHold_suite (i : Nat) :
    (s.endHold i).suite = s.suite := by
  unfold State.endHold; split
  · split <;> simp
  · rfl
@[simp] theorem State.endHold_notices (i : Nat) :
    (s.endHold i).notices = s.notices := by
  unfold State.endHold; split
  · split <;> simp
  · rfl
@[simp] theorem State.endHold_lost (i : Nat) :
    (s.endHold i).lost = s.lost := by
  unfold State.endHold; split
  · split <;> simp
  · rfl
@[simp] theorem State.endHold_exporter (i : Nat) :
    (s.endHold i).exporter = s.exporter := by
  unfold State.endHold; split
  · split <;> simp
  · rfl

/-! ### postOrHold -/

@[simp] theorem State.postOrHold_pending (c : ReqClass) (i : Nat) (b : Bool) :
    (s.postOrHold c i b).pending = s.pending := by
  unfold State.postOrHold; split
  · split <;> simp
  · rfl
@[simp] theorem State.postOrHold_clock (c : ReqClass) (i : Nat) (b : Bool) :
    (s.postOrHold c i b).clock = s.clock := by
  unfold State.postOrHold; split
  · split <;> simp
  · rfl
@[simp] theorem State.postOrHold_ref (c : ReqClass) (i : Nat) (b : Bool) :
    (s.postOrHold c i b).ref = s.ref := by
  unfold State.postOrHold; split
  · split <;> simp
  · rfl
@[simp] theorem State.postOrHold_origin (c : ReqClass) (i : Nat) (b : Bool) :
    (s.postOrHold c i b).origin = s.origin := by
  unfold State.postOrHold; split
  · split <;> simp
  · rfl
@[simp] theorem State.postOrHold_house (c : ReqClass) (i : Nat) (b : Bool) :
    (s.postOrHold c i b).house = s.house := by
  unfold State.postOrHold; split
  · split <;> simp
  · rfl
@[simp] theorem State.postOrHold_lines (c : ReqClass) (i : Nat) (b : Bool) :
    (s.postOrHold c i b).lines = s.lines := by
  unfold State.postOrHold; split
  · split <;> simp
  · rfl
@[simp] theorem State.postOrHold_profiles (c : ReqClass) (i : Nat) (b : Bool) :
    (s.postOrHold c i b).profiles = s.profiles := by
  unfold State.postOrHold; split
  · split <;> simp
  · rfl
@[simp] theorem State.postOrHold_marks (c : ReqClass) (i : Nat) (b : Bool) :
    (s.postOrHold c i b).marks = s.marks := by
  unfold State.postOrHold; split
  · split <;> simp
  · rfl
@[simp] theorem State.postOrHold_units (c : ReqClass) (i : Nat) (b : Bool) :
    (s.postOrHold c i b).units = s.units := by
  unfold State.postOrHold; split
  · split <;> simp
  · rfl
@[simp] theorem State.postOrHold_store (c : ReqClass) (i : Nat) (b : Bool) :
    (s.postOrHold c i b).store = s.store := by
  unfold State.postOrHold; split
  · split <;> simp
  · rfl
@[simp] theorem State.postOrHold_flash (c : ReqClass) (i : Nat) (b : Bool) :
    (s.postOrHold c i b).flash = s.flash := by
  unfold State.postOrHold; split
  · split <;> simp
  · rfl
@[simp] theorem State.postOrHold_lineRate (c : ReqClass) (i : Nat) (b : Bool) :
    (s.postOrHold c i b).lineRate = s.lineRate := by
  unfold State.postOrHold; split
  · split <;> simp
  · rfl
@[simp] theorem State.postOrHold_control (c : ReqClass) (i : Nat) (b : Bool) :
    (s.postOrHold c i b).control = s.control := by
  unfold State.postOrHold; split
  · split <;> simp
  · rfl
@[simp] theorem State.postOrHold_suite (c : ReqClass) (i : Nat) (b : Bool) :
    (s.postOrHold c i b).suite = s.suite := by
  unfold State.postOrHold; split
  · split <;> simp
  · rfl
@[simp] theorem State.postOrHold_exporter (c : ReqClass) (i : Nat) (b : Bool) :
    (s.postOrHold c i b).exporter = s.exporter := by
  unfold State.postOrHold; split
  · split <;> simp
  · rfl

/-! ### Folds -/

/-- A field that every step of a fold leaves alone is left alone by the fold. -/
theorem foldl_field {α β : Type} (g : State → β) (f : State → α → State)
    (h : ∀ t a, g (f t a) = g t) (l : List α) : ∀ t, g (l.foldl f t) = g t := by
  induction l with
  | nil => exact fun _ => rfl
  | cons a l ih => exact fun t => (ih (f t a)).trans (h t a)

/-! ### timeChange (R33, R39) -/

@[simp] theorem State.timeChange_pending (a : Int) : (s.timeChange a).pending = s.pending :=
  foldl_field State.pending _ (fun t _ => t.post_pending _ _ _) _ _
@[simp] theorem State.timeChange_clock (a : Int) : (s.timeChange a).clock = s.clock :=
  foldl_field State.clock _ (fun t _ => t.post_clock _ _ _) _ _
@[simp] theorem State.timeChange_ref (a : Int) : (s.timeChange a).ref = s.ref :=
  foldl_field State.ref _ (fun t _ => t.post_ref _ _ _) _ _
@[simp] theorem State.timeChange_origin (a : Int) : (s.timeChange a).origin = s.origin :=
  foldl_field State.origin _ (fun t _ => t.post_origin _ _ _) _ _
@[simp] theorem State.timeChange_house (a : Int) : (s.timeChange a).house = s.house :=
  foldl_field State.house _ (fun t _ => t.post_house _ _ _) _ _
@[simp] theorem State.timeChange_profiles (a : Int) : (s.timeChange a).profiles = s.profiles :=
  foldl_field State.profiles _ (fun t _ => t.post_profiles _ _ _) _ _
@[simp] theorem State.timeChange_units (a : Int) : (s.timeChange a).units = s.units :=
  foldl_field State.units _ (fun t _ => t.post_units _ _ _) _ _
@[simp] theorem State.timeChange_takes (a : Int) : (s.timeChange a).takes = s.takes :=
  foldl_field State.takes _ (fun t _ => t.post_takes _ _ _) _ _
@[simp] theorem State.timeChange_store (a : Int) : (s.timeChange a).store = s.store :=
  foldl_field State.store _ (fun t _ => t.post_store _ _ _) _ _
@[simp] theorem State.timeChange_flash (a : Int) : (s.timeChange a).flash = s.flash :=
  foldl_field State.flash _ (fun t _ => t.post_flash _ _ _) _ _
@[simp] theorem State.timeChange_lineRate (a : Int) : (s.timeChange a).lineRate = s.lineRate :=
  foldl_field State.lineRate _ (fun t _ => t.post_lineRate _ _ _) _ _
@[simp] theorem State.timeChange_control (a : Int) : (s.timeChange a).control = s.control :=
  foldl_field State.control _ (fun t _ => t.post_control _ _ _) _ _
@[simp] theorem State.timeChange_suite (a : Int) : (s.timeChange a).suite = s.suite :=
  foldl_field State.suite _ (fun t _ => t.post_suite _ _ _) _ _
@[simp] theorem State.timeChange_notices (a : Int) : (s.timeChange a).notices = s.notices :=
  foldl_field State.notices _ (fun t _ => t.post_notices _ _ _) _ _
@[simp] theorem State.timeChange_lost (a : Int) : (s.timeChange a).lost = s.lost :=
  foldl_field State.lost _ (fun t _ => t.post_lost _ _ _) _ _
@[simp] theorem State.timeChange_exporter (a : Int) : (s.timeChange a).exporter = s.exporter :=
  foldl_field State.exporter _ (fun t _ => t.post_exporter _ _ _) _ _

end Sys2Proof.Machine
end

