-- ==== Sys2Proof/Laws/Parse.lean ====
section
/-!
SUPPORT. Reading back what was written: the small lemmas from which the round trips of requests and
records are assembled.
-/

namespace Sys2Proof.Machine

/-- A reader takes exactly these bytes off the front and finds this value. -/
def Reads (p : Parse α) (a : α) (bs : List Byte) : Prop := ∀ rest, p (bs ++ rest) = some (a, rest)

theorem Reads.pure (a : α) : Reads (Pure.pure a : Parse α) a [] := fun _ => rfl

theorem Reads.bind {p : Parse α} {f : α → Parse β} {a : α} {b : β} {xs ys : List Byte}
    (hp : Reads p a xs) (hf : Reads (f a) b ys) : Reads (p >>= f) b (xs ++ ys) := by
  intro rest
  show (p (xs ++ ys ++ rest)).bind _ = _
  rw [List.append_assoc, hp (ys ++ rest)]
  exact hf rest

/-- What a reader reads from exactly its bytes. -/
theorem Reads.run {p : Parse α} {a : α} {bs : List Byte} (h : Reads p a bs) :
    runParse p bs = some a := by
  have := h []
  rw [List.append_nil] at this
  simp [runParse, this]

theorem leBytes_length (w n : Nat) : (leBytes w n).length = w := by
  induction w generalizing n with
  | zero => rfl
  | succ w ih => simp [leBytes, ih]

/-- Little-endian bytes carry their number. -/
theorem ofLeBytes_leBytes (w n : Nat) (h : n < 2 ^ (8 * w)) : ofLeBytes (leBytes w n) = n := by
  induction w generalizing n with
  | zero => simp [leBytes, ofLeBytes] at h ⊢; omega
  | succ w ih =>
    have h1 : n / 256 < 2 ^ (8 * w) := by
      rw [Nat.div_lt_iff_lt_mul (by decide)]
      have : 2 ^ (8 * (w + 1)) = 2 ^ (8 * w) * 256 := by
        rw [Nat.mul_add, Nat.pow_add]
      omega
    simp only [leBytes, ofLeBytes, ih _ h1, BitVec.toNat_ofNat]
    omega

/-- An unsigned field that holds its value is read back. -/
theorem Reads.pNat {w n : Nat} (h : holds w n = true) : Reads (pNat w) n (Field.bytes (uint w n)) := by
  have h1 : n < 2 ^ (8 * w) := by simpa [holds] using h
  have hc : (uint w n).code = n := by
    have hi : (n : Int) < (2 ^ (8 * w) : Nat) := by exact_mod_cast h1
    have hf : (uint w n).fits = true := by
      show decide (0 ≤ (n : Int) ∧ (n : Int) < (2 ^ (8 * w) : Nat)) = true
      exact decide_eq_true ⟨Int.natCast_nonneg n, hi⟩
    unfold Field.code
    rw [if_pos hf]
    show (((n : Int) % (2 ^ (8 * w) : Nat))).toNat = n
    rw [← Int.natCast_mod, Int.toNat_natCast, Nat.mod_eq_of_lt h1]
  intro rest
  simp only [Machine.pNat, Field.bytes, hc]
  have hl : (leBytes w n).length = w := leBytes_length w n
  have hw : (uint w n).width = w := rfl
  rw [hw]
  simp [hl, ofLeBytes_leBytes w n h1]

end Sys2Proof.Machine
end

