-- ==== Sys2Proof/Laws/PerInstr.lean ====
section
/-!
SUPPORT. Statements made of every command, one lemma for each constructor of `Instr`.
-/

namespace Sys2Proof.Laws.Spelled

open Machine

/-- A request is spelled by a kind code of the catalogue (R183), which some layout reads; an event is
spelled by none. -/
def Statement (i : Instr) : Prop :=
  ∀ k fs, requestFields i = some (k, fs) → 1 ≤ k ∧ k ≤ 0x1E ∧ ∀ q, (requestParser q k).isSome

/-- A kind code of the catalogue has a layout. -/
theorem of_kind (k0 : Nat) (h1 : 1 ≤ k0) (h2 : k0 ≤ 0x1E) (hp : ∀ q, (requestParser q k0).isSome)
    (i : Instr) (fs0 : List Field) (h : requestFields i = some (k0, fs0)) : Statement i := by
  intro k fs hk
  rw [h] at hk
  cases hk
  exact ⟨h1, h2, hp⟩

/-- An event has no kind code. -/
theorem of_none (i : Instr) (h : requestFields i = none) : Statement i := by
  intro k fs hk
  rw [h] at hk
  cases hk

theorem reset (pinA pinB : Bool) (left : PageLeft) (erased : List Nat) : Statement (.reset pinA pinB left erased) :=
  of_none _ rfl

theorem settingsApply : Statement (.settingsApply) :=
  of_none _ rfl

theorem logScanPageRead : Statement (.logScanPageRead) :=
  of_none _ rfl

theorem scanComplete (first second : Bool) : Statement (.scanComplete first second) :=
  of_none _ rfl

theorem timeNow (q : Req) : Statement (.timeNow q) :=
  of_kind 0x01 (by decide) (by decide) (fun _ => rfl) _ _ rfl

theorem refConfig (q : Req) (a : RefArgs) : Statement (.refConfig q a) :=
  of_kind 0x02 (by decide) (by decide) (fun _ => rfl) _ _ rfl

theorem setHouseRate (q : Req) (code : Nat) : Statement (.setHouseRate q code) :=
  of_kind 0x03 (by decide) (by decide) (fun _ => rfl) _ _ rfl

theorem setOrigin (q : Req) (label : Label) : Statement (.setOrigin q label) :=
  of_kind 0x04 (by decide) (by decide) (fun _ => rfl) _ _ rfl

theorem originBoundary : Statement (.originBoundary) :=
  of_none _ rfl

theorem declareDevice (q : Req) (slot : Nat) (a : DeviceArgs) : Statement (.declareDevice q slot a) :=
  of_kind 0x05 (by decide) (by decide) (fun _ => rfl) _ _ rfl

theorem setDevice (q : Req) (slot : Nat) (a : DeviceArgs) : Statement (.setDevice q slot a) :=
  of_kind 0x06 (by decide) (by decide) (fun _ => rfl) _ _ rfl

theorem removeDevice (q : Req) (slot : Nat) : Statement (.removeDevice q slot) :=
  of_kind 0x07 (by decide) (by decide) (fun _ => rfl) _ _ rfl

theorem deviceStatus (q : Req) (slot : Nat) : Statement (.deviceStatus q slot) :=
  of_kind 0x08 (by decide) (by decide) (fun _ => rfl) _ _ rfl

theorem jamDevice (q : Req) (slot : Nat) (label : Option Label) : Statement (.jamDevice q slot label) :=
  of_kind 0x09 (by decide) (by decide) (fun _ => rfl) _ _ rfl

theorem lineEnable (q : Req) (line : Nat) (on : Bool) : Statement (.lineEnable q line on) :=
  of_kind 0x0A (by decide) (by decide) (fun _ => rfl) _ _ rfl

theorem profileBegin (q : Req) (profile count : Nat) (bias : Int) : Statement (.profileBegin q profile count bias) :=
  of_kind 0x0B (by decide) (by decide) (fun _ => rfl) _ _ rfl

theorem profilePoints (q : Req) (profile : Nat) (points : List (Nat × Int)) : Statement (.profilePoints q profile points) :=
  of_kind 0x0C (by decide) (by decide) (fun _ => rfl) _ _ rfl

theorem profileRead (q : Req) (profile : Nat) : Statement (.profileRead q profile) :=
  of_kind 0x0D (by decide) (by decide) (fun _ => rfl) _ _ rfl

theorem radioEnable (q : Req) (on : Bool) : Statement (.radioEnable q on) :=
  of_kind 0x0E (by decide) (by decide) (fun _ => rfl) _ _ rfl

theorem radioStatus (q : Req) : Statement (.radioStatus q) :=
  of_kind 0x0F (by decide) (by decide) (fun _ => rfl) _ _ rfl

theorem setSlate (q : Req) (a : SlateArgs) : Statement (.setSlate q a) :=
  of_kind 0x10 (by decide) (by decide) (fun _ => rfl) _ _ rfl

theorem unitStatus (q : Req) (unit : Nat) : Statement (.unitStatus q unit) :=
  of_kind 0x11 (by decide) (by decide) (fun _ => rfl) _ _ rfl

theorem startTake (q : Req) (unit : Nat) : Statement (.startTake q unit) :=
  of_kind 0x12 (by decide) (by decide) (fun _ => rfl) _ _ rfl

theorem endTake (q : Req) (unit : Nat) : Statement (.endTake q unit) :=
  of_kind 0x13 (by decide) (by decide) (fun _ => rfl) _ _ rfl

theorem markTake (q : Req) (a : MarkArgs) : Statement (.markTake q a) :=
  of_kind 0x14 (by decide) (by decide) (fun _ => rfl) _ _ rfl

theorem takeTableStatus (q : Req) : Statement (.takeTableStatus q) :=
  of_kind 0x15 (by decide) (by decide) (fun _ => rfl) _ _ rfl

theorem setCommitDelay (q : Req) (seconds : Nat) : Statement (.setCommitDelay q seconds) :=
  of_kind 0x16 (by decide) (by decide) (fun _ => rfl) _ _ rfl

theorem flush (q : Req) : Statement (.flush q) :=
  of_kind 0x17 (by decide) (by decide) (fun _ => rfl) _ _ rfl

theorem clearLog (q : Req) : Statement (.clearLog q) :=
  of_kind 0x18 (by decide) (by decide) (fun _ => rfl) _ _ rfl

theorem saveSettings (q : Req) : Statement (.saveSettings q) :=
  of_kind 0x19 (by decide) (by decide) (fun _ => rfl) _ _ rfl

theorem storeStatus (q : Req) : Statement (.storeStatus q) :=
  of_kind 0x1A (by decide) (by decide) (fun _ => rfl) _ _ rfl

theorem whereIs (q : Req) (a : WhereArgs) : Statement (.whereIs q a) :=
  of_kind 0x1B (by decide) (by decide) (fun _ => rfl) _ _ rfl

theorem atTick (q : Req) (a : AtTickArgs) : Statement (.atTick q a) :=
  of_kind 0x1C (by decide) (by decide) (fun _ => rfl) _ _ rfl

theorem exportTakes (q : Req) (a : ExportArgs) : Statement (.exportTakes q a) :=
  of_kind 0x1D (by decide) (by decide) (fun _ => rfl) _ _ rfl

theorem cancelExport (q : Req) : Statement (.cancelExport q) :=
  of_kind 0x1E (by decide) (by decide) (fun _ => rfl) _ _ rfl

theorem unknownRequest (q : Req) (kind : Nat) : Statement (.unknownRequest q kind) :=
  of_none _ rfl

theorem frameGapTimeout (p : Port) : Statement (.frameGapTimeout p) :=
  of_none _ rfl

theorem messageSent (p : Port) : Statement (.messageSent p) :=
  of_none _ rfl

theorem referenceEdge (e : EdgeInput) : Statement (.referenceEdge e) :=
  of_none _ rfl

theorem acquisitionTimeout : Statement (.acquisitionTimeout) :=
  of_none _ rfl

theorem referenceLoss : Statement (.referenceLoss) :=
  of_none _ rfl

theorem holdoverExpiry : Statement (.holdoverExpiry) :=
  of_none _ rfl

theorem lineFrameEdge (line : Nat) : Statement (.lineFrameEdge line) :=
  of_none _ rfl

theorem lineSenseChange (line : Nat) (sense : Sense) : Statement (.lineSenseChange line sense) :=
  of_none _ rfl

theorem runSenseChange (line : Nat) (active : Bool) : Statement (.runSenseChange line active) :=
  of_none _ rfl

theorem beaconMark : Statement (.beaconMark) :=
  of_none _ rfl

theorem pollDue (slot : Nat) : Statement (.pollDue slot) :=
  of_none _ rfl

theorem periodicExpiry (slot : Nat) : Statement (.periodicExpiry slot) :=
  of_none _ rfl

theorem slotStart : Statement (.slotStart) :=
  of_none _ rfl

theorem echoReceived (e : Echo) (intact : Bool) : Statement (.echoReceived e intact) :=
  of_none _ rfl

theorem transactionEnd : Statement (.transactionEnd) :=
  of_none _ rfl

theorem commitDelayExpiry : Statement (.commitDelayExpiry) :=
  of_none _ rfl

theorem pageWriteCheck (ok : Bool) : Statement (.pageWriteCheck ok) :=
  of_none _ rfl

theorem storeReadDone : Statement (.storeReadDone) :=
  of_none _ rfl

theorem settingsWriteDone (ok : Bool) : Statement (.settingsWriteDone ok) :=
  of_none _ rfl

theorem logEraseDone (failed : Option Nat) : Statement (.logEraseDone failed) :=
  of_none _ rfl

theorem portByteReceived (p : Port) (byte : Byte) (stopFound : Bool) : Statement (.portByteReceived p byte stopFound) :=
  of_none _ rfl

end Sys2Proof.Laws.Spelled
end

