-- ==== Sys2Proof/Laws/Views.lean ====
section
/-!
SUPPORT. What the shared operations do in the views of the statements: positions, requests posted and
dropped, writes into one take's entry, the search of the take table, and what a reset leaves of a page.
-/

namespace Sys2Proof.Machine

variable (s : State)

@[simp] theorem wiredPosition_frame (code audio pull : Nat) (b : Bool) (phase origin : Nat) (t : Int) :
    (wiredPosition code audio pull b phase origin t).frame = wiredFrame code phase origin t := rfl
@[simp] theorem radioPosition_frame (code audio pull : Nat) (b : Bool) (j : Int) (n0 : Nat) (r t : Int) :
    (radioPosition code audio pull b j n0 r t).frame = radioFrame code j n0 r t := rfl

/-- The label frame of a wired device. -/
theorem Device.frameAt_wired (d : Device) (t : Int) (h : d.isRadio = false) :
    d.frameAt t = some (wiredFrame d.set.rate d.set.phase d.set.origin t) := by
  simp [Device.frameAt, Device.position, h]

/-- The label frame of a radio device, none with no segment. -/
theorem Device.frameAt_radio (d : Device) (t : Int) (h : d.isRadio = true) :
    d.frameAt t = d.live.jam.map fun x => radioFrame d.set.rate x.1 x.2 d.live.rate t := by
  simp [Device.frameAt, Device.position, h, Function.comp_def]

/-- What posting a request does to the radio record. -/
theorem Radio.post_posted (r : Radio) (c : ReqClass) (slot : Nat) (frame : Option Nat) :
    Posted r (r.post c slot frame) c slot frame := by
  have w : r.waits c slot = true ↔ ∃ x ∈ r.requests, x.cls = c ∧ x.slot = slot := by
    simp [Radio.waits]
  refine ⟨fun h => ?_, fun h => ?_⟩
  · have n : ¬ r.waits c slot = true := fun x => by
      obtain ⟨y, m, e⟩ := w.mp x; exact h y m e
    simp [Radio.post, n]
  · simp [Radio.post, w.mpr h]

/-- What dropping a slot's requests does to the radio record. -/
theorem Radio.dropSlot_dropped (r : Radio) (slot : Nat) : Dropped r (r.dropSlot slot) slot := rfl

/-- A write into one take's entry keeps the other entries. -/
theorem State.modTake_kept (session index : Nat) (f : Entry → Entry) :
    EntriesKept s (s.modTake session index f) session index := by
  refine ⟨rfl, rfl, fun k h => ?_⟩
  simp only [State.modTake]
  cases e : s.takes.entries[k] with
  | none => simp_all
  | some x =>
    have := h x e
    simp_all

/-- Writes into one take's entry one after another keep the other entries. -/
theorem EntriesKept.trans {s t u : State} {session index : Nat} (h : EntriesKept s t session index)
    (g : EntriesKept t u session index) : EntriesKept s u session index := by
  refine ⟨g.1.trans h.1, g.2.1.trans h.2.1, fun k e => ?_⟩
  have := h.2.2 k e
  rw [← this]
  exact g.2.2 k fun x hx => e x (this ▸ hx)

/-- A search over records, with room for what it finds: the first matches in the order examined, up to
the limit (R159). -/
theorem examineAll_eq (q : Search) (now : Nat) (rs : List TakeRecord) (found : List Match)
    (h : found.length ≤ q.limit) :
    examineAll q now rs found = (found ++ rs.filterMap (q.examine now)).take q.limit := by
  induction rs generalizing found with
  | nil => simp [examineAll, List.take_of_length_le h]
  | cons r rest ih =>
    simp only [examineAll]
    split
    · rename_i hl
      have : found.length = q.limit := by omega
      rw [← this]; simp
    · rename_i hl
      cases hx : q.examine now r with
      | none => simp [ih found h, hx]
      | some m => simpa [hx] using ih (found ++ [m]) (by simp; omega)

theorem insertByIndex_perm (r : TakeRecord) (rs : List TakeRecord) :
    (insertByIndex r rs).Perm (r :: rs) := by
  induction rs with
  | nil => exact .refl _
  | cons x xs ih =>
    simp only [insertByIndex]
    split
    · exact .refl _
    · exact (ih.cons x).trans (.swap r x xs)

theorem insertByIndex_sorted (r : TakeRecord) (rs : List TakeRecord)
    (h : rs.Pairwise fun x y => y.index ≤ x.index) :
    (insertByIndex r rs).Pairwise fun x y => y.index ≤ x.index := by
  induction rs with
  | nil => simp [insertByIndex]
  | cons x xs ih =>
    simp only [insertByIndex]
    split
    · rename_i hx
      refine List.pairwise_cons.2 ⟨fun y hy => ?_, h⟩
      rcases List.mem_cons.1 hy with rfl | hy
      · exact hx
      · exact Nat.le_trans ((List.pairwise_cons.1 h).1 y hy) hx
    · rename_i hx
      refine List.pairwise_cons.2 ⟨fun y hy => ?_, ih (List.pairwise_cons.1 h).2⟩
      rcases List.mem_cons.1 ((insertByIndex_perm r xs).mem_iff.1 hy) with rfl | hy
      · omega
      · exact (List.pairwise_cons.1 h).1 y hy

/-- The records of the table phase are the session's records, each once, in descending log index
(R159). -/
theorem tableRecords_spec (s : State) (session : Nat) :
    (s.tableRecords session).Perm ((s.takes.entries.toList.filterMap fun o => o.map Entry.copy).filter
      fun r => r.session = session) ∧
    (s.tableRecords session).Pairwise fun x y => y.index ≤ x.index := by
  unfold State.tableRecords
  generalize (s.takes.entries.toList.filterMap fun o => o.map Entry.copy).filter _ = rs
  induction rs with
  | nil => exact ⟨.refl _, .nil⟩
  | cons r rest ih =>
    exact ⟨(insertByIndex_perm r _).trans (ih.1.cons r), insertByIndex_sorted r _ ih.2⟩

/-- A commit write cut off on the last page of its take leaves no good page of it: the page is blank
or damaged (R144, log entry 6). -/
theorem logAtReset_lastPage (s : State) (left : PageLeft) (erased : List Nat) (i : Nat)
    (page : List Byte) (h : s.store.op = .commit i [page]) :
    s.logAtReset left erased = s.flash.log ∨
      s.logAtReset left erased = writePage s.store.pointer .damaged s.flash.log := by
  cases left <;> simp [State.logAtReset, h, StoreOp.writing, StoreOp.remains, leftBehind]

end Sys2Proof.Machine
end

