-- ==== Sys2Proof/Tests/Slice0.lean ====
section
/-!
SUPPORT. Tests: worked figures of the manual, the refusals of `Instr.wf`, and for each statement with
hypotheses a concrete state and operands that meet them (`witness_<statement>`).
-/

namespace Sys2Proof.Tests

open Sys2Proof Sys2Proof.Machine

/-! ### Worked figures of the manual -/

/-- The state a command leaves. -/
def after (c : Instr) (s : State) : State :=
  match exec c s with
  | .next t => t
  | _ => s

/-- Section 11.1: the CRC-16 of the bytes "123456789" is 0x29B1. -/
theorem test_crc : crc16 ([0x31, 0x32, 0x33, 0x34, 0x35, 0x36, 0x37, 0x38, 0x39].map
    (BitVec.ofNat 8)) = 0x29B1 := by decide +kernel

/-- R13 and R12: the last label of the drop-frame day. -/
theorem test_last_drop_label : labelOf 5 2589407 = ⟨23, 59, 59, 29⟩ := by decide

/-- R14: 00:01:05;00 is a label at 29.97 DF, 00:01:00;00 and 00:01:00;01 are not. -/
theorem test_drop_labels : labelOk 5 ⟨0, 1, 5, 0⟩ = true ∧ labelOk 5 ⟨0, 1, 0, 0⟩ = false ∧
    labelOk 5 ⟨0, 1, 0, 1⟩ = false ∧ labelOk 5 ⟨0, 10, 0, 0⟩ = true := by decide

/-- Section 1.10: h = 1,810,846,324 at r = 150 gives e = 1,810,849,040, 22,613 frames exactly. -/
theorem test_slate_case : deviceElapsed 150 1810846324 = 1810849040 ∧
    radioCount 5 0 150 1810846324 = 22613 ∧ radioSub 5 0 150 1810846324 = 0 := by decide

/-- The formulas of R17 and R18 give one tick less at this frame start (log entry 19). -/
theorem test_frame_start_short : houseElapsed 150 (555000 * 80080) = 44444333333 ∧
    deviceElapsed 150 44444333333 = 555000 * 80080 - 1 := by decide

/-- R177: the rates of the four pin combinations. -/
theorem test_line_rates : lineRateOf false false = 115200 ∧ lineRateOf true false = 460800 ∧
    lineRateOf false true = 921600 ∧ lineRateOf true true = 115200 := by decide

/-- R19: a pull of DOWN is 1000/1001. -/
theorem test_pull_down : samplesOf 1 1 2402400 = 48000 := by decide

/-- Section 4.7: the levels of the worked profile. -/
theorem test_levels : [0, 60, 90, 102, 200, 360, 500, 960, 5000].map (fun a =>
    levelAt a (agedPoints 0 [(4, 20), (9, 5), (11, 0)])) = [20, 20, 19, 18, 13, 5, 4, 0, 0] := by
  decide

/-- Section 2.10: the origin taken from drop-frame timecode, and the house label there. -/
theorem test_origin_case : originFor 5 1078920 960960000 0 = some 85438953600 ∧
    houseLabel 2 86399913600 = ⟨9, 59, 59, 23⟩ ∧ houseSub 2 86399913600 = 13 := by decide

/-- Section 6.10: the offsets 36 and 71 and the rates 150 and 146 of the two measurements. -/
theorem test_measurements :
    measuredOffset 80080 ⟨11, 0, 299, 45924, 0, none, 0⟩ 24000000 0 = 36 ∧
    measuredOffset 80080 ⟨11, 0, 599, 26312, 0, none, 0⟩ 48000000 0 = 71 ∧
    roundDiv (36 * rateUnit) 24000000 = 150 ∧ roundDiv ((71 - 36) * rateUnit) 24000000 = 146 := by
  decide

/-- R100: at code 5 with o = 0 and J = 86,400,000,000 a JAM carries 1,078,921. -/
theorem test_jam_frame : (roundDiv 86400000000 (periodOf 5) % dayOf 5).toNat = 1078921 := by decide

/-- Section 9.7: the slate entry of the worked conform. -/
def slateEntry : Participant :=
  { slot := 5, kind := .slate, att := .radio 11, rate := 5, audio := 0, pull := 0, phase := 0,
    origin := 0, startFrame := some 1086412, endFrame := some 1116382, rollStart := none,
    rollStop := none, rejammed := false, lineFault := none, uncertain := false,
    segments := [⟨86400000000, 1078920, 150, 6⟩] }

/-- Section 9.7: its label frame at start and end, and the source instant of label frame 1,101,533. -/
theorem test_conform_case : slateEntry.frameAt 87000000000 = some 1086412 ∧
    slateEntry.frameAt 89400000000 = some 1116382 ∧
    slateEntry.instant 87000000000 1086412 1116382 1101533 = some 88210846324 := by decide

/-- Section 9.7: the recorder's sample position at that instant. -/
theorem test_sample_case :
    samplePosition 1 1 0 864000 (deviceElapsed (-40) (88210846324 - 86400000000)) = 1765944912 := by
  decide

/-- Section 2.10: edge 8 at an error of 12,345 steps the counter by 87,655. -/
theorem test_lock_step : reduceError 100000 38212345 = 12345 ∧ (-12345 : Int) % 100000 = 87655 := by
  decide

/-! ### `Instr.wf` refuses what cannot arrive -/

/-- A request on the control port. -/
def ask : Req := ⟨.control, 7, false⟩

/-- A request on the suite port. -/
def askSuite : Req := ⟨.suite, 7, false⟩

theorem test_wf_tag : (Instr.timeNow ⟨.control, 256, false⟩).wf = false := by decide

theorem test_wf_one_byte : (Instr.setHouseRate ask 256).wf = false ∧
    (Instr.lineEnable ask 256 true).wf = false ∧ (Instr.startTake ask 256).wf = false := by decide

theorem test_wf_label : (Instr.setOrigin ask ⟨256, 0, 0, 0⟩).wf = false ∧
    (Instr.jamDevice ask 0 (some ⟨0, 256, 0, 0⟩)).wf = false ∧
    (Instr.referenceEdge (.timecode ⟨0, 0, 256, 0⟩)).wf = false := by decide

theorem test_wf_device : (Instr.declareDevice ask 0 { rate := some 256 }).wf = false ∧
    (Instr.setDevice ask 0 { kind := some 1 }).wf = false ∧
    (Instr.setDevice ask 0 { phase := some 4294967296 }).wf = false := by decide

theorem test_wf_profile : (Instr.profileBegin ask 0 1 16).wf = false ∧
    (Instr.profilePoints ask 0 [(0, 128)]).wf = false := by decide

theorem test_wf_texts : (Instr.setSlate ask ⟨0, some (List.replicate 13 65), none, []⟩).wf = false ∧
    (Instr.setSlate ask ⟨0, none, none, [(0, List.replicate 9 65)]⟩).wf = false ∧
    (Instr.markTake ask ⟨1, 1, none, none, some (List.replicate 33 65)⟩).wf = false := by decide

theorem test_wf_numbers :
    (Instr.refConfig ask ⟨0, 2, false, 240, 8, 4294967296, none⟩).wf = false ∧
    (Instr.setCommitDelay ask 4294967296).wf = false ∧
    (Instr.whereIs ask ⟨65536, 0, ⟨0, 0, 0, 0⟩, 0, none, none⟩).wf = false ∧
    (Instr.atTick ask ⟨0, 2 ^ 64, 0⟩).wf = false ∧
    (Instr.exportTakes ask ⟨1, 1, 65536, 1, false⟩).wf = false := by decide

theorem test_wf_unknown : (Instr.unknownRequest ask 1).wf = false ∧
    (Instr.unknownRequest ask 128).wf = false ∧ (Instr.unknownRequest ask 0).wf = true := by decide

theorem test_wf_events : (Instr.lineFrameEdge 16).wf = false ∧
    (Instr.lineSenseChange 16 .short).wf = false ∧ (Instr.runSenseChange 16 true).wf = false ∧
    (Instr.pollDue 32).wf = false ∧ (Instr.periodicExpiry 32).wf = false ∧
    (Instr.logEraseDone (some 8192)).wf = false ∧
    (Instr.reset false false .blank [8192]).wf = false ∧
    (Instr.echoReceived ⟨0, 0, 0, 0, 0, none, 0⟩ true).wf = false := by decide

/-! ### Witnesses: states -/

/-- The part with its start-up done and nothing declared. -/
def started : State :=
  { State.reset with store := { Store.reset with
      state := .ready, session := 1, pointer := 1, applied := true, scanEnded := true,
      scanned := true } }

/-- A slate on radio address 1 at code 5, with some live state. -/
def slate (f : Live → Live) : Device :=
  ⟨.base .slate (.radio 1) 5, f (.fresh (.radio 1) none)⟩

/-- The slate TRACKED over a segment from house tick 0. -/
def tracked : Device :=
  slate fun l => { l with
    state := .tracked, jam := some (0, 0), baseline := some (0, 0), pollLeft := some 0,
    periodicLeft := some 0 }

/-- A camera on line 15 at code 5 in unit 0, auto-roll on. -/
def camera : Device :=
  ⟨{ DeviceSettings.base .camera (.line 15) 5 with unit := some 0, autoRoll := true },
    .fresh (.line 15) none⟩

/-- The part with one device in slot 31. -/
def holding (d : Device) : State := started.setDev 31 (some d)

/-- The camera's line 15, bound and in a given state. -/
def wiredTo (enabled : Bool) (st : LineState) (sense : Sense) (run : Bool) : State :=
  (holding camera).modLine 15 fun _ => ⟨some 31, enabled, st, sense, run, none, some 80080⟩

/-- The part in LOCKED to the house pulse, one edge at counter 400,000 used. -/
def locked (now : Nat) : State :=
  { started with
    clock := ⟨now, 0⟩
    ref := { RefUnit.reset with
      set := ⟨.housePulse, 2, false, 240, 8, 600, 0⟩
      state := .locked
      lastUsed := some ⟨400000, none, 0⟩ } }

/-- A take record of session 1 in a given state. -/
def record (st : RecState) : TakeRecord :=
  { session := 1, index := 1, unit := 3, takeNo := 1, scene := [], opener := .host, state := st,
    startTick := 0, endTick := none, circled := false, falseStart := false, timeUncertain := false,
    note := none, participants := [], clapTotal := 0, claps := [] }

/-- The record of the worked conform in a given state. -/
def slated (st : RecState) : TakeRecord :=
  { record st with
    startTick := 87000000000, endTick := some 89400000000, participants := [slateEntry] }

/-- The part with that record in the take table. -/
def recorded (st : RecState) (queue : List Nat) : State :=
  { started with takes :=
    ⟨(Vector.replicate 64 none).setIfInBounds 63 (some ⟨record st, none, 0⟩), 1, queue, 1⟩ }

/-- The part with that record's take open on unit 3. -/
def rolling : State :=
  (recorded .opened []).modUnit 3 fun x => { x with current := .logged 1 1, opener := some .host }

/-- The part with an operation of the flash in flight. -/
def busyWith (op : StoreOp) : State := { started with store := { started.store with op := op } }

/-- A HOST_JAM for slot 31. -/
def hostJam : Request := ⟨.hostJam, 31, none, 0⟩

/-- The newest beacon mark. -/
def newest : Mark := ⟨3, 2400000, true⟩

/-- A transaction in flight to slot 31, at slot 1 of the second of the newest mark. -/
def inFlight (p : Packet) (echo : Option (Echo × Mark)) : Transaction :=
  ⟨⟨.poll, 31, none, 0⟩, p, 2520000, newest, 0, echo, false⟩

/-- The slate in slot 31 with that transaction, at the end of its slot. -/
def linked (d : Device) (t : Option Transaction) : State :=
  { holding d with
    clock := ⟨2640000, 0⟩
    radio := { Radio.reset with
      enabled := true, opened := true, history := [newest], flight := t,
      slotDue := some 2640000 } }

/-- An echo of the slate that names the newest mark. -/
def echo : Echo := ⟨1, 3, 30, 0, 10, none, 0⟩

/-- A port that has four requests outstanding. -/
def crowded : PortState := { PortState.reset with outstanding := List.replicate 4 ⟨1, 0, none⟩ }

/-- The settings as they stand at reset, saved. -/
def saved : PendingSave := ⟨started.snapshot, .control, 7, 0⟩

/-! ### Witnesses -/

theorem witness_StepTakesFrontCommand :
    ({ started with pending := [.settingsApply] } : State).pending = .settingsApply :: [] ∧
    (started.pending = [] ∧ started.nextDue = none) ∧
    ({ started with radio := { Radio.reset with markDue := some 2400000 } } |> fun s =>
      s.pending = [] ∧ s.radio.flight = none ∧ s.radio.markDue = some 2400000 ∧
      s.nextDue = some .beaconMark) := by
  decide +kernel

theorem witness_ResetState : started.store.op = .idle ∧ 7 < 8 ∧ 15 < 16 ∧ 3 < 4 ∧
    (busyWith (.commit 1 [[0]])).store.op = .commit 1 [[0]] := by decide

/-- R144: a reset during the write of a take's last page leaves no good page of it. -/
theorem test_reset_cuts_last_page :
    (after (.reset false false .whole []) (busyWith (.commit 1 [[0]]))).flash.log =
      [(1, .damaged)] := by decide +kernel

theorem witness_LabelRoundTrip :
    1 ≤ 5 ∧ 5 ≤ 17 ∧ labelOk 5 ⟨23, 59, 59, 29⟩ = true ∧ 2589407 < dayOf 5 ∧
    17 ≠ 5 ∧ 17 ≠ 11 ∧ 10367999 < dayOf 17 ∧ 119 < (rateOf 17).base := by decide

theorem witness_RadioFrameRoundTrip :
    1 ≤ 17 ∧ 17 ≤ 17 ∧ 10367999 < dayOf 17 ∧ 0 < dayOf 17 ∧ (-10000 : Int) ≤ -10000 ∧
    (-10000 : Int) ≤ 0 ∧ (-10000 : Int) ≤ 10000 := by decide

theorem witness_SetHouseRate :
    (Taken started ask ∧ 17 < 256 ∧ ask.port = .control ∧ 1 ≤ 17 ∧ 17 ≤ 17) ∧
    (255 < 256 ∧ (255 = 0 ∨ 17 < 255)) ∧
    (Taken started askSuite ∧ askSuite.port = .suite ∧
      (started.suite.replies.filter fun r => !r.listed).length < 4) := by
  unfold Taken; decide

/-- After a new house rate, a SET_ORIGIN is read at it and waits. -/
theorem witness_SetHouseRate_origin :
    (after (.setOrigin ask ⟨1, 0, 0, 100⟩) (after (.setHouseRate ask 17) started)).ref.waiting.isSome =
      true := by decide +kernel

theorem witness_RefConfigSets :
    Taken started ask ∧ ask.port = .control ∧ 1 ≤ 6 ∧ 6 ≤ (if Source.ltcIn = .ltcIn then 6 else 17) ∧
    1 ≤ 10000 ∧ 10000 ≤ 10000 ∧ 1 ≤ 100 ∧ 100 ≤ 100 ∧ 10 ≤ 3600 ∧ 3600 ≤ 3600 ∧
    (∀ x, some (-5000 : Int) = some x → -5000 ≤ x ∧ x ≤ 5000) := by
  refine ⟨by unfold Taken; decide, by decide, by decide, by decide, by decide, by decide,
    by decide, by decide, by decide, by decide, fun x h => ?_⟩
  cases h; decide

theorem witness_SetOriginWaits :
    Taken started ask ∧ ask.port = .control ∧ started.anyTakeOpen = false ∧
    started.ref.waiting = none ∧ labelHolds ⟨23, 59, 59, 23⟩ = true ∧
    labelOk started.house ⟨23, 59, 59, 23⟩ = true := by
  unfold Taken; decide

theorem witness_OriginForLabel :
    (1 ≤ 5 ∧ 5 ≤ 17 ∧ 1078920 < dayOf 5 ∧ 0 ≤ maxOrigin ∧
      originFor 5 1078920 960960000 0 = some 85438953600 ∧
      ((960960000 : Int) + 0) % ((dayOf 5 : Int) * periodOf 5) ≠ (1078920 : Int) * periodOf 5) ∧
    (originFor 2 0 0 0 = some 0 ∧
      ((0 : Int) + 0) % ((dayOf 2 : Int) * periodOf 2) = (0 : Int) * periodOf 2) ∧
    (2073599 < dayOf 1 ∧ originFor 1 2073599 0 0 = none ∧ maxOrigin ≤ maxOrigin) := by
  decide

/-- A SET_ORIGIN that waits for a boundary at counter 0. -/
def originWaits (frame rate : Nat) : State :=
  { started with ref := { RefUnit.reset with waiting := some ⟨frame, rate, 0, .control, 1⟩ } }

/-- The part in LOCKED to drop-frame timecode, the edge of 1,078,920 used at counter 80,080. -/
def timecoded : State :=
  { started with
    clock := ⟨160160, 0⟩
    ref := { RefUnit.reset with
      set := ⟨.ltcIn, 5, true, 240, 8, 600, 0⟩
      state := .locked
      pendingOrigin := true
      lastUsed := some ⟨80080, some 1078920, 0⟩ } }

theorem witness_OriginBoundaryApplies :
    (originWaits 5 2 |> fun s => s.ref.waiting = some ⟨5, 2, 0, .control, 1⟩ ∧
      0 ≤ s.clock.counter ∧ s.anyTakeOpen = false ∧
      originFor 2 5 s.clock.counter s.origin = some 500000 ∧ 500000 ≠ s.origin ∧
      rolling.anyTakeOpen = true) ∧
    (originWaits 2073599 1 |> fun s => s.ref.waiting = some ⟨2073599, 1, 0, .control, 1⟩ ∧
      s.anyTakeOpen = false ∧ originFor 1 2073599 s.clock.counter s.origin = none) ∧
    (timecoded.ref.set.source = .ltcIn ∧ timecoded.ref.state = .locked ∧
      timecoded.ref.lastUsed = some ⟨80080, some 1078920, 0⟩ ∧ 1 ≤ timecoded.ref.set.rate ∧
      timecoded.ref.set.rate ≤ 6 ∧
      timecoded.clock.counter = 80080 + periodOf timecoded.ref.set.rate ∧
      labelOk timecoded.ref.set.rate (labelOf 5 1078921) = true ∧
      frameOf timecoded.ref.set.rate (labelOf 5 1078921) =
        (1078920 + 1) % dayOf timecoded.ref.set.rate ∧
      (0 : Int) = reduceError (periodOf timecoded.ref.set.rate) timecoded.houseTime ∧
      (0 : Int).natAbs ≤ timecoded.ref.set.threshold ∧ timecoded.anyTakeOpen = false ∧
      timecoded.ref.pendingOrigin = true ∧
      originFor timecoded.ref.set.rate (frameOf timecoded.ref.set.rate (labelOf 5 1078921))
        (timecoded.clock.counter - 0) timecoded.origin = some 86399833520 ∧
      86399833520 ≠ timecoded.origin) := by
  decide +kernel

/-- The part in ACQUIRING at 24 frames with some edges, the last at a counter value. -/
def acquiring (source : Source) (edges last now : Nat) : State :=
  { started with
    clock := ⟨now, 0⟩
    ref := { RefUnit.reset with
      set := ⟨source, 2, false, 240, 8, 600, 0⟩
      state := .acquiring
      run := some ⟨edges, 0, last, none⟩ } }

theorem witness_EdgeBeginsAcquisition :
    (({ started with ref :=
        { RefUnit.reset with set := ⟨.housePulse, 17, false, 1, 1, 10, 0⟩ } } : State)
      |> fun s => s.ref.set.source = .housePulse ∧ s.ref.state = .free ∧ 1 ≤ s.ref.set.rate ∧
        s.ref.set.rate ≤ 17 ∧ (0 : Int) = reduceError (periodOf s.ref.set.rate) s.houseTime ∧
        started.ref.set.source = .internal ∧ EdgeInput.timecode ⟨0, 0, 0, 0⟩ ≠ .housePulse) ∧
    ({ acquiring .ltcIn 1 400000 500000 with ref :=
        { (acquiring .ltcIn 1 400000 500000).ref with run := none } } |> fun s =>
      s.ref.set.source = .ltcIn ∧ s.ref.state = .acquiring ∧ s.ref.run = none ∧
      (none : Option Nat) = if labelOk s.ref.set.rate ⟨0, 0, 0, 24⟩ then
        some (frameOf s.ref.set.rate ⟨0, 0, 0, 24⟩) else none) ∧
    (acquiring .housePulse 3 400000 501001 |> fun s => s.ref.state = .acquiring ∧
      s.ref.run = some ⟨3, 0, 400000, none⟩ ∧ 400000 ≤ s.clock.counter ∧
      periodOf s.ref.set.rate / 100 <
        ((s.clock.counter - 400000 : Nat) - (periodOf s.ref.set.rate : Int)).natAbs) ∧
    (acquiring .housePulse 6 400000 500002 |> fun s =>
      s.ref.run = some ⟨6, 0, 400000, none⟩ ∧ 6 < 7 ∧
      (2 : Int) = reduceError (periodOf s.ref.set.rate) s.houseTime ∧
      ((s.clock.counter - 400000 : Nat) - (periodOf s.ref.set.rate : Int)).natAbs ≤
        periodOf s.ref.set.rate / 100 ∧
      (reduceError (periodOf s.ref.set.rate) (2 - 0)).natAbs ≤ 2) ∧
    (acquiring .housePulse 7 400000 500001 |> fun s => s.ref.run = some ⟨7, 0, 400000, none⟩ ∧
      (1 : Int) = reduceError (periodOf s.ref.set.rate) s.houseTime ∧
      (1 : Int).natAbs ≤ s.ref.set.threshold) ∧
    ({ acquiring .housePulse 7 400000 500002 with
        origin := 239
        ref := { (acquiring .housePulse 7 400000 500002).ref with
          run := some ⟨7, 239, 400000, none⟩ } } |> fun s =>
      s.ref.run = some ⟨7, 239, 400000, none⟩ ∧
      (241 : Int) = reduceError (periodOf s.ref.set.rate) s.houseTime ∧
      (reduceError (periodOf s.ref.set.rate) (241 - 239)).natAbs ≤ 2 ∧
      s.ref.set.threshold < (241 : Int).natAbs ∧ s.anyTakeOpen = false ∧
      s.clock.counter + periodOf s.ref.set.rate ≤ maxCounter ∧ s.notices.length < 15) := by
  decide +kernel

/-- LOCKED to the LTC input at a counter value, no origin pending. -/
def lockedLtc (now : Nat) : State :=
  { locked now with ref := { (locked now).ref with
      set := { (locked now).ref.set with source := .ltcIn }, pendingOrigin := false } }

theorem witness_LockedEdgeSlews :
    (∀ s ∈ [locked 498999, locked 501001, locked 701001], s.ref.set.source = .housePulse ∧
      s.ref.state = .locked ∧ s.ref.lastUsed = some ⟨400000, none, 0⟩ ∧ 1 ≤ s.ref.set.rate ∧
      s.ref.set.rate ≤ 17 ∧ 400000 ≤ s.clock.counter ∧
      ∀ m ∈ [1, 2, 3], periodOf s.ref.set.rate / 100 <
        ((s.clock.counter - 400000 : Nat) - (m : Int) * periodOf s.ref.set.rate).natAbs) ∧
    (∀ x ∈ [(1, locked 500000), (3, { locked 700240 with origin := 0 }),
        (1, { lockedLtc 499000 with origin := 1240 }), (2, lockedLtc 600240)],
      (x.2.ref.set.source = .housePulse ∨ x.2.ref.pendingOrigin = false) ∧
      x.2.ref.state = .locked ∧ x.2.ref.lastUsed = some ⟨400000, none, 0⟩ ∧
      ((x.2.clock.counter - 400000 : Nat) - (x.1 * periodOf x.2.ref.set.rate : Int)).natAbs ≤
        periodOf x.2.ref.set.rate / 100 ∧
      (reduceError (periodOf x.2.ref.set.rate) x.2.houseTime).natAbs ≤ x.2.ref.set.threshold) ∧
    (240 : Int) = reduceError (periodOf (lockedLtc 600240).ref.set.rate)
      (lockedLtc 600240).houseTime ∧
    (lockedLtc 600240).ref.set.source = .ltcIn ∧
    (lockedLtc 600240).ref.set.slew < (240 : Int).natAbs ∧
    (∃ l, l = (locked 500000).ref.list ++ [((0 : Int), 1)]) := by
  refine ⟨by decide, by decide, by decide, by decide, by decide, _, rfl⟩

theorem witness_LockedEdgeSteps :
    ∀ x ∈ [(1, (locked 500241).setDev 31 (some tracked)),
        (3, (lockedLtc 700241).setDev 31 (some tracked))],
      (x.2.ref.set.source = .housePulse ∨ (x.2.ref.set.source = .ltcIn ∧
        x.2.ref.pendingOrigin = false)) ∧ x.2.ref.state = .locked ∧
      x.2.ref.lastUsed = some ⟨400000, none, 0⟩ ∧ 1 ≤ x.2.ref.set.rate ∧ x.2.ref.set.rate ≤ 17 ∧
      400000 ≤ x.2.clock.counter ∧
      ((x.2.clock.counter - 400000 : Nat) - (x.1 * periodOf x.2.ref.set.rate : Int)).natAbs ≤
        periodOf x.2.ref.set.rate / 100 ∧
      (241 : Int) = reduceError (periodOf x.2.ref.set.rate) x.2.houseTime ∧
      x.2.ref.set.threshold < (241 : Int).natAbs ∧ x.2.anyTakeOpen = false ∧
      x.2.clock.counter + periodOf x.2.ref.set.rate ≤ maxCounter ∧ x.2.dev 31 = some tracked ∧
      tracked.isRadio = true ∧ tracked.live.jam ≠ none ∧ tracked.live.state = .tracked := by
  decide +kernel

theorem witness_ReferenceWaits :
    (({ locked 500000 with ref := { (locked 500000).ref with
        state := .acquiring, run := some ⟨1, 0, 100000, none⟩ } } : State) |> fun s =>
      s.ref.state = .acquiring ∧ s.ref.run = some ⟨1, 0, 100000, none⟩ ∧
      100000 + 4 * periodOf s.ref.set.rate ≤ s.clock.counter) ∧
    ((locked 800000).ref.state = .locked ∧
      (locked 800000).ref.lastUsed = some ⟨400000, none, 0⟩ ∧
      400000 + 4 * periodOf (locked 800000).ref.set.rate ≤ (locked 800000).clock.counter) ∧
    (({ locked 1440000000 with ref := { (locked 0).ref with
        state := .holdover, holdoverStart := some 0 } } : State) |> fun s =>
      s.ref.state = .holdover ∧ s.ref.holdoverStart = some 0 ∧
      0 + s.ref.set.holdover * 2400000 ≤ s.clock.counter) := by
  decide

theorem witness_TickGain :
    (({ locked 500000 with ref := { (locked 0).ref with
        correction := some ⟨-100, 100000, 1⟩ } } : State) |> fun s =>
      1 ≤ s.ref.set.rate ∧ s.ref.set.rate ≤ 17 ∧
      s.ref.correction = some ⟨-100, 100000, 1⟩ ∧ 100000 = periodOf s.ref.set.rate ∧
      s.clock.frac < totalParts ∧ s.clock.counter + 3 ≤ maxCounter ∧ -5000 ≤ s.ref.set.trim ∧
      s.ref.set.trim ≤ 5000 ∧ (-100 : Int).natAbs ≤ 100) ∧
    (({ (wiredTo true .active .present false) with clock := ⟨2399999, 0⟩ } : State) |> fun s =>
      s.ref.correction = none ∧ s.houseTime < 2400000 ∧ 2400000 ≤ s.tick.houseTime ∧
      2400000 % 2400000 = 0 ∧ 2400000 % 120000 = 0) ∧
    (({ (wiredTo true .active .present false) with clock := ⟨2402399, 0⟩ } : State) |> fun s =>
      (s.line 15).state = .active ∧ (s.line 15).bound = some 31 ∧ s.dev 31 = some camera ∧
      s.houseTime < 2402400 ∧ 2402400 ≤ s.tick.houseTime ∧
      (2402400 + camera.set.phase) % periodOf camera.set.rate = 0) := by
  decide +kernel

/-- A declaration of a camera on line 15 in unit 3. -/
def declaration : DeviceArgs :=
  { kind := some 0, att := some (0, 15), unit := some 3, rate := some 17, phase := some 19999 }

/-- The part after start-up, line 15's run sense at a level. -/
def runAt (run : Bool) : State :=
  started.modLine 15 fun l => { l with run := run }

theorem witness_DeviceDeclared :
    (∀ s ∈ [runAt true, runAt false], ∀ a ∈ [declaration,
        { declaration with autoRoll := some true }],
      Taken s ask ∧ ask.port = .control ∧ s.store.applied = true ∧ 31 < 32 ∧
      s.dev 31 = none ∧ a.fits = true ∧ a.kind = some Kind.camera.code ∧
      a.att = some (Attachment.line 15).codes ∧ a.rate = some 17 ∧
      settingsOk a 17 = true ∧ suits .camera (.line 15) = true ∧
      s.attachmentHeld 31 (.line 15) = false ∧
      s.unitFull (a.unit.bind orNone) = false ∧ a.unit.bind orNone = some 3) ∧
    ((runAt true).line 15).run = true ∧ ((runAt false).line 15).run = false ∧
    (runAt true).store.scanned = true ∧ ((runAt true).unit 3).current = .none ∧
    (∀ x ∈ (runAt true).takes.entries.toList, x = none) := by
  unfold Taken; decide +kernel

/-- The camera's take open on unit 0, by its run tally. -/
def tallyOpen : State :=
  (wiredTo true .active .present true).modUnit 0 fun x =>
    { x with current := .logged 1 1, opener := some .rollSense }

theorem tallyOpen_others : ∀ x ∈ tallyOpen.assigned 0, x.1 ≠ 31 →
    x.2.set.att ≠ .line 15 ∧ tallyOpen.tallies x.2 = false := by
  decide +kernel

/-- The camera with auto-roll off. -/
def manualCamera : Device := { camera with set := { camera.set with autoRoll := false } }

theorem witness_RateChangeUnjams :
    (Taken (holding tracked) ask ∧ ask.port = .control ∧ (holding tracked).store.applied = true ∧
      31 < 32 ∧ (holding tracked).dev 31 = some tracked ∧ tracked.isRadio = true ∧
      suits tracked.set.kind tracked.set.att = true ∧ tracked.set.autoRoll = false ∧
      tracked.set.phase = 0 ∧ 1 ≤ 17 ∧ 17 ≤ 17 ∧ tracked.set.origin < dayOf 17 ∧
      17 ≠ tracked.set.rate ∧ tracked.live.current = .none ∧ tracked.set.placed = true ∧
      rateCodeOk tracked.set.rate = true ∧ Attachment.radio 250 ≠ tracked.set.att ∧
      suits tracked.set.kind (.radio 250) = true ∧ attachmentOk (.radio 250) = true ∧
      (holding tracked).attachmentHeld 31 (.radio 250) = false) ∧
    (holding camera |> fun s => Taken s ask ∧ s.store.applied = true ∧ s.dev 31 = some camera ∧
      suits camera.set.kind camera.set.att = true ∧ camera.isRadio = false ∧
      camera.set.att = .line 15 ∧ 15 < 16 ∧ camera.live.current = .none ∧
      (∃ new : DeviceSettings, new = { camera.set with rate := 17, phase := 19999 } ∧
        new.rate ≤ 17 ∧ new.origin < dayOf new.rate ∧ new.phase < periodOf new.rate)) ∧
    (holding camera |> fun s => camera.set.placed = true ∧ rateCodeOk camera.set.rate = true ∧
      camera.set.unit = some 0 ∧ camera.set.unit ≠ orNone 255 ∧ s.unitFull (orNone 255) = false ∧
      (s.unit 0).current = .none) ∧
    (wiredTo true .active .present true |> fun s => (s.line 15).run = true ∧
      s.store.scanned = true) ∧
    (manualCamera.set.kind = .camera ∧ manualCamera.set.autoRoll = false ∧
      manualCamera.set.placed = true ∧ suits .camera (.line 3) = true ∧
      attachmentOk (.line 3) = true ∧ (holding manualCamera).attachmentHeld 31 (.line 3) = false ∧
      (holding manualCamera).dev 31 = some manualCamera ∧
      ((holding manualCamera).line 15).state = .disabled) ∧
    (tallyOpen.dev 31 = some camera ∧ camera.set.autoRoll = true ∧ (tallyOpen.line 15).run = true ∧
      (tallyOpen.unit 0).current ≠ .none ∧ (tallyOpen.unit 0).opener = some .rollSense ∧
      tallyOpen.settled) := by
  unfold Taken State.settled State.nothingToWrite
  exact ⟨by decide +kernel, ⟨by decide +kernel, by decide +kernel, by decide +kernel,
    by decide +kernel, by decide +kernel, by decide +kernel, by decide, by decide +kernel,
    _, rfl, by decide, by decide, by decide⟩, by decide +kernel, by decide +kernel,
    by decide +kernel, by decide +kernel⟩

/-- The camera in an open logged take. -/
def cameraInTake : Device :=
  { camera with live := { camera.live with current := .logged 1 1 } }

theorem witness_DeviceRemovedUnlessInTake :
    (Taken (holding tracked) ask ∧ (holding tracked).store.applied = true ∧
      (holding tracked).dev 31 = some tracked ∧ tracked.live.current = .none ∧
      tracked.set.unit = none) ∧
    (Taken (holding cameraInTake) ask ∧ ask.port = .control ∧
      (holding cameraInTake).store.applied = true ∧ 31 < 32 ∧
      (holding cameraInTake).dev 31 = some cameraInTake ∧ cameraInTake.live.current ≠ .none ∧
      3 < 4 ∧ cameraInTake.set.unit ≠ some 3 ∧ ((holding cameraInTake).assigned 3).length < 12 ∧
      suits cameraInTake.set.kind cameraInTake.set.att = true ∧
      rateCodeOk cameraInTake.set.rate = true ∧ cameraInTake.set.placed = true ∧
      cameraInTake.isRadio = false) := by
  unfold Taken; decide +kernel

theorem witness_HostJamPosted :
    Taken (holding (slate id)) ask ∧ ask.port = .control ∧
    (holding (slate id)).store.applied = true ∧ 31 < 32 ∧
    (holding (slate id)).dev 31 = some (slate id) ∧ (slate id).isRadio = true ∧
    (slate id).heldBack = false ∧ (slate id).live.state = .unjammed ∧
    tracked.live.state ≠ .unjammed ∧ labelHolds ⟨23, 59, 59, 29⟩ = true ∧
    labelOk (slate id).set.rate ⟨23, 59, 59, 29⟩ = true := by
  unfold Taken; decide +kernel

theorem witness_LineEnabled :
    (wiredTo false .disabled .short false |> fun s => Taken s ask ∧ ask.port = .control ∧
      s.store.applied = true ∧ 15 < 16 ∧ (s.line 15).bound = some 31 ∧
      (s.line 15).enabled = false ∧ (s.line 15).state = .disabled) ∧
    (wiredTo true .active .present false |> fun s => Taken s ask ∧ s.store.applied = true ∧
      (s.line 15).bound = some 31 ∧ (s.line 15).enabled = true ∧ (s.line 15).state = .active ∧
      s.currentOf 31 = .none) := by
  unfold Taken; decide +kernel

theorem witness_LineEmitsFrameWord :
    wiredTo true .active .present false |> fun s => 15 < 16 ∧ (s.line 15).state = .active ∧
      (s.line 15).bound = some 31 ∧ s.dev 31 = some camera ∧
      (s.line 15).edgeDue = some 80080 ∧
      (80080 + camera.set.phase) % periodOf camera.set.rate = 0 ∧ 1 ≤ camera.set.rate ∧
      camera.set.rate ≤ 17 := by
  decide +kernel

theorem witness_LineSenseTaken :
    (wiredTo false .disabled .opened false |> fun s => 15 < 16 ∧ (s.line 15).sense ≠ .present ∧
      (s.line 15).bound = some 31 ∧ (s.line 15).enabled = false ∧
      (s.line 15).state = .disabled) ∧
    ((wiredTo true .active .present false).modLive 31 (fun l => { l with current := .logged 1 1 })
      |> fun s => { s with takes := (recorded .opened []).takes } |> fun s =>
      (s.line 15).sense ≠ .short ∧ (s.line 15).bound = some 31 ∧ (s.line 15).enabled = true ∧
      (s.line 15).state = .active ∧ Sense.short ≠ .present ∧ s.currentOf 31 = .logged 1 1 ∧
      s.findTake 1 1 = some ⟨record .opened, none, 0⟩ ∧ (record .opened).state = .opened) ∧
    ((wiredTo true .active .present false).modLive 31 (fun l => { l with current := .unlogged 0 })
      |> fun s => (s.line 15).state = .active ∧ s.currentOf 31 = .unlogged 0) ∧
    (wiredTo true .faultShort .short false |> fun s => (s.line 15).sense ≠ .present ∧
      (s.line 15).bound = some 31 ∧ (s.line 15).enabled = true ∧
      (s.line 15).state = .faultShort) := by
  decide +kernel

theorem witness_RunTallyOpensAndCloses :
    (15 < 16 ∧ ∀ slot d, (started.line 15).bound = some slot → started.dev slot = some d →
      d.set.kind ≠ .camera ∨ d.set.autoRoll = false) ∧
    (wiredTo true .active .present false |> fun s => 31 < 32 ∧ 0 < 4 ∧
      (s.line 15).bound = some 31 ∧ s.dev 31 = some camera ∧ camera.set.kind = .camera ∧
      camera.set.att = .line 15 ∧ camera.set.autoRoll = true ∧ camera.set.unit = some 0 ∧
      s.store.scanned = true ∧ (s.line 15).run = false ∧ (s.unit 0).current = .none) ∧
    ((tallyOpen.line 15).bound = some 31 ∧ tallyOpen.dev 31 = some camera ∧
      tallyOpen.store.scanned = true ∧ (tallyOpen.line 15).run = true ∧
      (tallyOpen.unit 0).current = .logged 1 1 ∧ (tallyOpen.unit 0).opener = some .rollSense) := by
  refine ⟨⟨by decide, fun slot d h => ?_⟩, by decide +kernel, by decide +kernel⟩
  have : (started.line 15).bound = none := by decide +kernel
  simp [this] at h

/-- A profile being loaded, one point of five stored. -/
def loading : State := started.setProfile 7 (.make .loading 5 0 [(0, 1)])

/-- Four points at the ends of their ranges. -/
def fourPoints : List (Nat × Int) := [(15, -127), (0, 127), (0, 0), (1, 1)]

theorem witness_ProfileLoaded :
    Taken loading ask ∧ ask.port = .control ∧ loading.store.applied = true ∧ 7 < 8 ∧
    (1 ≤ 12 ∧ 12 ≤ 12 ∧ (-8 : Int) ≤ -8 ∧ (-8 : Int) ≤ 7) ∧
    1 ≤ fourPoints.length ∧ fourPoints.length ≤ 4 ∧ (loading.profile 7).state = .loading ∧
    (loading.profile 7).points.length + fourPoints.length ≤ (loading.profile 7).count ∧
    (∀ x ∈ fourPoints, x.1 ≤ 15 ∧ -127 ≤ x.2 ∧ x.2 ≤ 127) := by
  unfold Taken; decide +kernel

theorem witness_StatusRequestsOnlyReport :
    Taken started ask ∧ Taken started askSuite ∧ 7 < 8 ∧ 31 < 32 ∧ 3 < 4 ∧
    started.dev 31 = none := by
  unfold Taken; decide +kernel

theorem witness_RadioEnabled :
    (Taken started ask ∧ ask.port = .control ∧ started.store.applied = true ∧
      started.radio.enabled = false) ∧
    (linked tracked (some (inFlight (.poll 1) none)) |> fun s => Taken s ask ∧
      s.store.applied = true ∧ s.radio.enabled = true ∧
      s.radio.flight = some (inFlight (.poll 1) none) ∧
      (inFlight (.poll 1) none).request.cls ≠ .display ∧
      (inFlight (.poll 1) none).dropped = false) ∧
    (linked tracked none |> fun s => Taken s ask ∧ s.radio.enabled = true ∧
      s.radio.flight = none) := by
  unfold Taken; decide +kernel

/-- The slate in slot 31 with a mark due that gives out a number. -/
def atMark (number : Nat) (d : Device) : State :=
  { holding d with radio := { Radio.reset with
    enabled := true, next := number, markDue := some 2400000 } }

/-- The slate TRACKED with twice the tolerance predicted, quiet in a take or not. -/
def nearTolerance (missed : Nat) (quiet : Bool) : Device :=
  { tracked with
    set := { tracked.set with quiet := quiet }
    live := { tracked.live with
      predicted := 40040000, missedRejams := missed
      current := if quiet then .logged 1 1 else .none } }

/-- The slate measured over the profile it names before that was changed. -/
def measured : Device :=
  { tracked with
    set := { tracked.set with profile := some 0 }
    live := { tracked.live with hasMeas := true, anchorAge := some 3, age := 50 } }

theorem witness_BeaconMarkTaken :
    (atMark 255 tracked |> fun s => s.radio.markDue = some 2400000 ∧ s.radio.flight = none ∧
      s.radio.next % 4 ≠ 0 ∧ s.dev 31 = some tracked ∧ tracked.isRadio = true ∧
      tracked.set.quiet = false) ∧
    (atMark 252 (nearTolerance 0 false) |> fun s => s.radio.next % 4 = 0 ∧
      s.dev 31 = some (nearTolerance 0 false) ∧ (nearTolerance 0 false).live.state = .tracked ∧
      (nearTolerance 0 false).live.hasMeas = false ∧ (nearTolerance 0 false).heldBack = false ∧
      1000 * ((nearTolerance 0 false).set.tolerance *
        periodOf (nearTolerance 0 false).set.rate / 8) ≤
        (((after .beaconMark s).dev 31).map fun e => e.live.predicted.natAbs).getD 0) ∧
    (atMark 252 (nearTolerance 1 true) |> fun s => (nearTolerance 1 true).heldBack = true ∧
      (nearTolerance 1 true).live.missedRejams = 1 ∧
      2000 * ((nearTolerance 1 true).set.tolerance *
        periodOf (nearTolerance 1 true).set.rate / 8) ≤
        (((after .beaconMark s).dev 31).map fun e => e.live.predicted.natAbs).getD 0) ∧
    (measured.live.hasMeas = true ∧ measured.live.crc ≠ started.profileCrc measured.set.profile ∧
      measured.isRadio = true ∧ measured.live.state = .tracked) := by
  decide +kernel

/-- The slate OUT_OF_RANGE with its poll countdown run out. -/
def silentSlate : Device := slate fun l => { l with state := .outOfRange, pollLeft := some 0 }

/-- The slate TRACKED with a periodic interval. -/
def periodicSlate : Device := { tracked with set := { tracked.set with periodic := 63 } }

/-- The slate with a periodic interval, quiet and in a take. -/
def heldSlate (missed : Nat) (st : DevState) : Device :=
  { periodicSlate with
    set := { periodicSlate.set with quiet := true }
    live := { periodicSlate.live with
      state := st, missedRejams := missed, current := .logged 1 1 } }

theorem witness_CountdownsExpire :
    (31 < 32 ∧ (holding silentSlate).dev 31 = some silentSlate ∧
      silentSlate.live.pollLeft = some 0 ∧ silentSlate.live.state = .outOfRange) ∧
    ((holding periodicSlate).dev 31 = some periodicSlate ∧
      periodicSlate.live.pollLeft = some 0 ∧ periodicSlate.live.periodicLeft = some 0 ∧
      periodicSlate.live.state = .tracked ∧
      1 ≤ periodicSlate.set.periodic ∧ periodicSlate.heldBack = false) ∧
    (∀ n ∈ [0, 1], (holding (heldSlate n .tracked)).dev 31 = some (heldSlate n .tracked) ∧
      (heldSlate n .tracked).heldBack = true ∧ (heldSlate n .tracked).live.missedRejams = n ∧
      (heldSlate n .tracked).live.periodicLeft = some 0 ∧
      1 ≤ (heldSlate n .tracked).set.periodic) ∧
    (heldSlate 2 .drifting).heldBack = true ∧
    ({ holding (heldSlate 1 .tracked) with takes := (recorded .opened []).takes }).findTake 1 1 =
      some ⟨record .opened, none, 0⟩ := by
  decide +kernel

theorem witness_SlotStartTakesHostJam :
    ∀ x ∈ [hostJam, { hostJam with frame := some 2589407 }],
      ({ linked tracked none with radio := { (linked tracked none).radio with
        requests := [x] } } : State) |> fun s =>
      s.radio.opened = true ∧ s.radio.flight = none ∧ s.radio.slotDue = some 2640000 ∧
      2640000 % 2400000 ≠ 0 ∧ s.radio.history.getLast? = some newest ∧
      s.radio.classSet .hostJam = [x] ∧ s.dev x.slot = some tracked ∧
      tracked.set.att = .radio 1 ∧ tracked.heldBack = false := by
  decide +kernel

/-- The slate quiet and in a take. -/
def quietInTake : Device :=
  { tracked with
    set := { tracked.set with quiet := true }
    live := { tracked.live with current := .logged 1 1 } }

/-- A slot start with a DRIFT and a POLL waiting for it. -/
def quietLink : State :=
  { linked quietInTake none with radio := { (linked quietInTake none).radio with
      requests := [⟨.drift, 31, none, 0⟩, ⟨.poll, 31, none, 1⟩] } }

theorem witness_QuietDeviceNotJammed :
    exec .slotStart quietLink = .next (after .slotStart quietLink) ∧
    quietLink.radio.flight = none ∧
    ((after .slotStart quietLink).radio.flight.map fun f => f.request) = some ⟨.poll, 31, none, 1⟩ ∧
    quietLink.dev 31 = some quietInTake ∧ quietInTake.set.quiet = true ∧
    quietInTake.live.current ≠ .none :=
  ⟨rfl, by decide +kernel⟩

theorem witness_EchoAccepted :
    ({ linked tracked (some (inFlight (.poll 1) none)) with clock := ⟨2639999, 0⟩ } : State)
      |> fun s => s.radio.flight = some (inFlight (.poll 1) none) ∧
        (inFlight (.poll 1) none).echo = none ∧ s.houseTime < 2520000 + 120000 ∧
        (inFlight (.poll 1) none).packet = .poll echo.address ∧ newest ∈ s.radio.history ∧
        newest.sent = true ∧ newest.number = echo.beacon ∧
        (∀ x ∈ s.radio.history, x.number = echo.beacon → x = newest) := by
  decide +kernel

/-- The slate with a number of missed replies. -/
def missing (n : Nat) : Device :=
  { tracked with live := { tracked.live with missedReplies := n } }

/-- A JAM in flight to slot 31, posted by the host. -/
def jamming (e : Option (Echo × Mark)) : Transaction :=
  { inFlight (.jam 1 3 5 0) e with request := hostJam }

theorem witness_MissedReplyCounted :
    (linked (missing 1) (some (inFlight (.poll 1) none)) |> fun s =>
      s.radio.flight = some (inFlight (.poll 1) none) ∧
      (inFlight (.poll 1) none).packet = .poll 1 ∧ (inFlight (.poll 1) none).echo = none ∧
      (inFlight (.poll 1) none).dropped = false ∧
      (inFlight (.poll 1) none).start + 120000 ≤ s.houseTime ∧
      s.dev (inFlight (.poll 1) none).request.slot = some (missing 1) ∧ 31 < 32 ∧
      (missing 1).live.state = .tracked ∧ (missing 1).live.missedReplies < 2) ∧
    (linked (missing 2) (some (jamming none)) |> fun s =>
      s.radio.flight = some (jamming none) ∧ s.dev 31 = some (missing 2) ∧
      (jamming none).packet = .jam 1 3 5 0 ∧ s.radio.requests = [] ∧
      (missing 2).live.state = .tracked ∧ (missing 2).live.missedReplies = 2) ∧
    (linked (slate id) (some (jamming none)) |> fun s =>
      s.dev 31 = some (slate id) ∧ (slate id).live.state = .unjammed) ∧
    ((jamming (some (echo, ⟨2, 0, true⟩))).echo = some (echo, ⟨2, 0, true⟩) ∧ 2 ≠ 3 ∧
      (slate id).live.jam = none ∧ (slate id).live.current = .none) := by
  decide +kernel

/-- The slate in an open logged take. -/
def inTake : Device := { tracked with live := { tracked.live with current := .logged 1 1 } }

theorem witness_JamConfirmed :
    inFlight (.jam 1 3 5 0) (some (echo, newest)) |> fun f =>
      ((linked tracked (some f)).radio.flight = some f ∧ f.packet = .jam 1 3 5 f.frame ∧
        f.echo = some (echo, f.mark) ∧ f.mark.number = 3 ∧ f.dropped = false ∧
        f.start + 120000 ≤ (linked tracked (some f)).houseTime ∧
        (linked tracked (some f)).dev f.request.slot = some tracked ∧ f.request.slot < 32 ∧
        tracked.live.lastClap = none ∧ tracked.live.current = .none) ∧
      ({ linked inTake (some f) with takes := (recorded .opened []).takes } |> fun s =>
        s.dev f.request.slot = some inTake ∧ inTake.live.current = .logged 1 1 ∧
        inTake.live.lastClap = none ∧ s.findTake 1 1 = some ⟨record .opened, none, 0⟩) := by
  decide +kernel

/-- The slate OUT_OF_RANGE over a segment. -/
def lostSlate : Device := { tracked with live := { tracked.live with state := .outOfRange } }

/-- The slate in a take with 255 claps counted at its last echo. -/
def clapped : Device := { inTake with live := { inTake.live with lastClap := some 255 } }

theorem witness_EchoMeasures :
    (inFlight (.poll 1) (some (echo, newest)) |> fun f =>
      (linked tracked (some f)).radio.flight = some f ∧ f.packet = .poll 1 ∧
      f.echo = some (echo, newest) ∧ f.dropped = false ∧
      f.start + 120000 ≤ (linked tracked (some f)).houseTime ∧
      (linked tracked (some f)).dev f.request.slot = some tracked ∧ f.request.slot < 32 ∧
      tracked.live.state = .tracked ∧ tracked.live.current = .none ∧
      tracked.live.jam = some (0, 0) ∧ tracked.live.baseline = some (0, 0) ∧
      (linked tracked (some f)).radio.entriesAfter newest.number <
        (linked tracked (some f)).marks ∧
      (0 : Int) ≤ newest.tick ∧ (0 : Int) < newest.tick) ∧
    (silentSlate.live.jam = none ∧ silentSlate.live.state = .outOfRange ∧
      silentSlate.live.current = .none) ∧
    (lostSlate.live.state = .outOfRange ∧ lostSlate.live.jam = some (0, 0) ∧
      lostSlate.live.baseline = some (0, 0) ∧
      (2400 : Int).natAbs < lostSlate.set.tolerance * periodOf lostSlate.set.rate / 8 ∧
      Nearest 2400 (((30 * 65536 + 0) * periodOf lostSlate.set.rate : Nat) - 2400000 * 65536)
        65536) ∧
    ({ linked clapped (some (inFlight (.poll 1) (some (echo, newest)))) with
        takes := (recorded .opened []).takes } |> fun s =>
      s.dev 31 = some clapped ∧ clapped.live.current = .logged 1 1 ∧ clapped.set.kind = .slate ∧
      s.findTake 1 1 = some ⟨record .opened, none, 0⟩ ∧
      clapped.live.lastClap = some 255 ∧ 255 ≠ echo.clapCount ∧
      (record .opened).claps.length < 4) := by
  unfold Nearest; decide +kernel

/-- A SET_SLATE of unit 0 with a scene and a roll name. -/
def slateArgs : SlateArgs := ⟨0, some [65], none, [(31, [66])]⟩

theorem witness_SlateSet :
    Taken (holding camera) ask ∧ ask.port = .control ∧ slateArgs.fits = true ∧
    slateArgs.unit < 4 ∧ ((holding camera).unit 0).current = .none ∧
    (holding camera).slateOk slateArgs = true ∧ slateArgs.takeNo = none ∧
    [65] ≠ ((holding camera).unit 0).info.scene := by
  unfold Taken; decide +kernel

/-- The camera's part with every entry of the take table holding a record. -/
def full (st : RecState) : State :=
  { holding camera with
    takes := ⟨Vector.replicate 64 (some ⟨record st, none, 0⟩), 1, [], 1⟩ }

theorem witness_TakeOpens :
    (Taken (holding camera) ask ∧ ask.port = .control ∧ 0 < 4 ∧
      (holding camera).store.scanned = true ∧ ((holding camera).unit 0).current = .none ∧
      (holding camera).assigned 0 ≠ [] ∧ 1 = (holding camera).takes.lastIndex + 1 ∧
      (∀ e, some e ∈ (holding camera).takes.entries.toList →
        e.copy.session = (holding camera).store.session →
        e.copy.index ≤ (holding camera).takes.lastIndex) ∧
      (∃ k : Fin 64, ∀ e, (holding camera).takes.entries[k] = some e →
        e.copy.state = .committed)) ∧
    (full .committed |> fun s => Taken s ask ∧ s.store.scanned = true ∧
      (s.unit 0).current = .none ∧ s.assigned 0 ≠ [] ∧
      ∃ k : Fin 64, ∀ e, s.takes.entries[k] = some e → e.copy.state = .committed) ∧
    (full .closed |> fun s => Taken s ask ∧
      ∀ k : Fin 64, ∃ e, s.takes.entries[k] = some e ∧ e.copy.state ≠ .committed) := by
  unfold Taken
  refine ⟨⟨by decide +kernel, by decide, by decide, by decide, by decide +kernel,
    by decide +kernel, by decide, fun e h => ?_, 0, fun e h => ?_⟩,
    ⟨by decide +kernel, by decide, by decide +kernel, by decide +kernel, 0, fun e h => ?_⟩,
    by decide +kernel, fun k => ⟨⟨record .closed, none, 0⟩, ?_, by decide⟩⟩
  · simp [holding, started, State.setDev, State.reset, State.afterReset, TakeTable.reset] at h
  · simp [holding, started, State.setDev, State.reset, State.afterReset, TakeTable.reset] at h
  · simp [full] at h; subst h; rfl
  · simp [full]

theorem witness_TakeCloses :
    (Taken rolling ask ∧ ask.port = .control ∧ 3 < 4 ∧ 1 = rolling.store.session ∧
      (rolling.unit 3).current = .logged 1 1 ∧
      rolling.findTake 1 1 = some ⟨record .opened, none, 0⟩ ∧ (record .opened).state = .opened ∧
      rolling.exporter.phase = .idle ∧ rolling.settled) ∧
    (started.modUnit 3 (fun x => { x with current := .unlogged 3, opener := some .host })
      |> fun s => Taken s ask ∧ (s.unit 3).current = .unlogged 3 ∧ s.settled) := by
  unfold Taken State.settled State.nothingToWrite; decide +kernel

/-- A MARK_TAKE that carries every change. -/
def marking : MarkArgs := ⟨1, 1, some true, some false, some [65]⟩

theorem witness_TakeMarked :
    (Taken rolling ask ∧ ask.port = .control ∧ marking.fits = true ∧ markChanges marking = true ∧
      marking.session = rolling.store.session ∧ 1 ≤ marking.index ∧
      marking.index ≤ rolling.takes.lastIndex ∧
      rolling.findTake marking.session marking.index = some ⟨record .opened, none, 0⟩ ∧
      rolling.settled) ∧
    ({ recorded .closed [] with store := (busyWith (.settings 1)).store } |> fun s =>
      s.findTake marking.session marking.index = some ⟨record .closed, none, 0⟩ ∧
      s.exporter.phase = .idle ∧ s.settled) ∧
    (∀ st ∈ [RecState.committing, .committed],
      { recorded st [] with store := (busyWith (.settings 1)).store } |> fun s =>
      Taken s ask ∧ marking.session = s.store.session ∧ marking.index ≤ s.takes.lastIndex ∧
      s.findTake marking.session marking.index = some ⟨record st, none, 0⟩ ∧
      s.exporter.phase = .idle ∧
      s.store.op ≠ .idle ∧ s.store.amendments.length < 16 ∧
      ∀ x ∈ s.store.amendments, ¬ (x.session = marking.session ∧ x.index = marking.index)) ∧
    ({ started with
        store := (busyWith (.settings 1)).store, takes := { TakeTable.reset with lastIndex := 1 } }
      |> fun s => marking.index ≤ s.takes.lastIndex ∧
      s.findTake marking.session marking.index = none ∧ s.store.op ≠ .idle) := by
  unfold Taken State.settled State.nothingToWrite; decide +kernel

theorem witness_DelayAndFlush :
    (Taken started ask ∧ ask.port = .control ∧ started.store.applied = true ∧ 255 ≤ 255 ∧
      started.store.scanned = true ∧ started.takes.queue = []) ∧
    ({ recorded .closed [1] with store := (busyWith (.settings 1)).store } |> fun s =>
      Taken s ask ∧ s.store.scanned = true ∧ s.takes.queue ≠ [] ∧ s.store.state = .ready ∧
      s.store.op ≠ .idle) := by
  unfold Taken; decide +kernel

theorem witness_LogCleared :
    (Taken started ask ∧ ask.port = .control ∧ started.store.scanned = true ∧
      started.anyTakeOpen = false ∧ started.store.clear = none ∧ started.store.save = none ∧
      started.store.reads = [] ∧ started.store.op = .idle ∧ started.takes.queue = [] ∧
      started.store.amendments = []) ∧
    (busyWith .erase).store.op = .erase ∧
    ({ busyWith .erase with store := { (busyWith .erase).store with
        clear := some ⟨.control, 7, 0⟩ } } |> fun s =>
      s.store.op = .erase ∧ 8191 < 8192 ∧ s.store.clear = some ⟨.control, 7, 0⟩ ∧
      s.store.save = none ∧ s.store.reads = []) := by
  unfold Taken; decide +kernel

/-- The settings write in flight at an attempt. -/
def saving (n : Nat) : State :=
  { started with store := { started.store with op := .settings n, save := some saved } }

theorem witness_SettingsSaved :
    (Taken started ask ∧ ask.port = .control ∧ started.store.scanned = true ∧
      started.store.save = none ∧ started.store.clear = none ∧ started.store.op = .idle) ∧
    ((saving 2).store.op = .settings 2 ∧ (saving 2).store.clear = none ∧
      (saving 2).store.reads = [] ∧ (saving 2).nothingToWrite) ∧
    ((saving 1).store.op = .settings 1 ∧ (saving 1).nothingToWrite) ∧
    (saving 1).store.save = some saved := by
  unfold Taken State.nothingToWrite
  exact ⟨by decide +kernel, by decide +kernel, by decide +kernel, rfl⟩

/-- A closed take at the head, two seconds after its close. -/
def duePast : State := { recorded .closed [1] with clock := ⟨4800000, 0⟩ }

theorem witness_CommitBegins :
    (duePast.store.op = .idle ∧ duePast.store.state = .ready ∧ duePast.store.save = none ∧
      duePast.store.clear = none ∧ duePast.store.reads = [] ∧ duePast.store.amendments = [] ∧
      duePast.takes.queue = [1] ∧
      duePast.findTake duePast.store.session 1 = some ⟨record .closed, none, 0⟩ ∧
      1 ≤ duePast.store.delay ∧ 0 + duePast.store.delay * 2400000 ≤ duePast.clock.counter ∧
      1 = (chunks 243 (encodeTake (record .committing))).length ∧
      duePast.store.pointer + 1 ≤ 8192) ∧
    ({ duePast with store := { duePast.store with pointer := 8192 } } |> fun s =>
      s.findTake s.store.session 1 = some ⟨record .closed, none, 0⟩ ∧
      8192 < s.store.pointer + 1 ∧ s.store.reads = []) := by
  decide +kernel

/-- A page write at a page, with some failures at it before. -/
def writingPage (op : StoreOp) (pointer failures : Nat) : State :=
  { recorded .committing [1] with store := { started.store with
      op := op, pointer := pointer, failures := failures } }

theorem witness_PageWriteChecked :
    (writingPage (.commit 1 [[1], [2]]) 8190 1 |> fun s => s.store.op = .commit 1 [[1], [2]] ∧
      s.store.pointer + 1 < 8192 ∧ s.store.state = .ready ∧ [[2]] ≠ ([] : List (List Byte)) ∧
      s.store.save = none ∧ s.store.clear = none ∧ s.store.reads = [] ∧ s.store.failures = 1) ∧
    (writingPage (.commit 1 [[1], [2]]) 8191 0 |> fun s => s.store.failures = 0 ∧
      8192 ≤ s.store.pointer + 1) ∧
    (writingPage (.commit 1 [[1]]) 8191 0 |> fun s => s.store.op = .commit 1 [[1]] ∧
      s.takes.queue = [1] ∧ s.store.amendments = []) ∧
    ({ writingPage (.amend ⟨1, 9, some true, none, none⟩ [1]) 8191 0 with
        takes := (recorded .committed []).takes } |> fun s =>
      s.store.op = .amend ⟨1, 9, some true, none, none⟩ [1] ∧ s.takes.queue = [] ∧
      s.store.failures = 0 ∧ 8192 ≤ s.store.pointer + 1) ∧
    ({ writingPage (.cleared [1]) 0 0 with takes := TakeTable.reset } |> fun s =>
      { s with store := { s.store with clear := some ⟨.suite, 7, 0⟩ } } |> fun s =>
      s.store.op = .cleared [1] ∧ s.store.clear = some ⟨.suite, 7, 0⟩ ∧ s.store.save = none ∧
      s.store.flushes = [] ∧ s.store.amendments = [] ∧ s.takes.queue = []) := by
  decide +kernel

/-- A named query of the suite port in its store phase, its read in flight. -/
def readingState (slot frame : Nat) (log : List (Nat × PageData))
    (dir : List (Option PageHeader)) : State :=
  { started with
    store := { started.store with op := .read ⟨.conform .suite, 1, 1⟩ true, directory := dir }
    flash := ⟨.blank, log⟩
    suite := { PortState.reset with
      conform := .busy 9 (.whereIs 1 slot frame 5 (some 1)) [1] [] } }

/-- The log with the worked conform's record committed at page 0. -/
def committedLog : List (Nat × PageData) :=
  [(0, .bytes (pageBytes 2 1 1 1 1 (encodeTake (slated .committing))))]

/-- A query of the suite port that names no take, with one index being read. -/
def searching (rest : List Nat) (found : List Match) : State :=
  { readingState 5 1101533 committedLog [some ⟨2, 1, 1, 1, 1⟩] with
    suite := { PortState.reset with
      conform := .busy 9 (.whereIs 1 5 1101533 5 none) (1 :: rest) found } }

/-- A query of the suite port by tick, with one index being read. -/
def searchingTick (tick : Nat) (rest : List Nat) (found : List Match) : State :=
  { readingState 5 0 committedLog [some ⟨2, 1, 1, 1, 1⟩] with
    suite := { PortState.reset with
      conform := .busy 9 (.atTick 1 tick) (1 :: rest) found } }

/-- A block of an export. -/
def someBlock (final : Bool) : Block := ⟨5, false, [record .closed], 2, final, 0, 0, 0⟩

/-- An export counting in blocks of two takes, index 1 being read and a message on the way. -/
def counted : Exporter :=
  { Exporter.start 9 ⟨1, 1, 3, 2, true⟩ (some (1, 3)) with
    reading := some 1, handed := some (.block 9 (someBlock false)), seq := 65535 }

/-- The read of an export in flight, its answer awaited or withdrawn. -/
def exportRead (x : Exporter) (live : Bool) (log : List (Nat × PageData)) : State :=
  { readingState 5 0 log [some ⟨2, 1, 1, 1, 1⟩] with
    store := { started.store with
      op := .read ⟨.exporter, 1, 1⟩ live, directory := [some ⟨2, 1, 1, 1, 1⟩] }
    exporter := x }

theorem witness_StoreReadAnswers :
    (readingState 31 0 [] [] |> fun s => s.store.op = .read ⟨.conform .suite, 1, 1⟩ true ∧
      (s.port .suite).conform = .busy 9 (.whereIs 1 31 0 5 (some 1)) [1] [] ∧
      s.store.save = none ∧ s.store.clear = none ∧ s.store.reads = [] ∧ s.nothingToWrite ∧
      readTake s.store.directory s.flash.log 1 1 = none) ∧
    (readingState 31 0 committedLog [some ⟨2, 1, 1, 1, 1⟩] |> fun s =>
      s.nothingToWrite ∧
      readTake s.store.directory s.flash.log 1 1 = some (slated .committing) ∧
      (slated .committing).whereInstant 31 0 5 s.houseTime = none) ∧
    (readingState 5 1101533 committedLog [some ⟨2, 1, 1, 1, 1⟩] |> fun s =>
      s.nothingToWrite ∧
      readTake s.store.directory s.flash.log 1 1 = some (slated .committing) ∧
      (slated .committing).whereInstant 5 1101533 5 s.houseTime = some 88210846324 ∧
      (slated .committing).state ≠ .opened) ∧
    (∀ rest ∈ [[], [2]], ∀ found ∈ [[], [Match.mk (record .committed) 0 none]],
      searching rest found |> fun s =>
      s.store.op = .read ⟨.conform .suite, 1, 1⟩ true ∧ (s.port .suite).conform =
        .busy 9 (.whereIs 1 5 1101533 5 none) (1 :: rest) found ∧ found.length < 2 ∧
      s.nothingToWrite) := by
  unfold State.nothingToWrite; decide +kernel

/-- A tick at the take's end and one past it, the list of matches empty and one short of full. -/
theorem witness_StoreReadAnswers_tick :
    (∀ rest ∈ [[], [2]], ∀ tick ∈ [89400000000, 89400000001], ∀ found ∈ [[],
        List.replicate 4 (Match.mk (record .committed) 0 none)],
      searchingTick tick rest found |> fun s =>
      s.store.op = .read ⟨.conform .suite, 1, 1⟩ true ∧ (s.port .suite).conform =
        .busy 9 (.atTick 1 tick) (1 :: rest) found ∧ found.length < 5 ∧ s.nothingToWrite ∧
      readTake s.store.directory s.flash.log 1 1 = some (slated .committing) ∧
      (slated .committing).endTick = some 89400000000 ∧
      (slated .committing).startTick ≤ 89400000000) := by
  unfold State.nothingToWrite; decide +kernel

/-- A block one record short, the last index of a range, and a follow queue of one. -/
theorem witness_StoreReadAnswers_export :
    (∀ live ∈ [true, false], ∀ log ∈ [committedLog, []], ∀ x ∈ [
        { counted with forming := [record .closed], range := some (1, 3) },
        { counted with range := some (1, 1) },
        { counted with phase := .following, queue := [1], losses := 65534 }],
      exportRead x live log |> fun s =>
      s.store.op = .read ⟨.exporter, 1, 1⟩ live ∧ s.store.save = none ∧ s.store.clear = none ∧
      s.store.reads = [] ∧ s.nothingToWrite ∧ s.exporter.reading = some 1 ∧
      s.exporter.cancel = none ∧ s.exporter.formed = none ∧ s.exporter.handed ≠ none ∧
      s.exporter.ended = false ∧ (x.forming ≠ [] → x.forming.length + 1 = x.blockSize) ∧
      (log = [] → readTake s.store.directory s.flash.log 1 1 = none) ∧
      (log ≠ [] → readTake s.store.directory s.flash.log 1 1 = some (slated .committing))) := by
  unfold State.nothingToWrite; decide +kernel

/-- The settings of the part with the camera in slot 31, its line enabled. -/
def wiredSettings : Snapshot := (wiredTo true .active .present false).snapshot

theorem witness_SettingsApplied :
    State.reset.store.applied = false ∧ State.reset.flash.settings = .blank ∧
    ({ State.reset with flash := ⟨.good wiredSettings, []⟩ } : State).flash.settings =
      .good wiredSettings ∧
    wiredSettings.slots[31] = some (camera.set, true) ∧ camera.set.att = .line 15 ∧
    (∀ (j : Fin 32) y b, wiredSettings.slots[j] = some (y, b) → y.att = .line 15 → j = 31) ∧
    (∀ (j : Fin 32) y b, wiredSettings.slots[j] = some (y, b) → y.att ≠ .line 0) := by
  refine ⟨rfl, rfl, rfl, by decide +kernel, rfl, fun j y b h _ => ?_, fun j y b h => ?_⟩
  all_goals
    have all : ∀ j : Fin 32, j = 31 ∨ wiredSettings.slots[j] = none := by decide +kernel
    have last : wiredSettings.slots[(31 : Fin 32)] = some (camera.set, true) := by decide +kernel
    rcases all j with rfl | e
    · first
        | rfl
        | (rw [last] at h; cases h; decide)
    · rw [e] at h; cases h

/-- The scan at page 8,191, the settings applied. -/
def scanning (log : List (Nat × PageData)) : State :=
  { State.reset with
    store := { Store.reset with applied := true, pointer := 8191 }
    flash := ⟨.blank, log⟩ }

theorem witness_ScanReadsPage :
    ((scanning []).store.applied = true ∧ (scanning []).store.scanEnded = false ∧
      readPage (scanning []).flash.log (scanning []).store.pointer = none) ∧
    readPage (scanning [(8191, .damaged)]).flash.log (scanning []).store.pointer =
      some .damaged := by
  decide +kernel

/-- The scan ended at a page, with a directory. -/
def scanEnded (pointer : Nat) (directory : List (Option PageHeader)) : State :=
  { State.reset with store := { Store.reset with
      applied := true, pointer := pointer, scanEnded := true, directory := directory } }

/-- After reset no device is declared, so no tally is active. -/
theorem scanEnded_no_tally (pointer : Nat) (directory : List (Option PageHeader)) (i : Nat)
    (d : Device) (h : (scanEnded pointer directory).dev i = some d) :
    (scanEnded pointer directory).tallies d = false := by
  have none : (scanEnded pointer directory).dev i = none := by
    by_cases h' : i < 32
    · simp [scanEnded, State.dev, State.reset, State.afterReset, h']
    · have : (scanEnded pointer directory).slots[i]? = none := by simp; omega
      simp [State.dev, this]
  simp [none] at h

/-- The header of a page of a session, in a directory beside a bad page. -/
def pagesOf (session : Nat) : List (Option PageHeader) :=
  [some ⟨2, session, 9, 1, 1⟩, none, some ⟨2, 1, 4, 1, 1⟩]

/-- With no good page at page 0, and with 65,534 or 65,535 as the largest session: the pointer below
the last page, at it, and past it. -/
theorem witness_ScanCompletes :
    (∀ pointer ∈ [0, 8190, 8191, 8192], ∀ dir ∈ [[], [none], pagesOf 65534, pagesOf 65535],
      (scanEnded pointer dir).store.scanEnded = true ∧
      (scanEnded pointer dir).store.scanned = false ∧
      (∀ i d, (scanEnded pointer dir).dev i = some d →
        (scanEnded pointer dir).tallies d = false) ∧
      (∀ h ∈ dir.filterMap id, h.session ≤ 65535)) ∧
    (∀ h, some h ∉ (scanEnded 0 []).store.directory) ∧
    (∀ n ∈ [65534, 65535], ∃ g, some g ∈ (scanEnded 8191 (pagesOf n)).store.directory ∧
      g.session = n ∧ ∀ h ∈ (pagesOf n).filterMap id, h.session ≤ g.session) := by
  refine ⟨fun p _ dir m => ⟨rfl, rfl, scanEnded_no_tally p dir, ?_⟩, by simp [scanEnded],
    fun n m => ⟨⟨2, n, 9, 1, 1⟩, by simp [scanEnded, pagesOf], rfl, ?_⟩⟩
  · revert dir; decide
  · revert n; decide

/-- The part with the worked conform's record closed in the take table. -/
def conformed : State :=
  { started with
    clock := ⟨89400000000, 0⟩
    store := (busyWith (.settings 1)).store
    takes := ⟨(Vector.replicate 64 none).setIfInBounds 63 (some ⟨slated .closed, none, 0⟩), 1,
      [1], 1⟩ }

theorem witness_ConformAnswersTable :
    (Taken started askSuite ∧ (started.port askSuite.port).conform = .idle ∧ started.settled ∧
      1 ≤ 65535 ∧ 65535 ≤ 65535 ∧
      (started.takes.entries.toList.filterMap (Option.map Entry.copy)).filter
        (fun r => decide (r.session = 65535)) = [] ∧
      31 < 32 ∧ 1 ≤ 17 ∧ 17 ≤ 17 ∧ labelHolds ⟨23, 59, 59, 119⟩ = true ∧
      labelOk 17 ⟨23, 59, 59, 119⟩ = true ∧ maxHouseTime ≤ maxHouseTime) ∧
    (Taken conformed ask ∧ (conformed.port ask.port).conform = .idle ∧ conformed.settled ∧
      (conformed.takes.entries.toList.filterMap (Option.map Entry.copy)).filter
        (fun r => decide (r.session = 1)) = [slated .closed] ∧
      labelHolds (labelOf 5 1101533) = true ∧ labelOk 5 (labelOf 5 1101533) = true ∧
      (slated .closed).state ≠ .opened ∧
      (slated .closed).whereInstant 5 (frameOf 5 (labelOf 5 1101533)) 5 conformed.houseTime =
        some 88210846324 ∧
      (slated .closed).endTick = some 89400000000 ∧
      (slated .closed).startTick ≤ 89400000000 ∧ 89400000000 ≤ 89400000000 ∧
      89400000000 ≤ maxHouseTime) := by
  unfold Taken State.settled State.nothingToWrite; decide +kernel

/-- Three takes of the worked conform's kind, the first of them OPEN, in entry order and in descending
log index. -/
def openOne : TakeRecord := { slated .opened with endTick := none }
def threeTakes : List TakeRecord :=
  [openOne, { slated .closed with index := 3 }, { slated .committed with index := 2 }]
def threeOrdered : List TakeRecord :=
  [{ slated .closed with index := 3 }, { slated .committed with index := 2 }, openOne]

/-- The part with those takes in the table. -/
def conformedThree : State :=
  { conformed with takes := ⟨Vector.ofFn fun (i : Fin 64) => threeTakes[i.val]?.map fun r =>
      ⟨r, none, 0⟩, 3, [3], 2⟩ }

theorem witness_ConformAnswersTable_three :
    Taken conformedThree ask ∧ (conformedThree.port ask.port).conform = .idle ∧
    conformedThree.settled ∧
    (conformedThree.takes.entries.toList.filterMap (Option.map Entry.copy)).filter
      (fun r => decide (r.session = 1)) = threeTakes ∧
    threeOrdered.Perm threeTakes ∧
    threeOrdered.Pairwise (fun x y => y.index < x.index) ∧
    (threeOrdered.filterMap fun r => r.whereInstant 5 1101533 5 conformedThree.houseTime) =
      [88210846324, 88210846324, 88210846324] ∧
    (∀ r ∈ threeTakes, r.index ≠ 4294967295) ∧ openOne ∈ threeTakes ∧ openOne.index = 1 ∧
    (∀ y ∈ threeTakes, y.index = 1 → y = openOne) ∧
    openOne.whereInstant 4 1101533 5 conformedThree.houseTime = none ∧
    openOne.startTick ≤ 89400000000 ∧ 89400000000 ≤ conformedThree.houseTime ∧
    (∀ r ∈ threeTakes, r.state = .opened ∨ r.endTick.isSome = true) := by
  unfold Taken State.settled State.nothingToWrite; decide +kernel

/-- R159: the table phase takes the records in descending log index. -/
theorem test_table_phase_order :
    (conformedThree.tableRecords 1).map TakeRecord.index = [3, 2, 1] := by decide +kernel

theorem witness_WiredInstantShowsLabel :
    ({ slateEntry with att := .line 0, segments := [] } : Participant) |> fun p =>
      p.isRadio = false ∧ 1 ≤ p.rate ∧ p.rate ≤ 17 ∧ 2589407 < dayOf p.rate ∧
      p.instant 100 (wiredFrame p.rate p.phase p.origin 100) 0 2589407 =
        some (2589407 * 80080) := by
  decide

/-- An EXPORT_TAKES at the end of the index range. -/
def exporting : ExportArgs := ⟨65535, 4294967295, 1, 8, true⟩

theorem witness_ExportStartsAndCancels :
    (Taken started askSuite ∧ askSuite.port = .suite ∧ exportArgsOk exporting = true ∧
      1 ≤ exporting.count ∧ started.store.scanned = true ∧ started.exporter.phase = .idle ∧
      started.settled) ∧
    ({ started with exporter := .start 9 exporting (some (1, 1)) } : State).exporter.phase ≠ .idle ∧
    ({ started with exporter := .start 9 exporting (some (1, 1)) } : State).exporter.cancel = none ∧
    ({ started with exporter := .start 9 exporting (some (1, 1)) } : State).exporter.handed =
      none := by
  unfold Taken State.settled State.nothingToWrite; decide

/-- The suite port at the end of that block's transmission. -/
def exportSent (final : Bool) (cancel : Option Nat) : State :=
  { started with
    suite := { PortState.reset with tx := some (.exported (.block 9 (someBlock final))) }
    exporter := { Exporter.start 9 exporting (some (1, 1)) with
      handed := some (.block 9 (someBlock final)), cancel := cancel, follow := false } }

/-- The export in its follow phase over session 1, with some indices queued. -/
def following (queue : List Nat) (s : State) : State :=
  { s with exporter := { s.exporter with
      phase := .following, follow := true, session := 1, queue := queue } }

/-- An export that follows, with a block on the way and the next one formed. -/
def stalled (s : State) : State :=
  { s with exporter := { Exporter.start 9 exporting (some (1, 1)) with
      phase := .following, session := 1, last := some 1, sent := [1]
      handed := some (.block 9 (someBlock true)), formed := some (someBlock false) } }

theorem witness_ExportEnds :
    (exportSent true none |> fun s =>
      s.suite.tx = some (.exported (.block 9 (someBlock true))) ∧
      s.exporter.handed = some (.block 9 (someBlock true)) ∧ s.settled ∧
      (someBlock true).final = true ∧ s.exporter.follow = false ∧ s.exporter.cancel = none) ∧
    (exportSent false (some 3) |> fun s =>
      s.suite.tx = some (.exported (.block 9 (someBlock false))) ∧
      s.exporter.handed = some (.block 9 (someBlock false)) ∧ s.settled ∧
      s.exporter.cancel = some 3) ∧
    (exportSent false none |> fun s => s.settled ∧ (someBlock false).final = false ∧
      s.exporter.cancel = none) ∧
    (following [1] (exportSent false none) |> fun s =>
      s.suite.tx = some (.exported (.block 9 (someBlock false))) ∧
      s.exporter.handed = some (.block 9 (someBlock false)) ∧ s.settled ∧
      s.exporter.phase = .following ∧ s.exporter.follow = true ∧ s.exporter.reading = none ∧
      s.exporter.formed = none ∧ s.exporter.amendments = [] ∧ s.exporter.queue = [1] ∧
      s.findTake s.exporter.session 1 = none ∧
      completePages s.store.directory s.exporter.session 1 = none ∧ s.exporter.losses < 65535) ∧
    ({ following [1] (exportSent false none) with takes := (recorded .closed []).takes } |> fun s =>
      s.findTake s.exporter.session 1 = some ⟨record .closed, none, 0⟩ ∧ s.settled) ∧
    (stalled rolling |> fun s => Taken s ask ∧ s.settled ∧
      s.findTake s.store.session 1 = some ⟨record .opened, none, 0⟩ ∧
      s.exporter.phase ≠ .idle ∧ s.exporter.follow = true ∧ s.exporter.cancel = none ∧
      s.exporter.session = s.store.session ∧ s.exporter.handed ≠ none ∧
      s.exporter.formed ≠ none ∧ (s.unit 3).current = .logged s.store.session 1 ∧
      s.exporter.queue.length < 64 ∧ s.exporter.range = some (1, 1) ∧
      s.exporter.last = some 1 ∧ 1 ≤ 1) ∧
    (stalled (recorded .closed []) |> fun s => Taken s ask ∧ s.settled ∧
      s.findTake s.store.session 1 = some ⟨record .closed, none, 0⟩ ∧ marking.fits = true ∧
      markChanges marking = true ∧ marking.session = s.store.session ∧ marking.index = 1 ∧
      1 ≤ s.takes.lastIndex ∧ 1 ∈ s.exporter.sent ∧ s.exporter.amendments = []) := by
  unfold Taken State.settled State.nothingToWrite
  exact ⟨by decide +kernel, by decide +kernel, by decide +kernel, by decide +kernel,
    by decide +kernel, by decide +kernel, by decide +kernel⟩

theorem witness_PortRefusals :
    (reqOf (.timeNow ask) = some ask ∧ requestFields (.timeNow ask) = some (1, []) ∧
      4 ≤ (({ started with control := crowded } : State).port ask.port).outstanding.length ∧
      ((({ started with control := crowded } : State).port ask.port).replies.filter
        fun r => !r.listed).length < 4) ∧
    (reqOf (.unknownRequest ask 127) = some ask ∧
      (started.port ask.port).outstanding.length < 4) ∧
    (reqOf (.timeNow { ask with more := true }) = some { ask with more := true } ∧
      Instr.timeNow { ask with more := true } ≠ .unknownRequest { ask with more := true } 1) ∧
    (reqOf (.setHouseRate askSuite 255) = some askSuite ∧ askSuite.more = false ∧
      requestFields (.setHouseRate askSuite 255) = some (3, [fByte 255]) ∧
      (Instr.setHouseRate askSuite 255).wf = true ∧
      completeOk (.setHouseRate askSuite 255) = true ∧ (classOf 3).admits askSuite.port = false) := by
  decide +kernel

theorem witness_PortBytesAndSending :
    ((started.port .suite).rx = [] ∧ (0xA4 : Byte) ≠ 0xA5) ∧
    ((({ started with suite := { PortState.reset with rx := [0xA5, 0, 4, 1, 2, 3] } } : State).port
        .suite).rx = 0xA5 :: [0, 4, 1, 2, 3] ∧
      (∀ x ∈ ([0, 4, 1, 2, 3] : List Byte), x ≠ 0xA5) ∧ ([0, 4, 1, 2, 3] : List Byte).length < 6) ∧
    ((Instr.setHouseRate askSuite 17).wf = true ∧
      reqOf (.setHouseRate askSuite 17) = some askSuite ∧
      requestFields (.setHouseRate askSuite 17) = some (3, [fByte 17]) ∧
      (encodeFields [fByte 17]).length ≤ 1022 ∧
      frameBytes 3 askSuite.tag askSuite.more (encodeFields [fByte 17]) =
        [0xA5, 3, 0, 3, 7, 17, 9] ++ [61] ∧
      ({ started with suite := { PortState.reset with rx := [0xA5, 3, 0, 3, 7, 17, 9] } } : State).suite.rx
        = [0xA5, 3, 0, 3, 7, 17, 9]) ∧
    ({ started with control := { PortState.reset with
        tx := some (.notice ⟨0x41, 0, []⟩)
        replies := [⟨⟨0x21, 0, []⟩, true, false⟩] } } |> fun s =>
      (s.port .control).tx = some (.notice ⟨0x41, 0, []⟩) ∧
      (s.port .control).replies = ⟨⟨0x21, 0, []⟩, true, false⟩ :: [] ∧ s.settled) := by
  unfold State.settled State.nothingToWrite; decide +kernel

theorem witness_RequestRoundTrip :
    (Instr.setHouseRate ask 255).wf = true ∧ reqOf (.setHouseRate ask 255) = some ask ∧
    requestFields (.setHouseRate ask 255) = some (3, [fByte 255]) := by
  decide

theorem witness_TakeRecordRoundTrip :
    ({ record .committed with participants := [slateEntry] } : TakeRecord).encodable = true := by
  decide

/-- Nothing is due right after reset. -/
theorem reset_nothing_due : State.reset.nextDue = none := by decide +kernel

/-- The invariants hold of the state after reset, and a step from it answers a next state. -/
theorem witness_invariants :
    State.reset.timeOk = true ∧ State.reset.portsOk = true ∧ State.reset.countsOk = true ∧
    State.reset.flashOk = true ∧ step State.reset = .next State.reset.tick := by
  refine ⟨by decide +kernel, by decide +kernel, by decide +kernel, by decide +kernel, ?_⟩
  have h : State.reset.pending = [] := rfl
  simp only [step, h, idle, reset_nothing_due]

theorem witness_TimeHeldInTake :
    exec .beaconMark rolling = .next (after .beaconMark rolling) ∧ rolling.anyTakeOpen = true ∧
    rolling.clock.counter ≤ maxCounter :=
  ⟨rfl, by decide +kernel, by decide +kernel⟩

end Sys2Proof.Tests
end

section
/-!
SUPPORT. Label frames and labels read through one position: ten-minute block `g` of the label day,
minute `j` of the block, frame number `y` of the minute. A dropping minute is one with `0 < j`, and
its frame numbers begin at the drop count. A label frame and its label are two spellings of a
position, so stages 3 and 4 are inverse to each other (R11 to R15).
-/

namespace Sys2Proof.Machine

/-! ### The rates table -/

/-- The frame numbers of a label minute, the skipped ones among them. -/
def Rate.minute (r : Rate) : Nat := 60 * r.base

/-- The label frames of ten minutes: nine of the ten minutes drop (R12, R13). -/
def Rate.block (r : Rate) : Nat := 10 * r.minute - 9 * r.drop

/-- What R4 says of every row: fewer frame numbers are dropped than a second has, and the label day
is the 144 ten-minute blocks of 24 hours. -/
theorem rateOf_sound {code : Nat} (h1 : 1 ≤ code) (h17 : code ≤ 17) :
    (rateOf code).drop < (rateOf code).base ∧ dayOf code = 144 * (rateOf code).block := by
  have table : ∀ c ≤ 17, 1 ≤ c →
      (rateOf c).drop < (rateOf c).base ∧ dayOf c = 144 * (rateOf c).block := by decide
  exact table code h17 h1

/-- Only codes 5 and 11 drop frame numbers. -/
theorem rateOf_drop_eq_zero {code : Nat} (h1 : 1 ≤ code) (h17 : code ≤ 17) (h5 : code ≠ 5)
    (h11 : code ≠ 11) : (rateOf code).drop = 0 := by
  have table : ∀ c ≤ 17, 1 ≤ c → c ≠ 5 → c ≠ 11 → (rateOf c).drop = 0 := by decide
  exact table code h17 h1 h5 h11

/-! ### Stage 3 -/

/-- Only codes 5 and 11 have skipped numbers to add back. -/
theorem undropped_nonDrop {code : Nat} (h5 : code ≠ 5) (h11 : code ≠ 11) (n : Nat) :
    undropped code n = n := by
  simp [undropped, h5, h11]

/-- R11 to R13 as one formula over the rates table: per ten-minute block nine drops are added back,
and within the block one for each dropping minute begun. -/
theorem undropped_eq {code : Nat} (h1 : 1 ≤ code) (h17 : code ≤ 17) (n : Nat) :
    undropped code n = n + (rateOf code).drop * (9 * (n / (rateOf code).block) +
      (n % (rateOf code).block - (rateOf code).drop) /
        ((rateOf code).minute - (rateOf code).drop)) := by
  by_cases h5 : code = 5
  · subst h5
    change (if 2 ≤ n % 17982 then n + 18 * (n / 17982) + 2 * ((n % 17982 - 2) / 1798)
      else n + 18 * (n / 17982)) = n + 2 * (9 * (n / 17982) + (n % 17982 - 2) / 1798)
    split <;> omega
  by_cases h11 : code = 11
  · subst h11
    change (if 4 ≤ n % 35964 then n + 36 * (n / 35964) + 4 * ((n % 35964 - 4) / 3596)
      else n + 36 * (n / 35964)) = n + 4 * (9 * (n / 35964) + (n % 35964 - 4) / 3596)
    split <;> omega
  · rw [undropped_nonDrop h5 h11, rateOf_drop_eq_zero h1 h17 h5 h11, Nat.zero_mul, Nat.add_zero]

/-- The fields of R11, with the seconds counted first. -/
theorem plainLabel_eq (base n : Nat) :
    plainLabel base n =
      ⟨n / base / 3600, n / base / 60 % 60, n / base % 60, n % base⟩ := by
  simp only [plainLabel, Label.mk.injEq, and_true]
  refine ⟨?_, ?_, ?_⟩
  · rw [Nat.mul_comm, Nat.div_div_eq_div_mul]
  · rw [show 3600 * base = (60 * base) * 60 by ring, Nat.mod_mul_right_div_self, Nat.mul_comm 60,
      Nat.div_div_eq_div_mul]
  · rw [Nat.mod_mul_left_div_self]

/-! ### Positions -/

/-- A position whose number is shown: not among those a dropping minute skips (R12 to R14). -/
structure Rate.Shown (r : Rate) (g j y : Nat) : Prop where
  block_lt : g < 144
  minute_lt : j < 10
  number_lt : y < r.minute
  kept : 0 < j → r.drop ≤ y

/-- The label frame at a position. In a dropping minute `j` the first number shown is the drop count,
and `j` minutes' numbers less `j - 1` drops are shown before it; so `y` is counted on from `j`
shortened minutes. -/
def Rate.frameAt (r : Rate) (g j y : Nat) : Nat := r.block * g + ((r.minute - r.drop) * j + y)

/-- The label at a position. -/
def Rate.labelAt (r : Rate) (g j y : Nat) : Label :=
  ⟨g / 6, g % 6 * 10 + j, y / r.base, y % r.base⟩

section
variable {r : Rate} {g j y : Nat}

theorem Rate.drop_lt_minute (hd : r.drop < r.base) : r.drop < r.minute := by
  unfold Rate.minute; omega

/-- The part of a shown position's label frame that is counted within its block. -/
theorem Rate.Shown.lt_block (h : r.Shown g j y) (hd : r.drop < r.base) :
    (r.minute - r.drop) * j + y < r.block := by
  have hj : (r.minute - r.drop) * j ≤ (r.minute - r.drop) * 9 :=
    Nat.mul_le_mul_left _ (Nat.le_of_lt_succ h.minute_lt)
  have hy := h.number_lt
  have hm := Rate.drop_lt_minute hd
  unfold Rate.block
  omega

theorem Rate.Shown.frameAt_lt (h : r.Shown g j y) (hd : r.drop < r.base) :
    r.frameAt g j y < 144 * r.block := by
  have hx := h.lt_block hd
  have hg : r.block * (g + 1) ≤ r.block * 144 := Nat.mul_le_mul_left _ h.block_lt
  unfold Rate.frameAt
  rw [Nat.mul_succ] at hg
  omega

theorem Rate.Shown.frameAt_div (h : r.Shown g j y) (hd : r.drop < r.base) :
    r.frameAt g j y / r.block = g := by
  have hx := h.lt_block hd
  rw [Rate.frameAt, Nat.mul_add_div (by omega), Nat.div_eq_of_lt hx, Nat.add_zero]

theorem Rate.Shown.frameAt_mod (h : r.Shown g j y) (hd : r.drop < r.base) :
    r.frameAt g j y % r.block = (r.minute - r.drop) * j + y := by
  rw [Rate.frameAt, Nat.mul_add_mod, Nat.mod_eq_of_lt (h.lt_block hd)]

/-- The dropping minutes begun within the block, as R12 and R13 count them. -/
theorem Rate.Shown.minutes_begun (h : r.Shown g j y) (hd : r.drop < r.base) :
    ((r.minute - r.drop) * j + y - r.drop) / (r.minute - r.drop) = j := by
  have hm := Rate.drop_lt_minute hd
  have hlt : y - r.drop < r.minute - r.drop := by
    have := h.number_lt
    omega
  obtain rfl | hj := Nat.eq_zero_or_pos j
  · simpa using Nat.div_eq_of_lt hlt
  · rw [Nat.add_sub_assoc (h.kept hj), Nat.mul_add_div (by omega), Nat.div_eq_of_lt hlt,
      Nat.add_zero]

/-- A position's label frame with the drops of `9 * g + j` minutes added is its frame number counted
without dropping. -/
theorem Rate.frameAt_add_drops (hd : r.drop < r.base) (g j y : Nat) :
    r.frameAt g j y + r.drop * (9 * g + j) = r.minute * (10 * g + j) + y := by
  obtain ⟨a, ha⟩ := Nat.exists_eq_add_of_lt (Rate.drop_lt_minute hd)
  have hb : r.block = 10 * (a + 1) + r.drop := by unfold Rate.block; omega
  have hm : r.minute - r.drop = a + 1 := by omega
  rw [Rate.frameAt, hb, hm, ha]
  ring

/-- The fields of a position's frame number counted without dropping. -/
theorem plainLabel_minute (hj : j < 10) (hy : y < r.minute) :
    plainLabel r.base (r.minute * (10 * g + j) + y) = r.labelAt g j y := by
  have hb : 0 < r.base := by unfold Rate.minute at hy; omega
  have hs : y / r.base < 60 := Nat.div_lt_of_lt_mul (by rwa [Nat.mul_comm])
  have hn : r.minute * (10 * g + j) + y = r.base * (60 * (10 * g + j)) + y := by
    unfold Rate.minute; ring
  rw [plainLabel_eq, hn, Nat.mul_add_div hb, Nat.mul_add_mod r.base]
  simp only [Rate.labelAt, Label.mk.injEq, and_true]
  generalize y / r.base = t at *
  refine ⟨?_, ?_, ?_⟩ <;> omega

end

section
variable {code g j y : Nat}

/-! ### The two stages at a position -/

/-- Stage 3 at a position. -/
theorem labelOf_frameAt (h1 : 1 ≤ code) (h17 : code ≤ 17) (h : (rateOf code).Shown g j y) :
    labelOf code ((rateOf code).frameAt g j y) = (rateOf code).labelAt g j y := by
  obtain ⟨hd, -⟩ := rateOf_sound h1 h17
  rw [labelOf, undropped_eq h1 h17, h.frameAt_div hd, h.frameAt_mod hd, h.minutes_begun hd,
    Rate.frameAt_add_drops hd, plainLabel_minute h.minute_lt h.number_lt]

/-- Stage 4 at a position. -/
theorem frameOf_labelAt (h1 : 1 ≤ code) (h17 : code ≤ 17) (h : (rateOf code).Shown g j y) :
    frameOf code ((rateOf code).labelAt g j y) = (rateOf code).frameAt g j y := by
  obtain ⟨hd, -⟩ := rateOf_sound h1 h17
  have hj := h.minute_lt
  have hm : 60 * (g / 6) + (g % 6 * 10 + j) = 10 * g + j := by omega
  have hdrops : 10 * g + j - (10 * g + j) / 10 = 9 * g + j := by omega
  have hnumber : (rateOf code).base *
      (3600 * (g / 6) + 60 * (g % 6 * 10 + j) + y / (rateOf code).base) + y % (rateOf code).base =
      (rateOf code).minute * (10 * g + j) + y := by
    rw [show 3600 * (g / 6) + 60 * (g % 6 * 10 + j) = 60 * (10 * g + j) by omega, Nat.mul_add,
      Nat.add_assoc, Nat.div_add_mod, Rate.minute]
    ring
  simp only [frameOf, Rate.labelAt, hm, hdrops, hnumber]
  rw [← Rate.frameAt_add_drops hd, Nat.add_sub_cancel]

/-- The check of R14: the fields in their ranges, and in a dropping minute no number below the drop
count in second 0. -/
theorem labelOk_iff {l : Label} : labelOk code l = true ↔
    (l.hh ≤ 23 ∧ l.mm ≤ 59 ∧ l.ss ≤ 59 ∧ l.ff < (rateOf code).base) ∧
      (l.mm % 10 ≠ 0 → l.ss = 0 → (rateOf code).drop ≤ l.ff) := by
  simp [labelOk, imp_iff_not_or]

/-- The label at a shown position passes R14. -/
theorem labelOk_labelAt (h : (rateOf code).Shown g j y) :
    labelOk code ((rateOf code).labelAt g j y) = true := by
  obtain ⟨hg, hj, hy, hkept⟩ := h
  have hb : 0 < (rateOf code).base := by unfold Rate.minute at hy; omega
  have hs : y / (rateOf code).base < 60 := Nat.div_lt_of_lt_mul (by rwa [Nat.mul_comm])
  simp only [labelOk_iff, Rate.labelAt]
  refine ⟨⟨by omega, by omega, by omega, Nat.mod_lt y hb⟩, fun hmm hss => ?_⟩
  rw [Nat.mod_eq_of_lt (Nat.lt_of_div_eq_zero hb hss)]
  exact hkept (by omega)

/-- A label that passes R14 is the label at a shown position. -/
theorem exists_labelAt (hd : (rateOf code).drop < (rateOf code).base) {l : Label}
    (h : labelOk code l = true) :
    ∃ g j y, (rateOf code).Shown g j y ∧ l = (rateOf code).labelAt g j y := by
  obtain ⟨hh, mm, ss, ff⟩ := l
  obtain ⟨⟨hhh, hmm, hss, hff⟩, hkept⟩ := labelOk_iff.mp h
  dsimp only at hhh hmm hss hff hkept
  have hb : 0 < (rateOf code).base := by omega
  refine ⟨6 * hh + mm / 10, mm % 10, (rateOf code).base * ss + ff,
    ⟨by omega, by omega, ?_, fun hj => ?_⟩, ?_⟩
  · have hsec : (rateOf code).base * ss ≤ (rateOf code).base * 59 := Nat.mul_le_mul_left _ hss
    unfold Rate.minute
    omega
  · obtain rfl | hpos := Nat.eq_zero_or_pos ss
    · have := hkept (by omega) rfl
      omega
    · have hsec : (rateOf code).base * 1 ≤ (rateOf code).base * ss := Nat.mul_le_mul_left _ hpos
      omega
  · rw [Rate.labelAt, Nat.mul_add_div hb, Nat.mul_add_mod (rateOf code).base, Nat.div_eq_of_lt hff,
      Nat.mod_eq_of_lt hff, Label.mk.injEq]
    refine ⟨?_, ?_, ?_, rfl⟩ <;> omega

/-- A label frame of the label day is the one at a shown position. -/
theorem Rate.exists_frameAt {r : Rate} (hd : r.drop < r.base) {n : Nat} (hn : n < 144 * r.block) :
    ∃ g j y, r.Shown g j y ∧ n = r.frameAt g j y := by
  have hm := Rate.drop_lt_minute hd
  have hblock : 0 < r.block := by omega
  have hx := Nat.mod_lt n hblock
  generalize hxe : n % r.block = x at hx
  generalize hje : (x - r.drop) / (r.minute - r.drop) = j
  have hsplit : (r.minute - r.drop) * j + (x - r.drop) % (r.minute - r.drop) = x - r.drop :=
    hje ▸ Nat.div_add_mod _ _
  have hrest : (x - r.drop) % (r.minute - r.drop) < r.minute - r.drop := Nat.mod_lt _ (by omega)
  have hj : j < 10 := by
    rw [← hje]
    refine Nat.div_lt_of_lt_mul ?_
    unfold Rate.block at hx
    omega
  have hle : (r.minute - r.drop) * j ≤ x := by omega
  refine ⟨n / r.block, j, x - (r.minute - r.drop) * j,
    ⟨Nat.div_lt_of_lt_mul (by rwa [Nat.mul_comm]), hj, by omega, fun hpos => ?_⟩, ?_⟩
  · have : r.drop < x := by
      by_contra hlt
      rw [Nat.sub_eq_zero_of_le (by omega), Nat.zero_div] at hje
      omega
    omega
  · rw [Rate.frameAt, Nat.add_sub_cancel' hle, ← hxe, Nat.div_add_mod]

end

/-! ### Labels and label frames -/

section
variable {code : Nat} (h1 : 1 ≤ code) (h17 : code ≤ 17)
include h1 h17

/-- R15 on a label that passes R14: its label frame is in the label day and labels back to it. -/
theorem labelOf_frameOf {l : Label} (h : labelOk code l = true) :
    frameOf code l < dayOf code ∧ labelOf code (frameOf code l) = l := by
  obtain ⟨hd, hday⟩ := rateOf_sound h1 h17
  obtain ⟨g, j, y, hshown, rfl⟩ := exists_labelAt hd h
  rw [frameOf_labelAt h1 h17 hshown, hday]
  exact ⟨hshown.frameAt_lt hd, labelOf_frameAt h1 h17 hshown⟩

/-- R15 on a label frame of the label day: its label passes R14 and gives the label frame back. -/
theorem frameOf_labelOf {n : Nat} (hn : n < dayOf code) :
    labelOk code (labelOf code n) = true ∧ frameOf code (labelOf code n) = n := by
  obtain ⟨hd, hday⟩ := rateOf_sound h1 h17
  obtain ⟨g, j, y, hshown, rfl⟩ := Rate.exists_frameAt hd (hn.trans_eq hday)
  rw [labelOf_frameAt h1 h17 hshown]
  exact ⟨labelOk_labelAt hshown, frameOf_labelAt h1 h17 hshown⟩

/-- A label that passes R14 belongs to exactly one label frame of the label day. -/
theorem existsUnique_labelOf {l : Label} (h : labelOk code l = true) :
    ∃ n, (n < dayOf code ∧ labelOf code n = l) ∧
      ∀ m, m < dayOf code ∧ labelOf code m = l → m = n := by
  refine ⟨frameOf code l, labelOf_frameOf h1 h17 h, ?_⟩
  rintro m ⟨hm, rfl⟩
  exact (frameOf_labelOf h1 h17 hm).2.symm

end

/-- Settles O3: both directions through the position that a label and its label frame share; the
non-drop clauses are those of R11, since nothing is dropped there. -/
theorem labelRoundTrip : Obligations.LabelRoundTrip := by
  intro code h1 h17
  refine ⟨fun l h => ⟨rfl, labelOf_frameOf h1 h17 h⟩, fun n hn => frameOf_labelOf h1 h17 hn,
    fun h5 h11 => ⟨fun n hn => ?_, fun l hhh hmm hss hff => ?_⟩⟩
  · obtain ⟨hok, -⟩ := frameOf_labelOf h1 h17 hn
    refine ⟨?_, (labelOk_iff.mp hok).1⟩
    rw [labelOf, undropped_nonDrop h5 h11, plainLabel]
  · refine existsUnique_labelOf h1 h17 (labelOk_iff.mpr ⟨⟨hhh, hmm, hss, hff⟩, fun _ _ => ?_⟩)
    rw [rateOf_drop_eq_zero h1 h17 h5 h11]
    exact Nat.zero_le _

end Sys2Proof.Machine
end

section
/-!
SUPPORT. What a request answered at once comes to in the views of the statements, and what a
SET_ORIGIN can leave waiting; with these, SET_HOUSE_RATE (R3).
-/

namespace Sys2Proof.Machine

/-! ### A request answered at once -/

/-- A reply to what the owner left raises no notice when the owner raised none. -/
theorem silent_of_reply {s u : State} {p : Port} {kind tag : Nat} {st : Status} {l : List Field}
    (ha : u.announced = s.announced) (hl : u.lost = s.lost) :
    Silent s (u.reply p kind tag st l).pump := by
  refine ⟨?_, ?_⟩
  · rw [State.announced_pump, State.announced_reply, ha]
  · rw [State.lost_pump, State.reply_lost, hl]

/-- A reply the port forms by itself while fewer than 4 of them wait joins what it has to send. -/
theorem State.outgoing_portReply {s : State} {p : Port}
    (h : ((s.port p).replies.filter fun r => !r.listed).length < 4) (kind tag : Nat) (st : Status) :
    (s.portReply p kind tag st).outgoing p =
      s.outgoing p ++ [⟨replyMessage kind tag st [], false, false⟩] := by
  cases p <;> simp_all [State.portReply, State.modPort, State.port, State.outgoing]

/-- A change of a port that leaves its transmitter alone announces nothing. -/
theorem State.announced_modPort (s : State) (p : Port) {f : PortState → PortState}
    (h : ∀ x, (f x).tx = x.tx) : (s.modPort p f).announced = s.announced := by
  cases p
  · simp [State.modPort, State.announced, h]
  · rfl

theorem State.announced_portReply (s : State) (p : Port) (kind tag : Nat) (st : Status) :
    (s.portReply p kind tag st).announced = s.announced :=
  s.announced_modPort p fun _ => by split <;> rfl

/-! ### SET_ORIGIN (R38) -/

/-- A request either is answered by the port itself or reaches its owner in the list (R179). -/
theorem State.admitted_cases (s : State) (q : Req) (kind : Nat) (c : Class) (layout : Bool)
    (own : State → State) :
    (∃ st, s.admitted q kind c layout own = s.portReply q.port kind q.tag st) ∨
      s.admitted q kind c layout own = own (s.enlist q kind) := by
  unfold State.admitted State.admitWith
  split
  · exact .inl ⟨_, rfl⟩
  split
  · exact .inl ⟨_, rfl⟩
  split
  · exact .inl ⟨_, rfl⟩
  · exact .inr rfl

/-- With none waiting before it, the SET_ORIGIN that waits is the request's own, its label read at
the house rate in force. -/
theorem setOrigin_waiting {s u : State} {q : Req} {l : Label} {w : WaitingOrigin}
    (h : exec (.setOrigin q l) s = .next u) (hs : s.ref.waiting = none)
    (hu : u.ref.waiting = some w) :
    w.rate = s.house ∧ labelOk s.house l = true ∧ w.frame = frameOf s.house l := by
  change finish _ = _ at h
  obtain rfl := Host.Outcome.next.inj h
  rw [State.pump_ref] at hu
  obtain ⟨st, e⟩ | e := State.admitted_cases s q 0x04 .control (labelHolds l) _ <;> rw [e] at hu
  · simp [hs] at hu
  simp only [State.enlist_ref, State.enlist_house, hs] at hu
  split at hu
  · simp [hs] at hu
  split at hu
  · simp [hs] at hu
  split at hu
  · simp [hs] at hu
  · rename_i hok
    obtain rfl := Option.some.inj hu
    exact ⟨rfl, by simpa using hok, rfl⟩

/-! ### SET_HOUSE_RATE (R3) -/

section
variable {s : State} {q : Req} {code : Nat}

/-- A SET_HOUSE_RATE that the control port takes: its owner's rule, on the state with the request
listed. -/
theorem exec_setHouseRate_taken (h : Taken s q) (hc : code < 256) (hp : q.port = .control) :
    exec (.setHouseRate q code) s = .next (State.pump
      (if rateCodeOk code then
        ({ s.enlist q 0x03 with house := code }).reply q.port 0x03 q.tag .ok
      else (s.enlist q 0x03).reply q.port 0x03 q.tag .outOfRange)) := by
  change finish (s.admitted q 0x03 .control (holds 1 code) _) = _
  have hholds : holds 1 code = true := by simpa [holds] using hc
  rw [hholds, State.admit_taken h 0x03 (by simp [Class.admits, hp])]
  rfl

/-- On the suite port it is not permitted. -/
theorem exec_setHouseRate_suite (h : Taken s q) (hc : code < 256) (hp : q.port = .suite) :
    exec (.setHouseRate q code) s =
      .next (s.portReply q.port 0x03 q.tag .notPermitted).pump := by
  change finish (s.admitted q 0x03 .control (holds 1 code) _) = _
  have hholds : holds 1 code = true := by simpa [holds] using hc
  rw [hholds, State.admitted, State.admitWith_refused h 0x03 (by simp [Class.admits, hp])]
  rfl

/-- The house label is that of a wired device with no phase advance and label origin 0 (R10). -/
theorem houseLabel_eq (code : Nat) (t : Int) :
    houseLabel code t = labelOf code ((t / periodOf code) % dayOf code).toNat := by
  simp [houseLabel, houseFrame, wiredFrame, wiredCount]

end

/-- Settles O5, from the owner's rule on the listed request and from what a SET_ORIGIN after it can
leave waiting. -/
theorem setHouseRate : Obligations.SetHouseRate := by
  intro q code s htaken hbyte
  refine ⟨fun hp h1 h17 => ?_, fun hp hout => ?_, fun hp hroom => ?_⟩
  · refine ⟨_, exec_setHouseRate_taken htaken hbyte hp, ?_⟩
    rw [if_pos (by simp [rateCodeOk, h1, h17])]
    have hhouse : (({ s.enlist q 0x03 with house := code } : State).reply q.port 0x03 q.tag
        .ok).pump.house = code := by simp
    refine ⟨answered_of_reply (State.outgoing_enlist s q 0x03 none),
      silent_of_reply (State.announced_enlist s q 0x03 none) (State.enlist_lost s q 0x03 none),
      ?_, fun T => ?_, fun q' l u w hexec hnone hsome => ?_⟩
    · rw [State.inner_pump, State.inner_reply]
      exact congrArg (fun x : State => { x with house := code }) (State.inner_enlist s q 0x03 none)
    · rw [hhouse, houseLabel_eq]
    · have hw := setOrigin_waiting hexec hnone hsome
      rwa [hhouse] at hw
  · refine ⟨_, exec_setHouseRate_taken htaken hbyte hp, ?_⟩
    rw [if_neg (by simp [rateCodeOk]; omega)]
    exact ⟨answered_of_reply (State.outgoing_enlist s q 0x03 none),
      silent_of_reply (State.announced_enlist s q 0x03 none) (State.enlist_lost s q 0x03 none),
      by simp⟩
  · refine ⟨_, exec_setHouseRate_suite htaken hbyte hp, ⟨?_, ?_⟩, by simp, ?_⟩
    · rw [State.announced_pump, State.announced_portReply]
    · simp
    · rw [State.outgoing_pump, hp, State.outgoing_portReply (p := .suite) hroom]

end Sys2Proof.Machine
end

section
/-!
SUPPORT. Reading the device slots after each update of them: one equation per update.
-/

namespace Sys2Proof.Machine

variable (s : State)

/-- A slot read after a slot was filled or emptied. -/
theorem State.dev_setDev (i j : Nat) (d : Option Device) :
    (s.setDev i d).dev j = if j = i ∧ i < 32 then d else s.dev j := by
  simp only [State.dev, State.setDev, Vector.getElem?_setIfInBounds]
  by_cases h : i = j
  · subst h
    by_cases h32 : i < 32 <;> simp [h32]
  · simp [h, Ne.symm h]

theorem State.dev_lt {i : Nat} {d : Device} (h : s.dev i = some d) : i < 32 := by
  by_contra hi
  simp [State.dev, Vector.getElem?_eq_none (Nat.le_of_not_lt hi)] at h

/-- A filled slot read after it was filled again. -/
theorem State.dev_setDev_same {i : Nat} {x : Device} (h : s.dev i = some x) (d : Option Device) :
    (s.setDev i d).dev i = d := by
  simp [State.dev_setDev, s.dev_lt h]

theorem State.dev_setDev_ne {i j : Nat} (h : j ≠ i) (d : Option Device) :
    (s.setDev i d).dev j = s.dev j := by
  simp [State.dev_setDev, h]

/-- The slots decide what every slot reads as. -/
theorem State.dev_congr {s t : State} (h : t.slots = s.slots) (i : Nat) : t.dev i = s.dev i := by
  simp [State.dev, h]

/-- A slot read after a change of every declared slot. -/
theorem State.dev_mapSlots {s t : State} {f : Device → Device}
    (h : t.slots = s.slots.map fun o => o.map f) (i : Nat) : t.dev i = (s.dev i).map f := by
  simp only [State.dev, h, Vector.getElem?_map]
  rcases s.slots[i]? with _ | _ | x <;> rfl

/-- A slot read after a change of one slot's live state. -/
theorem State.dev_modLive (i j : Nat) (f : Live → Live) :
    (s.modLive i f).dev j =
      if j = i then (s.dev i).map fun d => { d with live := f d.live } else s.dev j := by
  unfold State.modLive
  cases hd : s.dev i with
  | none => split <;> simp_all
  | some d =>
    have hi := s.dev_lt hd
    simp [State.dev_setDev, hi]

theorem State.dev_modLive_same {i : Nat} {d : Device} (h : s.dev i = some d) (f : Live → Live) :
    (s.modLive i f).dev i = some { d with live := f d.live } := by
  simp [State.dev_modLive, h]

theorem State.dev_modLive_ne {i j : Nat} (h : j ≠ i) (f : Live → Live) :
    (s.modLive i f).dev j = s.dev j := by
  simp [State.dev_modLive, h]

/-- A change of state leaves the other slots alone. -/
theorem State.dev_enter_ne {i j : Nat} (h : j ≠ i) (new : DevState) :
    (s.enter i new).dev j = s.dev j := by
  unfold State.enter
  split
  · rfl
  · dsimp only
    split
    · rfl
    · exact s.dev_setDev_ne h _

/-- A device enters another state: the state and the poll countdown change (R92). -/
theorem State.dev_enter {i : Nat} {d : Device} (h : s.dev i = some d) (new : DevState) :
    (s.enter i new).dev i = some { d with live := { d.live with
      state := new
      pollLeft := if d.live.state = new then d.live.pollLeft
        else s.pollPeriod { d with live := { d.live with state := new } } } } := by
  unfold State.enter
  simp only [h]
  split
  · rename_i he
    subst he
    simp [h]
  · simp [s.dev_setDev_same h]

/-- The declared slots are those that read as filled. -/
theorem State.mem_declared (x : Nat × Device) : x ∈ s.declared ↔ s.dev x.1 = some x.2 := by
  obtain ⟨i, d⟩ := x
  simp only [State.declared, List.mem_filterMap, List.mem_range, Option.map_eq_some_iff,
    Prod.mk.injEq]
  constructor
  · rintro ⟨j, -, e, hj, rfl, rfl⟩
    exact hj
  · exact fun h => ⟨i, s.dev_lt h, d, h, rfl, rfl⟩

end Sys2Proof.Machine
end

section
/-!
SUPPORT. What every operation of the model keeps of the bounds of Safety.lean. `Calm` says that time
stands still and that the bounds of ports and missed counts are kept, `Keeps` that the flash's bounds
read as before too, `Sound` that they are kept. Each relation composes, and each operation is shown
to be in the strongest one it meets, once.
-/

namespace Sys2Proof.Machine

/-- What the bounds of the flash read of a state. -/
structure Disk where
  log       : List (Nat × PageData)
  op        : StoreOp
  pointer   : Nat
  failures  : Nat
  scanned   : Bool
  scanEnded : Bool
  state     : StoreState
  clear     : Bool

/-- What the bounds of the flash read of this state. -/
def State.disk (s : State) : Disk :=
  ⟨s.flash.log, s.store.op, s.store.pointer, s.store.failures, s.store.scanned, s.store.scanEnded,
    s.store.state, s.store.clear.isNone⟩

/-- The bounds of the flash over what they read. -/
def Disk.ok (x : Disk) : Prop :=
  logWf x.log = true ∧ (∀ p ∈ x.op.pages, p ≠ blankPage) ∧
    (x.op.pages = [] ∨ x.pointer < logPages) ∧
    (x.scanned = true ∨ (x.op.pages = [] ∧ x.op ≠ .erase ∧ x.state = .scanning ∧ x.clear = true)) ∧
    (x.scanned = true → x.scanEnded = true) ∧
    (∀ p, x.op = .cleared p → x.pointer ≤ 1 ∧ (x.failures = 0 → x.pointer = 0))

theorem State.flashOk_iff (s : State) : s.flashOk = true ↔ s.disk.ok := by
  have hclear : s.store.clearedOk = true ↔
      ∀ p, s.store.op = .cleared p → s.store.pointer ≤ 1 ∧
        (s.store.failures = 0 → s.store.pointer = 0) := by
    unfold Store.clearedOk
    split
    · rename_i p h
      simp only [h, StoreOp.cleared.injEq, forall_eq', Bool.and_eq_true, decide_eq_true_eq]
    · rename_i h
      exact ⟨fun _ p hp => absurd hp (h p), fun _ => rfl⟩
  simp only [State.flashOk, Bool.and_eq_true, hclear, Disk.ok, State.disk, Store.startupOk]
  simp [and_assoc, imp_iff_not_or]

/-- The missed counts' bound, slot by slot. -/
theorem State.countsOk_iff (s : State) :
    s.countsOk = true ↔ ∀ i d, s.dev i = some d → d.live.countOk = true := by
  simp only [State.countsOk, List.all_eq_true]
  exact ⟨fun h i d hd => h (i, d) ((s.mem_declared _).mpr hd),
    fun h x hx => h x.1 x.2 ((s.mem_declared x).mp hx)⟩

theorem State.portsOk_iff (s : State) :
    s.portsOk = true ↔ s.notices.length ≤ 16 ∧ s.lost ≤ 65535 ∧
      s.control.outstanding.length ≤ 4 ∧ s.suite.outstanding.length ≤ 4 := by
  simp [State.portsOk, and_assoc]

theorem Live.countOk_iff (l : Live) :
    l.countOk = true ↔ l.missedRejams ≤ 2 ∧ (l.missedRejams = 2 ↔ l.state = .drifting) := by
  simp [Live.countOk]

/-- Time stands still, and the bounds of the ports and of the missed counts are kept. -/
structure Calm (s t : State) : Prop where
  clock  : t.clock = s.clock
  origin : t.origin = s.origin
  ports  : s.portsOk = true → t.portsOk = true
  counts : s.countsOk = true → t.countsOk = true

/-- Calm, and the bounds of the flash read as before. -/
structure Keeps (s t : State) : Prop extends Calm s t where
  disk : t.disk = s.disk

/-- Calm, and the bounds of the flash are kept. -/
structure Sound (s t : State) : Prop extends Calm s t where
  flash : s.disk.ok → t.disk.ok

/-- All that the four bounds read of a state. -/
def State.bounded (s : State) : Clock × Nat × Vector (Option Device) 32 × List Outstanding ×
    List Outstanding × List Notice × Nat × Disk :=
  (s.clock, s.origin, s.slots, s.control.outstanding, s.suite.outstanding, s.notices, s.lost, s.disk)

section
variable {s t u : State}

theorem Calm.refl (s : State) : Calm s s := ⟨rfl, rfl, id, id⟩

theorem Calm.trans (h : Calm s t) (g : Calm t u) : Calm s u :=
  ⟨g.clock.trans h.clock, g.origin.trans h.origin, g.ports ∘ h.ports, g.counts ∘ h.counts⟩

theorem Keeps.refl (s : State) : Keeps s s := ⟨.refl s, rfl⟩

theorem Keeps.trans (h : Keeps s t) (g : Keeps t u) : Keeps s u :=
  ⟨h.toCalm.trans g.toCalm, g.disk.trans h.disk⟩

theorem Keeps.sound (h : Keeps s t) : Sound s t := ⟨h.toCalm, fun hd => h.disk.symm ▸ hd⟩

theorem Sound.refl (s : State) : Sound s s := (Keeps.refl s).sound

theorem Sound.trans (h : Sound s t) (g : Sound t u) : Sound s u :=
  ⟨h.toCalm.trans g.toCalm, g.flash ∘ h.flash⟩

/-- Nothing that the bounds read has changed. -/
theorem Keeps.of_bounded (h : t.bounded = s.bounded) : Keeps s t := by
  simp only [State.bounded, Prod.mk.injEq] at h
  obtain ⟨hc, ho, hs, hco, hsu, hn, hl, hd⟩ := h
  refine ⟨⟨hc, ho, ?_, ?_⟩, hd⟩
  · simp [State.portsOk_iff, hco, hsu, hn, hl]
  · simp only [State.countsOk_iff, State.dev_congr hs]
    exact id

/-- A plain change before what keeps the bounds. -/
theorem Keeps.start (g : Keeps t u) (h : t.bounded = s.bounded) : Keeps s u :=
  (Keeps.of_bounded h).trans g

/-- A change of the store or the flash alone is calm. -/
theorem Calm.of_disk (h : { t with store := s.store, flash := s.flash }.bounded = s.bounded) :
    Calm s t :=
  have k := (Keeps.of_bounded h).toCalm
  ⟨k.clock, k.origin, k.ports, k.counts⟩

/-- A change of the store or the flash alone before what is calm. -/
theorem Calm.start (g : Calm t u)
    (h : { t with store := s.store, flash := s.flash }.bounded = s.bounded) : Calm s u :=
  (Calm.of_disk h).trans g

theorem Sound.of_bounded (h : t.bounded = s.bounded) : Sound s t := (Keeps.of_bounded h).sound

theorem Sound.start (g : Keeps t u) (h : t.bounded = s.bounded) : Sound s u := (g.start h).sound

/-- A fold whose every step keeps the bounds keeps them. -/
theorem Keeps.foldl {α : Type} (f : State → α → State) (h : ∀ t a, Keeps t (f t a)) (l : List α) :
    ∀ s, Keeps s (l.foldl f s) := by
  induction l with
  | nil => exact Keeps.refl
  | cons a l ih => exact fun s => (h s a).trans (ih (f s a))

theorem Sound.foldl {α : Type} (f : State → α → State) (h : ∀ t a, Sound t (f t a)) (l : List α) :
    ∀ s, Sound s (l.foldl f s) := by
  induction l with
  | nil => exact Sound.refl
  | cons a l ih => exact fun s => (h s a).trans (ih (f s a))

end

section
variable (s : State)

/-! ### The device slots -/

/-- A change of the slots alone keeps the bounds when no count leaves its own. -/
theorem Keeps.of_slots {s t : State}
    (hb : { t with slots := s.slots }.bounded = s.bounded)
    (h : s.countsOk = true → ∀ i d, t.dev i = some d → d.live.countOk = true) : Keeps s t :=
  have k := Keeps.of_bounded hb
  ⟨⟨k.clock, k.origin, k.ports, fun hs => (State.countsOk_iff t).mpr (h hs)⟩, k.disk⟩

theorem keeps_setDev (i : Nat) {o : Option Device}
    (h : s.countsOk = true → ∀ d, o = some d → d.live.countOk = true) : Keeps s (s.setDev i o) := by
  refine .of_slots rfl fun hs j d hd => ?_
  rw [State.dev_setDev] at hd
  split at hd
  · exact h hs d hd
  · exact s.countsOk_iff.mp hs j d hd

/-- A change of one live state that keeps its count right. -/
theorem keeps_modLive (i : Nat) {f : Live → Live}
    (h : ∀ d, s.dev i = some d → d.live.countOk = true → (f d.live).countOk = true) :
    Keeps s (s.modLive i f) := by
  unfold State.modLive
  cases hd : s.dev i with
  | none => exact .refl s
  | some d =>
    refine keeps_setDev s i fun hs x hx => ?_
    obtain rfl := Option.some.inj hx
    exact h d hd (s.countsOk_iff.mp hs i d hd)

/-- A change of one live state that leaves state and count alone. -/
theorem keeps_modLive_same (i : Nat) {f : Live → Live}
    (hstate : ∀ l, (f l).state = l.state) (hcount : ∀ l, (f l).missedRejams = l.missedRejams) :
    Keeps s (s.modLive i f) :=
  keeps_modLive s i fun d _ hd => by rw [Live.countOk_iff] at hd ⊢; rw [hstate, hcount]; exact hd

/-- A change of every declared slot that leaves state and count alone. -/
theorem keeps_mapSlots {s t : State} {f : Device → Device}
    (hb : { t with slots := s.slots }.bounded = s.bounded)
    (hm : t.slots = s.slots.map fun o => o.map f)
    (hstate : ∀ d, (f d).live.state = d.live.state)
    (hcount : ∀ d, (f d).live.missedRejams = d.live.missedRejams) : Keeps s t := by
  refine .of_slots hb fun hs i d hd => ?_
  rw [State.dev_mapSlots hm, Option.map_eq_some_iff] at hd
  obtain ⟨x, hx, rfl⟩ := hd
  have := s.countsOk_iff.mp hs i x hx
  rw [Live.countOk_iff] at this ⊢
  rwa [hstate, hcount]

/-- A change of state that suits the count. -/
theorem keeps_enter (i : Nat) (new : DevState)
    (h : ∀ d, s.dev i = some d → d.live.countOk = true →
      (d.live.missedRejams = 2 ↔ new = .drifting)) : Keeps s (s.enter i new) := by
  unfold State.enter
  split
  · exact .refl s
  · rename_i d hd
    dsimp only
    split
    · exact .refl s
    · refine keeps_setDev s i fun hs x hx => ?_
      obtain rfl := Option.some.inj hx
      have hc := s.countsOk_iff.mp hs i d hd
      rw [Live.countOk_iff] at hc ⊢
      exact ⟨hc.1, h d hd ((Live.countOk_iff _).mpr hc)⟩

/-! ### Other plain updates -/

theorem keeps_post (c : ReqClass) (i : Nat) (f : Option Nat) : Keeps s (s.post c i f) :=
  .of_bounded rfl

theorem keeps_modTake (ss ix : Nat) (f : Entry → Entry) : Keeps s (s.modTake ss ix f) :=
  .of_bounded rfl

theorem keeps_modLine (n : Nat) (f : Line → Line) : Keeps s (s.modLine n f) := .of_bounded rfl

theorem keeps_modUnit (u : Nat) (f : UnitRec → UnitRec) : Keeps s (s.modUnit u f) := .of_bounded rfl

theorem keeps_writeEntry (i : Nat) (f : Participant → Participant) : Keeps s (s.writeEntry i f) := by
  unfold State.writeEntry
  split
  · exact keeps_modTake s _ _ _
  · exact .refl s

theorem keeps_lineFault (i : Nat) : Keeps s (s.lineFault i) := keeps_writeEntry s i _

/-! ### Notices and ports -/

theorem keeps_notify (k : Nat) (b : List Field) : Keeps s (s.notify k b) := by
  refine ⟨⟨s.notify_clock k b, s.notify_origin k b, fun h => ?_, fun h => ?_⟩, ?_⟩
  · rw [State.portsOk_iff] at h ⊢
    obtain ⟨hn, hl, hc, hs⟩ := h
    refine ⟨?_, ?_, by rwa [State.notify_control], by rwa [State.notify_suite]⟩
    · unfold State.notify
      split
      · simp only [List.length_append, List.length_singleton]; omega
      · exact hn
    · unfold State.notify
      split
      · exact Nat.zero_le _
      · exact Nat.min_le_right _ _
  · simpa only [State.countsOk_iff, State.dev_congr (s.notify_slots k b)] using h
  · simp [State.disk]

theorem keeps_noteDevice (i : Nat) (o n : Option DevState) (c : DevCause)
    (j : Option (Int × Nat)) (k : Option Int) : Keeps s (s.noteDevice i o n c j k) :=
  keeps_notify s _ _

/-- A change of a port that does not lengthen its list of outstanding requests. -/
theorem keeps_modPort (p : Port) {f : PortState → PortState}
    (h : (f (s.port p)).outstanding.length ≤ (s.port p).outstanding.length) :
    Keeps s (s.modPort p f) := by
  refine ⟨⟨s.modPort_clock p f, s.modPort_origin p f, fun hp => ?_, fun hc => ?_⟩, ?_⟩
  · rw [State.portsOk_iff] at hp ⊢
    obtain ⟨hn, hl, hc, hs⟩ := hp
    cases p
    · exact ⟨hn, hl, h.trans hc, hs⟩
    · exact ⟨hn, hl, hc, h.trans hs⟩
  · simpa only [State.countsOk_iff, State.dev_congr (s.modPort_slots p f)] using hc
  · simp [State.disk]

theorem keeps_reply (p : Port) (k n : Nat) (st : Status) (l : List Field) :
    Keeps s (s.reply p k n st l) := keeps_modPort s p le_rfl

theorem keeps_replyQuery (p : Port) (k n : Nat) (st : Status) (l : List Field) :
    Keeps s (s.replyQuery p k n st l) := keeps_modPort s p le_rfl

theorem keeps_portReply (p : Port) (k n : Nat) (st : Status) : Keeps s (s.portReply p k n st) :=
  keeps_modPort s p (by split <;> rfl)

/-- A request joins a list that has room (R179). -/
theorem keeps_enlist (q : Req) (k : Nat) (x : Option Query)
    (h : (s.port q.port).outstanding.length < 4) : Keeps s (s.enlist q k x) := by
  refine ⟨⟨s.enlist_clock q k x, s.enlist_origin q k x, fun hp => ?_, fun hc => ?_⟩, ?_⟩
  · rw [State.portsOk_iff] at hp ⊢
    obtain ⟨hn, hl, hco, hsu⟩ := hp
    obtain ⟨p, tag, more⟩ := q
    cases p <;> simp only [State.enlist, State.modPort, State.port, List.length_append,
      List.length_singleton] at h ⊢ <;> exact ⟨hn, hl, by omega, by omega⟩
  · simpa only [State.countsOk_iff, State.dev_congr (s.enlist_slots q k x)] using hc
  · simp [State.disk]

theorem PortState.outstanding_sendReply_le (x : PortState) :
    x.sendReply.outstanding.length ≤ x.outstanding.length := by
  unfold PortState.sendReply dropOutstanding
  split
  · dsimp only
    split
    · exact (List.eraseP_sublist).length_le
    · exact le_rfl
  · exact le_rfl

theorem keeps_pumpControl : Keeps s s.pumpControl := by
  have h1 : Keeps s { s with control := s.control.sendReply } :=
    keeps_modPort s .control (f := PortState.sendReply) s.control.outstanding_sendReply_le
  unfold State.pumpControl
  dsimp only
  split
  · rename_i n ns _ hn
    refine h1.trans ⟨⟨rfl, rfl, fun hp => ?_, id⟩, rfl⟩
    rw [State.portsOk_iff] at hp ⊢
    dsimp only at hp hn ⊢
    rw [hn] at hp
    exact ⟨(Nat.le_succ _).trans hp.1, hp.2⟩
  · exact h1

theorem keeps_pumpSuite : Keeps s s.pumpSuite := by
  have h1 : Keeps s { s with suite := s.suite.sendReply } :=
    keeps_modPort s .suite (f := PortState.sendReply) s.suite.outstanding_sendReply_le
  unfold State.pumpSuite
  dsimp only
  split
  · exact h1.trans (.of_bounded rfl)
  · exact h1

theorem keeps_pump : Keeps s s.pump := (keeps_pumpControl s).trans (keeps_pumpSuite _)

/-- Taking a request keeps what its owner keeps. -/
theorem sound_admitWith (q : Req) (k : Nat) (c : Class) (layout : Bool) (own : State → State)
    (h : (s.port q.port).outstanding.length < 4 → Sound s (own s)) :
    Sound s (s.admitWith q k c layout own) := by
  unfold State.admitWith
  split
  · exact (keeps_portReply s _ _ _ _).sound
  split
  · exact (keeps_portReply s _ _ _ _).sound
  split
  · exact (keeps_portReply s _ _ _ _).sound
  · exact h (by omega)

theorem sound_admitted (q : Req) (k : Nat) (c : Class) (layout : Bool) (own : State → State)
    (h : ∀ t, Sound t (own t)) : Sound s (s.admitted q k c layout own) :=
  sound_admitWith s q k c layout _ fun hq => (keeps_enlist s q k none hq).sound.trans (h _)

theorem sound_ask (q : Req) (k : Nat) (layout : Bool) (answer : State → Answer) :
    Sound s (s.ask q k layout answer) :=
  sound_admitted s q k _ layout _ fun t => (keeps_reply t _ _ _ _ _).sound

end

end Sys2Proof.Machine
end

section
/-!
SUPPORT. Which of `Keeps` and `Sound` each operation is in, in the order of the model's files.
-/

namespace Sys2Proof.Machine

variable (s : State)

/-! ### Held re-jams and time changes -/

/-- A held re-jam counts at most two, and the second makes the device DRIFTING (R111). -/
theorem keeps_holdTrigger (i : Nat) (b : Bool) : Keeps s (s.holdTrigger i b) := by
  unfold State.holdTrigger
  split
  · exact .refl s
  rename_i d hd
  have h1 := keeps_modLive_same s i (f := fun l => { l with held := true }) (fun _ => rfl) fun _ => rfl
  have hd1 := s.dev_modLive_same hd fun l => { l with held := true }
  dsimp only
  split
  · rename_i hc
    refine h1.trans (keeps_modLive _ i fun e he _ => ?_)
    obtain rfl := Option.some.inj (hd1.symm.trans he)
    simp [Live.countOk_iff, hc.1]
  split
  · rename_i hc
    refine (h1.trans ?_).trans ((keeps_noteDevice _ _ _ _ _ _ _).trans (keeps_writeEntry _ _ _))
    have hd2 := State.dev_modLive_same _ hd1 fun l => { l with missedRejams := 2 }
    have hd3 := State.dev_enter _ hd2 .drifting
    refine .of_slots (by simp [State.bounded, State.disk]) fun hs j x hx => ?_
    by_cases hj : j = i
    · subst hj
      obtain rfl := Option.some.inj (hd3.symm.trans hx)
      simp [Live.countOk_iff]
    · rw [State.dev_enter_ne _ hj, State.dev_modLive_ne _ hj] at hx
      exact (State.countsOk_iff _).mp hs j x hx
  · exact h1

theorem keeps_endHold (i : Nat) : Keeps s (s.endHold i) := by
  unfold State.endHold
  split
  · split
    · exact (keeps_modLive_same s i (f := fun l => { l with held := false }) (fun _ => rfl)
        fun _ => rfl).trans (keeps_post _ _ _ _)
    · exact .refl s
  · exact .refl s

theorem keeps_postOrHold (c : ReqClass) (i : Nat) (b : Bool) : Keeps s (s.postOrHold c i b) := by
  unfold State.postOrHold
  split
  · split
    · exact keeps_holdTrigger s i b
    · exact keeps_post s c i none
  · exact .refl s

theorem keeps_timeChange (a : Int) : Keeps s (s.timeChange a) := by
  unfold State.timeChange
  dsimp only
  refine Keeps.trans ?_ (Keeps.foldl (fun (t : State) (x : Nat × Device) => t.post .drift x.1)
    (fun t x => keeps_post t .drift x.1 none) (s.declared.filter fun x => x.2.rejamsAtChange) _)
  refine keeps_mapSlots (f := fun d =>
    if d.isRadio ∧ d.live.jam.isSome then { d with live := d.live.shift a } else d) rfl rfl ?_ ?_
  all_goals
    intro d
    split
    · rfl
    · rfl

/-! ### The reference unit -/

theorem keeps_noteRef (old : RefState) : Keeps s (s.noteRef old) := keeps_notify s _ _

theorem keeps_slewEdge (e : Int) (label : Option Nat) : Keeps s (s.slewEdge e label) :=
  .of_bounded rfl

/-! ### The log store -/

theorem keeps_noteStore (c : Nat) (p i : Option Nat) : Keeps s (s.noteStore c p i) :=
  keeps_notify s _ _

theorem keeps_failFlushes (st : Status) : Keeps s (s.failFlushes st) :=
  Keeps.start (Keeps.foldl _ (fun t _ => keeps_reply t _ _ _ _ _) _ _) rfl

theorem keeps_testFlushes : Keeps s s.testFlushes :=
  Keeps.start (Keeps.foldl _ (fun t _ => keeps_reply t _ _ _ _ _) _ _) rfl

theorem enterFault_disk (page : Nat) :
    (s.enterFault page).disk = { s.disk with state := .fault } :=
  (keeps_failFlushes _ _).disk.trans (keeps_noteStore _ _ _ _).disk

theorem enterLogFull_disk : s.enterLogFull.disk = { s.disk with state := .logFull } :=
  (keeps_failFlushes _ _).disk.trans (keeps_noteStore _ _ _ _).disk

theorem calm_enterFault (page : Nat) : Calm s (s.enterFault page) :=
  ((Calm.of_disk (t := { s with store := { s.store with state := .fault } }) rfl).trans
    (keeps_noteStore _ _ _ _).toCalm).trans (keeps_failFlushes _ _).toCalm

theorem calm_enterLogFull : Calm s s.enterLogFull :=
  ((Calm.of_disk (t := { s with store := { s.store with state := .logFull } }) rfl).trans
    (keeps_noteStore _ _ _ _).toCalm).trans (keeps_failFlushes _ _).toCalm

/-- A READY store has its scan behind it. -/
theorem Disk.ok.scanned_of_state {x : Disk} (h : x.ok) (hs : x.state ≠ .scanning) :
    x.scanned = true := by
  obtain ⟨-, -, -, hstart, -, -⟩ := h
  exact hstart.resolve_right fun hn => hs hn.2.2.1

/-- A store in another state than SCANNING may go to LOG_FULL or to FAULT. -/
theorem Disk.ok.setState {x : Disk} (h : x.ok) (hs : x.scanned = true) (y : StoreState) :
    Disk.ok { x with state := y } := by
  obtain ⟨hlog, hpages, hroom, -, hscan, hclear⟩ := h
  exact ⟨hlog, hpages, hroom, .inl hs, hscan, hclear⟩

theorem sound_enterLogFull (h : s.store.state ≠ .scanning) : Sound s s.enterLogFull :=
  ⟨calm_enterLogFull s, fun hd => by
    rw [enterLogFull_disk]; exact hd.setState (hd.scanned_of_state h) _⟩

theorem keeps_setRecord (i : Nat) (st : RecState) : Keeps s (s.setRecord i st) := keeps_modTake s _ _ _

/-- An unsigned field that holds its value carries its bits. -/
theorem uint_code {w n : Nat} (h : n < 2 ^ (8 * w)) : (uint w n).code = n := by
  have hi : (n : Int) < (2 ^ (8 * w) : Nat) := by exact_mod_cast h
  have hf : (uint w n).fits = true := decide_eq_true ⟨Int.natCast_nonneg n, hi⟩
  rw [Field.code, if_pos hf]
  show ((n : Int) % (2 ^ (8 * w) : Nat)).toNat = n
  rw [← Int.natCast_mod, Int.toNat_natCast, Nat.mod_eq_of_lt h]

/-- A log page begins with the byte of its kind. -/
theorem pageBytes_head (kind session index part parts : Nat) (body : List Byte) (h : kind < 256) :
    (pageBytes kind session index part parts body).head? = some (BitVec.ofNat 8 kind) := by
  have hb : Field.bytes (fByte kind) = [BitVec.ofNat 8 kind] := by
    have hc : (fByte kind).code = kind := uint_code (w := 1) h
    rw [Field.bytes, hc]
    simp [fByte, uint, leBytes, Nat.mod_eq_of_lt h]
  simp [pageBytes, encodeFields, hb]

/-- A page of one of the three kinds is not blank. -/
theorem pageBytes_ne_blank (kind session index part parts : Nat) (body : List Byte) (h : kind < 255) :
    pageBytes kind session index part parts body ≠ blankPage := by
  intro he
  have hh := pageBytes_head kind session index part parts body (by omega)
  rw [he] at hh
  have h255 : BitVec.ofNat 8 0xFF = BitVec.ofNat 8 kind := by simpa [blankPage] using hh
  have := congrArg BitVec.toNat h255
  simp only [BitVec.toNat_ofNat] at this
  omega

theorem takePages_ne_blank (r : TakeRecord) : ∀ p ∈ takePages r, p ≠ blankPage := by
  intro p hp
  simp only [takePages, List.mem_map] at hp
  obtain ⟨x, -, rfl⟩ := hp
  exact pageBytes_ne_blank _ _ _ _ _ _ (by decide)

theorem chunksFrom_ne_nil (n fuel : Nat) (bs : List Byte) : chunksFrom n fuel bs ≠ [] := by
  cases fuel with
  | zero => simp [chunksFrom]
  | succ fuel => unfold chunksFrom; split <;> simp

theorem takePages_ne_nil (r : TakeRecord) : takePages r ≠ [] := by
  have h := chunksFrom_ne_nil 243 (encodeTake r).length (encodeTake r)
  simpa [takePages, chunks] using h

/-- A log write begins: its pages are not blank and fit. -/
theorem sound_beginOp {t : State} (op : StoreOp)
    (hb : { t with store := s.store, flash := s.flash }.bounded = s.bounded)
    (ht : t.disk = { s.disk with op := op })
    (hpages : ∀ p ∈ op.pages, p ≠ blankPage)
    (hroom : op.pages = [] ∨ s.store.pointer < logPages)
    (hstart : s.disk.ok → s.store.scanned = true ∨ (op.pages = [] ∧ op ≠ .erase))
    (hcleared : ∀ p, op ≠ .cleared p) : Sound s t := by
  refine ⟨Calm.of_disk hb, fun hd => ?_⟩
  have hs := hstart hd
  obtain ⟨hlog, -, -, hold, hscan, -⟩ := hd
  rw [ht]
  refine ⟨hlog, hpages, hroom, ?_, hscan, fun p hp => absurd hp (hcleared p)⟩
  rcases hs with hs | ⟨hp, he⟩
  · exact .inl hs
  · exact hold.imp id fun ⟨_, _, hst, hcl⟩ => ⟨hp, he, hst, hcl⟩

theorem sound_beginCommit (i : Nat) (h : s.store.state = .ready) : Sound s (s.beginCommit i) := by
  have hns : s.store.state ≠ .scanning := by simp [h]
  unfold State.beginCommit
  split
  · exact .refl s
  dsimp only
  split
  · exact sound_enterLogFull s hns
  · rename_i e _ hfit
    have hlen := List.length_pos_iff.mpr (takePages_ne_nil { e.copy with state := .committing })
    exact sound_beginOp s (.commit i _) rfl rfl (takePages_ne_blank _)
      (.inr (lt_of_lt_of_le (Nat.lt_add_of_pos_right hlen) (Nat.le_of_not_lt hfit)))
      (fun hd => .inl (hd.scanned_of_state hns)) nofun

theorem sound_beginAmend (a : Amendment) (h : s.store.state = .ready) : Sound s (s.beginAmend a) := by
  have hns : s.store.state ≠ .scanning := by simp [h]
  unfold State.beginAmend
  split
  · exact sound_enterLogFull s hns
  · refine sound_beginOp s (.amend a (amendmentPage a)) rfl rfl ?_ (.inr (by omega))
      (fun hd => .inl (hd.scanned_of_state hns)) nofun
    simp only [StoreOp.pages, List.mem_singleton, forall_eq]
    exact pageBytes_ne_blank _ _ _ _ _ _ (by decide)

theorem sound_beginWrite : Sound s s.beginWrite := by
  unfold State.beginWrite
  split
  · exact .refl s
  rename_i h
  have h : s.store.state = .ready := by simpa using h
  split
  · exact sound_beginAmend s _ h
  · exact sound_beginCommit s _ h
  · exact .refl s

theorem sound_beginRead : Sound s s.beginRead := by
  unfold State.beginRead
  split
  · rename_i r rs _ _
    exact sound_beginOp s (.read r true) rfl rfl nofun (.inl rfl) (fun _ => .inr ⟨rfl, nofun⟩) nofun
  · exact .refl s

theorem sound_beginSettings (n : Nat) : Sound s (s.beginSettings n) := by
  exact sound_beginOp s (.settings n) rfl rfl nofun (.inl rfl) (fun _ => .inr ⟨rfl, nofun⟩) nofun

/-- An erase begins for a waiting CLEAR_LOG, which waits only once the scan is done. -/
theorem sound_beginErase {c : PendingClear} (hc : s.store.clear = some c) :
    Sound s { s with store := { s.store with op := .erase } } := by
  refine sound_beginOp s .erase rfl rfl nofun (.inl rfl) (fun hd => .inl ?_) nofun
  obtain ⟨-, -, -, hstart, -, -⟩ := hd
  exact hstart.resolve_right fun hn => by simp [State.disk, hc] at hn

theorem sound_beginPending : Sound s s.beginPending := by
  unfold State.beginPending
  split
  · rename_i a c _ hc
    split
    · exact sound_beginSettings s 1
    · exact sound_beginErase s hc
  · exact sound_beginSettings s 1
  · rename_i c _ hc
    exact sound_beginErase s hc
  · exact .refl s

theorem sound_arbitrate : Sound s s.arbitrate := by
  unfold State.arbitrate
  split
  · exact .refl s
  split
  · exact sound_beginPending s
  split
  · exact sound_beginRead s
  · exact (sound_beginWrite s).trans (sound_beginRead _)

theorem sound_endOp (w : Bool) : Sound s (s.endOp w) :=
  sound_beginOp s .idle rfl rfl nofun (.inl rfl) (fun _ => .inr ⟨rfl, nofun⟩) nofun

/-! ### Page writes -/

theorem calm_pageGoodAt (page : List Byte) : Calm s (s.pageGoodAt page) := .of_disk rfl

theorem calm_pageBadAt : Calm s s.pageBadAt := .of_disk rfl

theorem keeps_endCommit (i : Nat) : Keeps s (s.endCommit i) :=
  (keeps_testFlushes _).start rfl

theorem stopCommit_disk (i : Nat) : (s.stopCommit i).disk = s.disk := rfl

theorem keeps_stopCommit (i : Nat) : Keeps s (s.stopCommit i) := .of_bounded rfl

theorem keeps_dropAmendment (a : Amendment) : Keeps s (s.dropAmendment a) := .of_bounded rfl

/-- A CLEAR_LOG answered waits no longer. -/
theorem answerClear_disk (st : Status) (l : List Field) :
    (s.answerClear st l).disk = { s.disk with clear := true } := by
  unfold State.answerClear
  split
  · rename_i h
    simp [State.disk, h]
  · exact (keeps_reply _ _ _ _ _ _).disk

theorem calm_answerClear (st : Status) (l : List Field) : Calm s (s.answerClear st l) := by
  unfold State.answerClear
  split
  · exact .refl s
  · exact (Calm.of_disk (t := { s with store := { s.store with clear := none } }) rfl).trans
      (keeps_reply _ _ _ _ _ _).toCalm

/-- The flash's bounds as a page of the operation in flight has been written and the operation has
ended: the canonical form is kept, the scan is done. -/
theorem Disk.ok.ended {x : Disk} (h : x.ok) {p : List Byte} (hp : p ∈ x.op.pages) (d : PageData)
    (hd : d = .bytes p ∨ d = .damaged) (n k : Nat) (st : StoreState) (c : Bool) :
    Disk.ok ⟨writePage x.pointer d x.log, .idle, n, k, x.scanned, x.scanEnded, st, c⟩ := by
  obtain ⟨hlog, hpages, hroom, hstart, hscan, -⟩ := h
  have hne : x.op.pages ≠ [] := List.ne_nil_of_mem hp
  have hs : x.scanned = true := hstart.resolve_right fun hn => hne hn.1
  refine ⟨logWf_writePage _ _ _ hlog (hroom.resolve_left hne) ?_, nofun, .inl rfl, .inl hs, hscan, nofun⟩
  rcases hd with rfl | rfl
  · simpa using hpages p hp
  · nofun

/-- The flash's bounds as a page has been written and the operation goes on at the next page. -/
theorem Disk.ok.goesOn {x : Disk} (h : x.ok) {p : List Byte} (hp : p ∈ x.op.pages) (d : PageData)
    (hd : d = .bytes p ∨ d = .damaged) (n k : Nat) (op : StoreOp)
    (hop : ∀ q ∈ op.pages, q ∈ x.op.pages) (hn : n < logPages)
    (hc : ∀ q, op = .cleared q → n ≤ 1 ∧ (k = 0 → n = 0)) :
    Disk.ok ⟨writePage x.pointer d x.log, op, n, k, x.scanned, x.scanEnded, x.state, x.clear⟩ := by
  obtain ⟨hlog, -, -, hstart, hscan, -⟩ := h.ended hp d hd n k x.state x.clear
  obtain ⟨-, hpages, -, hold, -, -⟩ := h
  have hs : x.scanned = true := hold.resolve_right fun hn => List.ne_nil_of_mem hp hn.1
  exact ⟨hlog, fun q hq => hpages q (hop q hq), .inr hn, .inl hs, hscan, hc⟩

/-- An operation that ends with a page written leaves the bounds as they are, whatever becomes of the
pointer, the store's state and a waiting clear. -/
theorem sound_ended {t : State} {p : List Byte} (d : PageData) (hcalm : Calm s t)
    (hp : p ∈ s.store.op.pages) (hd : d = .bytes p ∨ d = .damaged) (w : Bool) (n k : Nat)
    (st : StoreState) (c : Bool)
    (ht : t.disk = ⟨writePage s.store.pointer d s.flash.log, s.store.op, n, k, s.store.scanned,
      s.store.scanEnded, st, c⟩) : Sound s (t.endOp w).arbitrate := by
  have he : Sound s (t.endOp w) := by
    refine ⟨hcalm.trans (sound_endOp t w).toCalm, fun hs => ?_⟩
    have : (t.endOp w).disk = { t.disk with op := .idle } := rfl
    rw [this, ht]
    exact hs.ended (x := s.disk) hp d hd n k st c
  exact he.trans (sound_arbitrate _)

/-- A page written and the operation still going on. -/
theorem sound_goesOn {t : State} {p : List Byte} (d : PageData) (hcalm : Calm s t)
    (hp : p ∈ s.store.op.pages) (hd : d = .bytes p ∨ d = .damaged) (n k : Nat) (op : StoreOp)
    (hop : ∀ q ∈ op.pages, q ∈ s.store.op.pages) (hn : n < logPages)
    (hc : s.disk.ok → ∀ q, op = .cleared q → n ≤ 1 ∧ (k = 0 → n = 0))
    (ht : t.disk = ⟨writePage s.store.pointer d s.flash.log, op, n, k, s.store.scanned,
      s.store.scanEnded, s.store.state, s.store.clear.isNone⟩) : Sound s t :=
  ⟨hcalm, fun hs => by
    rw [ht]; exact hs.goesOn (x := s.disk) hp d hd n k op hop hn (hc hs)⟩

theorem sound_checkCommit (i : Nat) (p : List Byte) (rest : List (List Byte)) (ok : Bool)
    (hop : s.store.op = .commit i (p :: rest)) : Sound s (s.checkCommit i p rest ok) := by
  have hp : p ∈ s.store.op.pages := by simp [hop, StoreOp.pages]
  unfold State.checkCommit
  split
  · have hg := calm_pageGoodAt s p
    dsimp only
    split
    · exact sound_ended s (.bytes p) (hg.trans (keeps_endCommit _ i).toCalm) hp (.inl rfl) _ _ _ _ _
        (keeps_endCommit (s.pageGoodAt p) i).disk
    split
    · exact sound_ended s (.bytes p)
        ((hg.trans (keeps_stopCommit _ i).toCalm).trans (calm_enterLogFull _)) hp (.inl rfl) _ _ _ _ _
        (enterLogFull_disk _)
    · rename_i _ hroom
      exact sound_goesOn s (.bytes p) (hg.trans (.of_disk rfl)) hp (.inl rfl) _ _ (.commit i rest)
        (fun q hq => by simp only [hop, StoreOp.pages] at hq ⊢; exact List.mem_cons_of_mem _ hq)
        (Nat.lt_of_not_le hroom) (fun _ => nofun) rfl
  · have hg := calm_pageBadAt s
    dsimp only
    split
    · split
      · exact sound_ended s .damaged
          ((hg.trans (keeps_stopCommit _ i).toCalm).trans (calm_enterLogFull _)) hp (.inr rfl)
          _ _ _ _ _ (enterLogFull_disk _)
      · rename_i _ hroom
        exact sound_goesOn s .damaged hg hp (.inr rfl) _ _ s.store.op (fun q hq => hq)
          (Nat.lt_of_not_le hroom) (fun _ => by simp [hop]) rfl
    · exact sound_ended s .damaged ((hg.trans (keeps_stopCommit _ i).toCalm).trans
        (calm_enterFault _ _)) hp (.inr rfl) _ _ _ _ _ (enterFault_disk _ _)

theorem sound_checkAmend (a : Amendment) (p : List Byte) (ok : Bool)
    (hop : s.store.op = .amend a p) : Sound s (s.checkAmend a p ok) := by
  have hp : p ∈ s.store.op.pages := by simp [hop, StoreOp.pages]
  unfold State.checkAmend
  split
  · exact sound_ended s (.bytes p) ((calm_pageGoodAt s p).trans (keeps_dropAmendment _ a).toCalm) hp
      (.inl rfl) _ _ _ _ _ rfl
  · have hg := calm_pageBadAt s
    dsimp only
    split
    · split
      · exact sound_ended s .damaged (hg.trans (calm_enterLogFull _)) hp (.inr rfl) _ _ _ _ _
          (enterLogFull_disk _)
      · rename_i _ hroom
        exact sound_goesOn s .damaged hg hp (.inr rfl) _ _ s.store.op (fun q hq => hq)
          (Nat.lt_of_not_le hroom) (fun _ => by simp [hop]) rfl
    · exact sound_ended s .damaged (hg.trans (calm_enterFault _ _)) hp (.inr rfl) _ _ _ _ _
        (enterFault_disk _ _)

theorem sound_checkCleared (p : List Byte) (ok : Bool) (hop : s.store.op = .cleared p) :
    Sound s (s.checkCleared p ok) := by
  have hp : p ∈ s.store.op.pages := by simp [hop, StoreOp.pages]
  unfold State.checkCleared
  split
  · have hg : Calm s { s.pageGoodAt p with store := { (s.pageGoodAt p).store with state := .ready } } :=
      .of_disk rfl
    exact sound_ended s (.bytes p) ((hg.trans (keeps_noteStore _ _ _ _).toCalm).trans
      (calm_answerClear _ _ _)) hp (.inl rfl) _ _ _ _ _
      ((answerClear_disk _ _ _).trans (by rw [(keeps_noteStore _ _ _ _).disk]; rfl))
  · dsimp only
    split
    · rename_i hf
      refine ⟨calm_pageBadAt s, fun hs => ?_⟩
      obtain ⟨hle, hz⟩ := hs.2.2.2.2.2 p hop
      have h0 : s.store.pointer = 0 := hz hf
      refine hs.goesOn (x := s.disk) hp .damaged (.inr rfl) (s.store.pointer + 1) 1 s.store.op
        (fun q hq => hq) (by rw [h0]; decide) fun q _ => ?_
      rw [h0]
      exact ⟨le_rfl, fun h => absurd h (by decide)⟩
    · exact sound_ended s .damaged (((calm_pageBadAt s).trans (calm_enterFault _ _)).trans
        (calm_answerClear _ _ _)) hp (.inr rfl) _ _ _ _ _
        ((answerClear_disk _ _ _).trans (by rw [enterFault_disk]; rfl))

theorem keeps_handAmendment (a : Amendment) : Keeps s (s.handAmendment a) := by
  unfold State.handAmendment
  split
  · exact .of_bounded rfl
  split
  · exact .of_bounded rfl
  · exact keeps_notify s _ _

theorem sound_endSettings (p : PendingSave) (area : SettingsArea) (st : Status) :
    Sound s (s.endSettings p area st) :=
  have h : Keeps s (State.reply { s with
      store := { s.store with save := none }
      flash := { s.flash with settings := area } } p.port 0x19 p.tag st) :=
    (keeps_reply _ _ _ _ _ _).start rfl
  (h.sound.trans (sound_endOp _ false)).trans (sound_arbitrate _)

theorem sound_eraseFailed (page : Nat) (h : page < logPages) (hop : s.store.op = .erase) :
    Sound s (s.eraseFailed page) := by
  refine Sound.trans ⟨?_, fun hs => ?_⟩ (sound_arbitrate _)
  · have h0 : Calm s (s.emptyLog
        (writePage page .damaged (s.flash.log.filter fun x => decide (page ≤ x.1)))) := .of_disk rfl
    exact ((h0.trans (calm_enterFault _ page)).trans (calm_answerClear _ _ _)).trans
      (sound_endOp _ false).toCalm
  · obtain ⟨hlog, -, -, hstart, hscan, -⟩ := hs
    have hsc : s.store.scanned = true := hstart.resolve_right fun hn => hn.2.1 hop
    have hd : ∀ t : State, (t.endOp false).disk = { t.disk with op := .idle } := fun _ => rfl
    rw [hd, answerClear_disk, enterFault_disk]
    exact ⟨logWf_writePage _ _ _ (logWf_filter _ _ hlog) h nofun, nofun, .inl rfl, .inl hsc, hscan, nofun⟩

theorem sound_eraseGood (hop : s.store.op = .erase) : Sound s s.eraseGood := by
  refine ⟨.of_disk rfl, fun hs => ?_⟩
  obtain ⟨-, -, -, hstart, hscan, -⟩ := hs
  have hsc : s.store.scanned = true := hstart.resolve_right fun hn => hn.2.1 hop
  refine ⟨rfl, ?_, .inr (show 0 < logPages by decide), .inl hsc, hscan, fun p _ => ⟨Nat.zero_le _, fun _ => rfl⟩⟩
  have hp : s.eraseGood.disk.op.pages = [sessionPage 1 s.store.session s.takes.lastIndex
    s.houseTime s.clock.counter] := rfl
  simp only [hp, List.mem_singleton, forall_eq]
  exact pageBytes_ne_blank _ _ _ _ _ _ (by decide)

/-! ### Export -/

theorem keeps_askExport (i : Nat) : Keeps s (s.askExport i) := .of_bounded rfl

theorem keeps_examine (i : Nat) : Keeps s (s.examine i) := by
  unfold State.examine
  split
  · split
    · exact .of_bounded rfl
    · exact .of_bounded rfl
  · split
    · exact keeps_askExport s i
    · exact .of_bounded rfl

theorem keeps_followHead (i : Nat) : Keeps s (s.followHead i) := by
  unfold State.followHead
  split
  · exact .of_bounded rfl
  · split
    · exact keeps_askExport s i
    · exact .of_bounded rfl

theorem keeps_exportMove {t : State} (h : s.exportMove = some t) : Keeps s t := by
  unfold State.exportMove at h
  dsimp only at h
  split at h
  · cases h
  split at h
  · cases h; exact .of_bounded rfl
  · cases h; exact .of_bounded rfl
  split at h
  · cases h
  split at h
  · cases h; exact keeps_examine s _
  · cases h; exact .of_bounded rfl
  · cases h; exact keeps_followHead s _
  · cases h

theorem keeps_exportMoves (fuel : Nat) : ∀ s, Keeps s (exportMoves fuel s) := by
  induction fuel with
  | zero => exact Keeps.refl
  | succ fuel ih =>
    intro s
    unfold exportMoves
    split
    · rename_i t ht
      exact (keeps_exportMove s ht).trans (ih t)
    · exact .refl s

theorem keeps_exportRun : Keeps s s.exportRun := keeps_exportMoves _ s

theorem keeps_endExport (tag : Nat) : Keeps s (s.endExport tag) :=
  (keeps_reply _ _ _ _ _ _).start rfl

/-- Withdrawing the exporter's reads leaves a read a read. -/
theorem sound_withdrawExport (x : Exporter) :
    Sound s { s with exporter := x, store := s.store.withdrawExport } := by
  cases hop : s.store.op with
  | read r live =>
    exact sound_beginOp s (.read r (live && decide (r.client ≠ .exporter))) rfl
      (by simp [State.disk, Store.withdrawExport, hop]) nofun (.inl rfl)
      (fun _ => .inr ⟨rfl, nofun⟩) nofun
  | _ => exact (Keeps.of_bounded (by simp [State.bounded, State.disk, Store.withdrawExport, hop])).sound

/-! ### Conform -/

theorem keeps_answerSearch (p : Port) (tag : Nat) (q : Search) (found : List Match) :
    Keeps s (s.answerSearch p tag q found) := keeps_replyQuery s _ _ _ _ _

theorem keeps_searchOn (p : Port) (tag : Nat) (q : Search) (toRead : List Nat) (found : List Match) :
    Keeps s (s.searchOn p tag q toRead found) := by
  unfold State.searchOn
  split
  · exact keeps_answerSearch s _ _ _ _
  split
  · exact keeps_answerSearch s _ _ _ _
  · exact (keeps_modPort s p le_rfl).trans (.of_bounded rfl)

theorem keeps_searchNamed (p : Port) (tag : Nat) (q : Search) (i : Nat) (all : Bool) :
    Keeps s (s.searchNamed p tag q i all) := by
  unfold State.searchNamed
  split
  · exact keeps_answerSearch s _ _ _ _
  split
  · exact keeps_searchOn s _ _ _ _ _
  · exact keeps_replyQuery s _ _ _ _ _

theorem keeps_search (p : Port) (tag : Nat) (q : Search) (all : Bool) :
    Keeps s (s.search p tag q all) := by
  unfold State.search
  split
  · exact keeps_searchNamed s _ _ _ _ _
  · exact keeps_searchOn s _ _ _ _ _

theorem keeps_handWhere (p : Port) (tag : Nat) (a : WhereArgs) : Keeps s (s.handWhere p tag a) := by
  unfold State.handWhere
  split
  · exact keeps_reply s _ _ _ _ _
  split
  · exact keeps_reply s _ _ _ _ _
  split
  · exact keeps_reply s _ _ _ _ _
  split
  · exact keeps_reply s _ _ _ _ _
  · exact keeps_search s _ _ _ _

theorem keeps_handAtTick (p : Port) (tag : Nat) (a : AtTickArgs) :
    Keeps s (s.handAtTick p tag a) := by
  unfold State.handAtTick
  split
  · exact keeps_reply s _ _ _ _ _
  split
  · exact keeps_reply s _ _ _ _ _
  · exact keeps_search s _ _ _ _

theorem keeps_handQuery (p : Port) (tag : Nat) (x : Query) : Keeps s (s.handQuery p tag x) := by
  cases x with
  | whereIs a => exact keeps_handWhere s p tag a
  | atTick a => exact keeps_handAtTick s p tag a

theorem sound_arriveQuery (q : Req) (k : Nat) (x : Query)
    (h : (s.port q.port).outstanding.length < 4) : Sound s (s.arriveQuery q k x) := by
  unfold State.arriveQuery
  split
  · exact ((keeps_enlist s q k none h).trans (keeps_handQuery _ _ _ _)).sound.trans
      (sound_arbitrate _)
  · exact (keeps_enlist s q k _ h).sound

/-- A query handed over stays in the list. -/
theorem nextQuery_length (l : List Outstanding) {o : Outstanding} {x : Query}
    {rest : List Outstanding} (h : nextQuery l = some (o, x, rest)) : rest.length = l.length := by
  induction l generalizing o x rest with
  | nil => cases h
  | cons y ys ih =>
    unfold nextQuery at h
    split at h
    · cases h; rfl
    · rw [Option.map_eq_some_iff] at h
      obtain ⟨⟨o', x', rest'⟩, hr, he⟩ := h
      cases he
      simp [ih hr]

theorem keeps_handWaiting (fuel : Nat) (p : Port) : ∀ s, Keeps s (handWaiting fuel p s) := by
  induction fuel with
  | zero => exact Keeps.refl
  | succ fuel ih =>
    intro s
    unfold handWaiting
    split
    · exact .refl s
    split
    · exact .refl s
    · rename_i o x rest h
      exact ((keeps_modPort s p (nextQuery_length _ h).le).trans (keeps_handQuery _ _ _ _)).trans
        (ih _)

theorem keeps_conformAnswer (p : Port) (r : Option TakeRecord) : Keeps s (s.conformAnswer p r) := by
  unfold State.conformAnswer
  split
  · split
    · exact keeps_replyQuery s _ _ _ _ _
    · exact keeps_searchOn s _ _ _ _ _
    · exact keeps_searchOn s _ _ _ _ _
  · exact .refl s

theorem keeps_afterSent (p : Port) (m : Outgoing) : Keeps s (s.afterSent p m) := by
  unfold State.afterSent
  split
  · split
    · exact (keeps_modPort s p le_rfl).trans (keeps_handWaiting 5 p _)
    · exact .refl s
  · exact .refl s
  · split
    · exact (keeps_endExport _ _).start rfl
    · exact (keeps_exportRun _).start rfl

end Sys2Proof.Machine
end

section
/-!
SUPPORT. Which of `Keeps` and `Sound` each operation is in, continued: profiles, tracking, the slate
link, takes, devices, start-up.
-/

namespace Sys2Proof.Machine

variable (s : State)

/-! ### Profiles and tracking -/

theorem keeps_storePoints (n : Nat) (points : List (Nat × Int)) : Keeps s (s.storePoints n points) := by
  unfold State.storePoints
  dsimp only
  split
  · exact (keeps_notify _ _ _).start rfl
  · exact .of_bounded rfl

theorem keeps_replyHandling (i : Nat) (e : Echo) (m : Mark) : Keeps s (s.replyHandling i e m) :=
  keeps_modLive_same s i (fun _ => rfl) fun _ => rfl

/-- A measurement leaves state and count alone. -/
theorem keeps_takeMeasurement {i : Nat} {d : Device} (h : s.dev i = some d) (o : Int) (e : Echo)
    (m : Mark) : Keeps s (s.takeMeasurement i d o e m) := by
  refine (keeps_modLive s i fun x hx hc => ?_).trans (keeps_writeEntry _ _ _)
  obtain rfl := Option.some.inj (h.symm.trans hx)
  rw [Live.countOk_iff] at hc ⊢
  exact hc

theorem keeps_handClaps (i n : Nat) (p : Option (Int × Nat)) : Keeps s (s.handClaps i n p) := by
  unfold State.handClaps
  split
  · split
    · exact .refl s
    · exact (keeps_modTake s _ _ _).trans (keeps_notify _ _ _)
  · exact .refl s

theorem keeps_takeClaps (i : Nat) (e : Echo) (b : Bool) : Keeps s (s.takeClaps i e b) := by
  have h1 := keeps_modLive_same s i (f := fun l => { l with lastClap := some e.clapCount })
    (fun _ => rfl) fun _ => rfl
  unfold State.takeClaps
  split
  · exact .refl s
  dsimp only
  split
  · exact h1
  split
  · exact h1.trans (keeps_handClaps _ _ _ _)
  · exact h1

/-- A device enters a state after a change of its live state that suits the state. -/
theorem keeps_enter_after {s t : State} (i : Nat) (new : DevState)
    (hb : { t with slots := s.slots }.bounded = s.bounded) (hother : ∀ j, j ≠ i → t.dev j = s.dev j)
    (h : s.countsOk = true → ∀ d, t.dev i = some d →
      d.live.missedRejams ≤ 2 ∧ (d.live.missedRejams = 2 ↔ new = .drifting)) :
    Keeps s (t.enter i new) := by
  refine .of_slots (.trans (by simp [State.bounded, State.disk]) hb) fun hs j x hx => ?_
  by_cases hj : j = i
  · subst hj
    cases hd : t.dev j with
    | none => simp [State.enter, hd] at hx
    | some d =>
      obtain rfl := Option.some.inj ((t.dev_enter hd new).symm.trans hx)
      exact (Live.countOk_iff _).mpr (h hs d hd)
  · rw [State.dev_enter_ne _ hj, hother j hj] at hx
    exact s.countsOk_iff.mp hs j x hx

theorem keeps_confirmJam (i : Nat) (e : Echo) (j : Int) (n : Nat) :
    Keeps s (s.confirmJam i e j n) := by
  unfold State.confirmJam
  split
  · exact .refl s
  rename_i d hd
  dsimp only
  refine Keeps.trans (keeps_enter_after i .tracked (by simp [State.bounded, State.disk])
    (fun k hk => ?_) fun _ x hx => ?_) (keeps_noteDevice _ _ _ _ _ _ _)
  · rw [State.dev_congr (State.writeEntry_slots _ _ _)]
    exact s.dev_modLive_ne hk _
  · rw [State.dev_congr (State.writeEntry_slots _ _ _)] at hx
    obtain rfl := Option.some.inj ((s.dev_modLive_same hd _).symm.trans hx)
    simp [Live.jammed]

theorem keeps_confirmed (i : Nat) (e : Echo) (m : Mark) (n : Nat) : Keeps s (s.confirmed i e m n) :=
  ((keeps_replyHandling s i e m).trans (keeps_confirmJam _ _ _ _ _)).trans (keeps_takeClaps _ _ _ _)

/-- The state a slot's device is in, none for an EMPTY slot. -/
def State.stateOf (s : State) (i : Nat) : Option DevState := (s.dev i).map fun d => d.live.state

theorem State.stateOf_congr {s t : State} (h : t.slots = s.slots) (i : Nat) :
    t.stateOf i = s.stateOf i := by rw [State.stateOf, State.dev_congr h]; rfl

theorem State.stateOf_modLive (i j : Nat) {f : Live → Live} (h : ∀ d, s.dev i = some d →
    (f d.live).state = d.live.state) : (s.modLive i f).stateOf j = s.stateOf j := by
  by_cases hj : j = i
  · subst hj
    cases hd : s.dev j with
    | none => simp [State.stateOf, State.dev_modLive, hd]
    | some d => simp [State.stateOf, s.dev_modLive_same hd, hd, h d hd]
  · rw [State.stateOf, s.dev_modLive_ne hj]; rfl

theorem handClaps_slots (i n : Nat) (p : Option (Int × Nat)) : (s.handClaps i n p).slots = s.slots := by
  unfold State.handClaps
  split
  · split <;> simp [State.modTake]
  · rfl

theorem stateOf_takeClaps (i : Nat) (e : Echo) (b : Bool) :
    (s.takeClaps i e b).stateOf i = s.stateOf i := by
  have h1 := s.stateOf_modLive i i (f := fun l => { l with lastClap := some e.clapCount })
    fun _ _ => rfl
  unfold State.takeClaps
  split
  · rfl
  dsimp only
  split
  · exact h1
  split
  · exact (State.stateOf_congr (handClaps_slots _ _ _ _) i).trans h1
  · exact h1

/-- A device OUT_OF_RANGE comes back (R114). -/
theorem keeps_returnFrom (i : Nat) (o : Option Int) (h : s.stateOf i = some .outOfRange) :
    Keeps s (s.returnFrom i o) := by
  unfold State.returnFrom
  split
  · exact .refl s
  rename_i d hd
  have hstate : d.live.state = .outOfRange := by simpa [State.stateOf, hd] using h
  have henter : ∀ new, new ≠ DevState.drifting → Keeps s (s.enter i new) := fun new hn =>
    keeps_enter s i new fun x hx hc => by
      obtain rfl := Option.some.inj (hd.symm.trans hx)
      rw [Live.countOk_iff, hstate] at hc
      simp [hc.2, hn]
  split
  · exact (henter .tracked (by decide)).trans (keeps_noteDevice _ _ _ _ _ _ _)
  · exact ((henter .jamPending (by decide)).trans (keeps_noteDevice _ _ _ _ _ _ _)).trans (keeps_postOrHold _ _ _ _)

theorem keeps_echoed (i : Nat) (e : Echo) (m : Mark) : Keeps s (s.echoed i e m) := by
  unfold State.echoed
  split
  · exact .refl s
  rename_i d hd
  dsimp only
  have h1 := keeps_replyHandling s i e m
  have hd1 : (s.replyHandling i e m).stateOf i = some d.live.state := by
    refine (s.stateOf_modLive i i fun _ _ => ?_).trans (by simp [State.stateOf, hd])
    rfl
  generalize hs1 : s.replyHandling i e m = s1 at h1 hd1
  have h2 : ∀ o, Keeps s1 (match s1.dev i, o with
      | some d1, some x => s1.takeMeasurement i d1 x e m
      | _, _ => s1) ∧ (match s1.dev i, o with
      | some d1, some x => s1.takeMeasurement i d1 x e m
      | _, _ => s1).stateOf i = s1.stateOf i := by
    intro o
    split
    · rename_i d1 x hd1
      refine ⟨keeps_takeMeasurement s1 hd1 x e m, ?_⟩
      refine (State.stateOf_congr (State.writeEntry_slots _ _ _) i).trans
        (s1.stateOf_modLive i i fun y hy => ?_)
      obtain rfl := Option.some.inj (hd1.symm.trans hy)
      rfl
    · exact ⟨.refl s1, rfl⟩
  obtain ⟨k2, e2⟩ := h2 (s.measures d e m)
  have h3 := (h1.trans k2).trans (keeps_takeClaps _ i e (!s.stale m))
  split
  · rename_i hout
    refine h3.trans (keeps_returnFrom _ _ _ ?_)
    rw [stateOf_takeClaps, e2, hd1, hout]
  · exact h3

theorem keeps_missedReply (i : Nat) : Keeps s (s.missedReply i) := by
  unfold State.missedReply
  split
  · exact .refl s
  rename_i d _
  split
  · have h1 := keeps_modLive_same s i
      (f := fun l => { l with missedReplies := d.live.missedReplies + 1 }) (fun _ => rfl) fun _ => rfl
    dsimp only
    split
    · refine h1.trans (Keeps.trans (keeps_enter_after i .outOfRange (by simp [State.bounded, State.disk])
        (fun k hk => State.dev_modLive_ne _ hk _) fun _ x hx => ?_) (keeps_noteDevice _ _ _ _ _ _ _))
      simp only [State.dev_modLive, if_true, Option.map_eq_some_iff] at hx
      obtain ⟨y, -, rfl⟩ := hx
      simp
    · exact h1
  · exact .refl s

theorem keeps_ageAll : Keeps s s.ageAll := by
  refine keeps_mapSlots (f := fun d =>
    if d.isRadio then { d with live := { d.live with age := d.live.age + 1 } } else d) rfl rfl ?_ ?_
  all_goals
    intro d
    split
    · rfl
    · rfl

theorem Live.reanchor_kept (l : Live) (c : Option Nat) (t : Int) :
    (l.reanchor c t).state = l.state ∧ (l.reanchor c t).missedRejams = l.missedRejams := by
  unfold Live.reanchor
  split
  · exact ⟨rfl, rfl⟩
  split
  · exact ⟨rfl, rfl⟩
  · exact ⟨rfl, rfl⟩

theorem keeps_predictOne (t : Int) (i : Nat) : Keeps s (s.predictOne t i) := by
  unfold State.predictOne
  split
  · exact .refl s
  rename_i d hd
  split
  · dsimp only
    have h1 : Keeps s (s.modLive i fun _ => s.grown d t) := by
      refine keeps_modLive s i fun x hx hc => ?_
      obtain rfl := Option.some.inj (hd.symm.trans hx)
      have hk := d.live.reanchor_kept (s.profileCrc d.set.profile) t
      rw [Live.countOk_iff] at hc ⊢
      simpa only [State.grown, hk.1, hk.2] using hc
    split
    · exact h1.trans (keeps_postOrHold _ _ _ _)
    · exact h1
  · exact .refl s

theorem keeps_predict (t : Int) : Keeps s (s.predict t) :=
  Keeps.foldl (fun x i => x.predictOne t i) (fun x i => keeps_predictOne x t i) allSlots s

theorem keeps_releaseOne (i : Nat) : Keeps s (s.releaseOne i) := by
  unfold State.releaseOne
  split
  · split
    · exact keeps_endHold s i
    · exact .refl s
  · exact .refl s

theorem keeps_countAll : Keeps s s.countAll := by
  refine keeps_mapSlots (f := fun d => if d.isRadio then { d with live := s.countDown d } else d)
    rfl rfl ?_ ?_
  all_goals
    intro d
    split
    · rfl
    · rfl

theorem keeps_trackMark (n : Nat) (t : Int) : Keeps s (s.trackMark n t) := by
  have h2 : Keeps s (if n % 4 = 0 then s.ageAll.predict t else s.ageAll) := by
    split
    · exact (keeps_ageAll s).trans (keeps_predict _ t)
    · exact keeps_ageAll s
  exact (h2.trans (.foldl _ keeps_releaseOne _ _)).trans (keeps_countAll _)

/-! ### The slate link -/

theorem keeps_choose (b : Nat) (m : Mark) (l : List Request) : ∀ s, Keeps s (s.choose b m l) := by
  induction l with
  | nil => exact Keeps.refl
  | cons q rest ih =>
    intro s
    unfold State.choose
    split
    · exact ih s
    split
    · exact .of_bounded rfl
    · exact ih s
    · have h1 : Keeps s (State.holdTrigger { s with radio := s.radio.remove q } q.slot false) :=
        (keeps_holdTrigger _ _ _).start rfl
      exact h1.trans (ih _)
    · exact (ih _).start rfl

theorem keeps_requeue (q : Request) : Keeps s (s.requeue q) := .of_bounded rfl

theorem keeps_outcome (t : Transaction) : Keeps s (s.outcome t) := by
  unfold State.outcome
  split
  · split
    · exact keeps_confirmed s _ _ _ _
    · exact (keeps_requeue s _).trans (keeps_echoed _ _ _ _)
  · exact (keeps_requeue s _).trans (keeps_missedReply _ _)
  · exact keeps_echoed s _ _ _
  · exact keeps_missedReply s _
  · exact .refl s
  · exact .refl s

/-! ### Takes -/

theorem keeps_startRolling (u : Nat) (o : Opener) (c : CurrentTake) :
    Keeps s (s.startRolling u o c) :=
  (keeps_modUnit s u _).trans (Keeps.foldl
    (fun (t : State) (x : Nat × Device) => t.modLive x.1 fun l => { l with current := c })
    (fun t x => keeps_modLive_same t x.1 (fun _ => rfl) fun _ => rfl) (s.assigned u) _)

theorem keeps_openTake (u : Nat) (o : Opener) : Keeps s (s.openTake u o) := by
  unfold State.openTake
  split
  · have h1 : ∀ (t : State) c, t.bounded = s.bounded → Keeps s (t.startRolling u o c) :=
      fun _ c h => (keeps_startRolling _ u o c).start h
    refine Keeps.trans ?_ (keeps_notify _ _ _)
    exact h1 _ _ rfl
  · exact (keeps_startRolling s u o _).trans (keeps_notify _ _ _)

theorem keeps_freezeTake (ss ix : Nat) : Keeps s (s.freezeTake ss ix) :=
  (keeps_exportRun _).start rfl

theorem keeps_leaveTake (c : CurrentTake) (i : Nat) : Keeps s (s.leaveTake c i) := by
  unfold State.leaveTake
  split
  · exact (keeps_modLive_same s i (f := fun l => { l with current := .none }) (fun _ => rfl)
      fun _ => rfl).trans (keeps_endHold _ _)
  · exact .refl s

theorem keeps_stopRolling (u : Nat) (c : CurrentTake) : Keeps s (s.stopRolling u c) :=
  ((Keeps.foldl _ (fun t i => keeps_leaveTake t c i) allSlots s).trans (keeps_modUnit _ u _)).trans
    (Keeps.foldl (fun (t : State) (x : Nat × Device) => t.post .display x.1)
      (fun t x => keeps_post t .display x.1 none) _ _)

theorem keeps_noteClosed (c : Closing) : Keeps s (s.noteClosed c) := keeps_notify s _ _

theorem sound_closeTake (u : Nat) : Sound s (s.closeTake u) := by
  unfold State.closeTake
  dsimp only
  split
  · exact .refl s
  · exact (((keeps_freezeTake s _ _).trans (keeps_stopRolling _ u _)).trans
      (keeps_noteClosed _ _)).sound.trans (sound_arbitrate _)
  · exact ((keeps_stopRolling s u _).trans (keeps_noteClosed _ _)).sound.trans (sound_arbitrate _)

theorem keeps_rollStarts (i : Nat) : Keeps s (s.rollStarts i) := keeps_writeEntry s i _

theorem keeps_runRise (i : Nat) : Keeps s (s.runRise i) := by
  unfold State.runRise
  split
  · exact .refl s
  split
  · exact .refl s
  split
  · exact keeps_rollStarts s i
  · exact (keeps_openTake s _ _).trans (keeps_rollStarts _ i)

theorem sound_closeTest (u : Nat) : Sound s (s.closeTest u) := by
  unfold State.closeTest
  split
  · exact sound_closeTake s u
  · exact .refl s

theorem sound_runFall (i : Nat) : Sound s (s.runFall i) := by
  unfold State.runFall
  split
  · exact .refl s
  split
  · exact (keeps_writeEntry s i _).sound.trans (sound_closeTest _ _)
  · exact .refl s

theorem keeps_exportAmendment (a : Amendment) : Keeps s (s.exportAmendment a) :=
  (keeps_exportRun _).start rfl

theorem keeps_markInTable (a : MarkArgs) (r : TakeRecord) : Keeps s (s.markInTable a r) := by
  have h1 := keeps_modTake s a.session a.index fun e => e.mod fun x => (carried a).apply x
  unfold State.markInTable
  dsimp only
  split
  · exact h1
  split
  · exact h1.trans (keeps_exportAmendment _ _)
  · exact (h1.trans (keeps_handAmendment _ _)).trans (keeps_exportAmendment _ _)

/-! ### Devices and lines -/

theorem keeps_noteLine (n : Nat) (old : LineState) (c : Nat) : Keeps s (s.noteLine n old c) := by
  unfold State.noteLine
  dsimp only
  split
  · exact .refl s
  · exact keeps_notify s _ _

theorem keeps_bindLine (a : Attachment) (i : Nat) : Keeps s (s.bindLine a i) := by
  unfold State.bindLine
  split
  · exact keeps_modLine s _ _
  · exact .refl s

theorem keeps_unbindLine (a : Attachment) : Keeps s (s.unbindLine a) := by
  unfold State.unbindLine
  split
  · exact (keeps_modLine s _ _).trans (keeps_noteLine _ _ _ _)
  · exact .refl s

theorem sound_handEdge (i : Nat) (b : Bool) : Sound s (s.handEdge i b) := by
  unfold State.handEdge
  split
  · exact (keeps_runRise s i).sound
  · exact sound_runFall s i
  · exact .refl s

theorem keeps_dropRoll (u : Option Nat) (i : Nat) : Keeps s (s.dropRoll u i) := by
  unfold State.dropRoll
  split
  · exact keeps_modUnit s _ _
  · exact .refl s

theorem sound_leaveUnit (u : Option Nat) (i : Nat) : Sound s (s.leaveUnit u i) := by
  unfold State.leaveUnit
  split
  · exact (keeps_dropRoll s _ i).sound.trans (sound_closeTest _ _)
  · exact .refl s

/-- A new device has no missed re-jam and is not DRIFTING. -/
theorem newDevice_countOk (d : DeviceSettings) : (s.newDevice d).live.countOk = true := by
  simp only [State.newDevice, Live.fresh, Live.countOk_iff]
  split <;> simp

theorem keeps_setNew (i : Nat) (d : DeviceSettings) : Keeps s (s.setDev i (some (s.newDevice d))) :=
  keeps_setDev s i fun _ x hx => by
    obtain rfl := Option.some.inj hx
    exact newDevice_countOk s d

theorem sound_declare (i : Nat) (d : DeviceSettings) : Sound s (s.declare i d) :=
  (((keeps_setNew s i d).trans (keeps_bindLine _ _ _)).trans
    (keeps_noteDevice _ _ _ _ _ _ _)).sound.trans (sound_handEdge _ _ _)

theorem keeps_dropRadio (i : Nat) : Keeps s (s.dropRadio i) := .of_bounded rfl

theorem keeps_noteIfChanged (i : Nat) (old new : DevState) : Keeps s (s.noteIfChanged i old new) := by
  unfold State.noteIfChanged
  split
  · exact .refl s
  · exact keeps_noteDevice s _ _ _ _ _ _

theorem keeps_dropRadio_if (c : Prop) [Decidable c] (i : Nat) :
    Keeps s (if c then s.dropRadio i else s) := by
  split
  · exact keeps_dropRadio s i
  · exact .refl s

theorem keeps_reattach (i : Nat) (x : Device) (d : DeviceSettings) : Keeps s (s.reattach i x d) :=
  ((((keeps_setNew s i d).trans (keeps_unbindLine _ _)).trans (keeps_bindLine _ _ _)).trans
    (keeps_dropRadio_if _ _ _)).trans (keeps_noteIfChanged _ _ _ _)

theorem keeps_rerateRadio (i : Nat) (x : Device) (d : DeviceSettings) :
    Keeps s (s.rerateRadio i x d) :=
  ((keeps_setDev s i fun _ y hy => by
    obtain rfl := Option.some.inj hy
    simp [Live.countOk_iff, Live.unjam]).trans (keeps_dropRadio _ i)).trans
      (keeps_noteIfChanged _ _ _ _)

theorem keeps_resettle {i : Nat} {x : Device} (hx : s.dev i = some x) (d : DeviceSettings) :
    Keeps s (s.resettle i x d) := by
  have h1 : Keeps s (s.setDev i (some ⟨d, x.live⟩)) := keeps_setDev s i fun hs y hy => by
    obtain rfl := Option.some.inj hy
    exact s.countsOk_iff.mp hs i x hx
  unfold State.resettle
  dsimp only
  split
  · split
    · exact h1.trans (keeps_modLine _ _ _)
    · exact h1
  · exact h1

theorem sound_change {i : Nat} {x : Device} (hx : s.dev i = some x) (d : DeviceSettings) :
    Sound s (s.change i x d) := by
  have h1 : Keeps s (if x.set.att ≠ d.att then s.reattach i x d
      else if x.isRadio ∧ (x.set.rate ≠ d.rate ∨ x.set.origin ≠ d.origin) then s.rerateRadio i x d
      else s.resettle i x d) := by
    split
    · exact keeps_reattach s i x d
    split
    · exact keeps_rerateRadio s i x d
    · exact keeps_resettle s hx d
  have h2 := h1.sound.trans (sound_handEdge _ i (s.tallyOf i))
  unfold State.change
  dsimp only
  split
  · exact h2.trans (sound_leaveUnit _ _ _)
  · exact h2

/-- The device that an accepted SET_DEVICE changes is the slot's. -/
theorem State.setCheck_dev {i : Nat} {a : DeviceArgs} {x : Device} {d : DeviceSettings}
    (h : s.setCheck i a = .ok (x, d)) : s.dev i = some x := by
  unfold State.setCheck at h
  split at h
  · cases h
  split at h
  · cases h
  rename_i y hy
  dsimp only at h
  split at h
  · cases h
  split at h
  · cases h
  split at h
  · cases h
  split at h
  · cases h
  · cases h; exact hy

theorem sound_removeDev (i : Nat) (x : Device) : Sound s (s.removeDev i x) :=
  have h1 := (keeps_setDev s i (o := none) fun _ _ h => nomatch h).trans
    (keeps_noteDevice _ i (some x.live.state) none .host none none)
  ((h1.trans (keeps_unbindLine _ _)).trans (keeps_dropRadio_if _ _ _)).sound.trans
    (sound_leaveUnit _ _ _)

theorem keeps_hostJam {i : Nat} {d : Device} (hd : s.dev i = some d) (f : Option Nat) :
    Keeps s (s.hostJam i d f) := by
  have h1 := keeps_post s .hostJam i f
  unfold State.hostJam
  dsimp only
  split
  · rename_i hst
    refine h1.trans (Keeps.trans (keeps_enter _ i _ fun x hx hc => ?_) (keeps_noteDevice _ _ _ _ _ _ _))
    obtain rfl := Option.some.inj (hd.symm.trans hx)
    rw [Live.countOk_iff, hst] at hc
    simpa using hc.2
  · exact h1

theorem keeps_enableLine (n i : Nat) (on : Bool) : Keeps s (s.enableLine n i on) := by
  unfold State.enableLine
  dsimp only
  split
  · exact .refl s
  split
  · exact (keeps_modLine s _ _).trans (keeps_noteLine _ _ _ _)
  · exact ((keeps_modLine s _ _).trans (keeps_noteLine _ _ _ _)).trans (keeps_lineFault _ _)

theorem keeps_faultIfDown (n : Nat) : Keeps s (s.faultIfDown n) := by
  unfold State.faultIfDown
  dsimp only
  split
  · exact keeps_lineFault s _
  · exact keeps_lineFault s _
  · exact .refl s

/-! ### Start-up -/

/-- The settings applied: every restored device is a new one. -/
theorem keeps_applySettings : Keeps s s.applySettings := by
  unfold State.applySettings
  split
  · rename_i c _
    refine .of_slots rfl fun _ i d hd => ?_
    simp only [State.dev, State.applySnapshot, Vector.getElem?_map] at hd
    rcases hc : c.slots[i]? with _ | _ | x <;> simp [hc, State.restoreDevice] at hd
    obtain rfl := hd
    exact newDevice_countOk _ _
  · exact .of_bounded rfl
  · exact .of_bounded rfl

/-- The scan reads on before it has ended (R152). -/
theorem sound_scanPage (h : s.store.scanEnded = false) : Sound s s.scanPage := by
  unfold State.scanPage
  split
  · refine ⟨.of_disk rfl, fun hd => ?_⟩
    obtain ⟨hlog, hpages, hroom, hstart, -, hclear⟩ := hd
    exact ⟨hlog, hpages, hroom, hstart, fun _ => rfl, hclear⟩
  · refine ⟨.of_disk rfl, fun hd => ?_⟩
    obtain ⟨hlog, hpages, -, hstart, hscan, -⟩ := hd
    have hns : ¬ s.store.scanned = true := fun hs => by simpa [State.disk, h] using hscan hs
    have hop := hstart.resolve_left hns
    exact ⟨hlog, hpages, .inl hop.1, .inr hop, fun hs => absurd hs hns,
      fun p hp => absurd hop.1 (by simp [show s.disk.op = .cleared p from hp, StoreOp.pages])⟩

/-- What the SESSION page of the start-up can leave of the flash. -/
theorem Disk.ok.session {x : Disk} (h : x.ok) (he : x.scanEnded = true) (hs : x.scanned = false)
    {log : List (Nat × PageData)} (hlog : logWf log = true) (n k : Nat) (st : StoreState) :
    Disk.ok ⟨log, x.op, n, k, true, x.scanEnded, st, x.clear⟩ := by
  obtain ⟨-, hpages, -, hstart, -, -⟩ := h
  have hop := hstart.resolve_left (by simp [hs])
  exact ⟨hlog, hpages, .inl hop.1, .inl rfl, fun _ => he,
    fun p hp => absurd hop.1 (by simp [show x.op = .cleared p from hp, StoreOp.pages])⟩

/-- The SESSION page written, or not: calm, and only log area, pointer, failures and state differ. -/
theorem writeSession_spec (page : List Byte) (hp : page ≠ blankPage) (first second : Bool) :
    Calm s (s.writeSession page first second) ∧
    ∃ log n k st, (s.writeSession page first second).disk =
      { s.disk with log := log, pointer := n, failures := k, state := st } ∧
      (logWf s.flash.log = true → logWf log = true) := by
  have hpage : PageData.bytes page ≠ .bytes blankPage := by simpa using hp
  unfold State.writeSession
  split
  · exact ⟨calm_enterLogFull s, _, _, _, _, enterLogFull_disk s, id⟩
  rename_i hroom
  have hroom : s.store.pointer < 8192 := Nat.lt_of_not_le hroom
  have hbad : logWf s.flash.log = true → logWf (writePage s.store.pointer .damaged s.flash.log) = true :=
    fun h => logWf_writePage _ _ _ h hroom nofun
  split
  · exact ⟨(calm_pageGoodAt s page).trans (.of_disk rfl), _, _, _, _, rfl,
      fun h => logWf_writePage _ _ _ h hroom hpage⟩
  dsimp only
  split
  · exact ⟨(calm_pageBadAt s).trans (calm_enterLogFull _), _, _, _, _, enterLogFull_disk _, hbad⟩
  rename_i hroom2
  have hroom2 : s.store.pointer + 1 < 8192 := Nat.lt_of_not_le hroom2
  split
  · exact ⟨((calm_pageBadAt s).trans (calm_pageGoodAt _ page)).trans (.of_disk rfl), _, _, _, _, rfl,
      fun h => logWf_writePage _ _ _ (hbad h) hroom2 hpage⟩
  · exact ⟨((calm_pageBadAt s).trans (calm_pageBadAt _)).trans (calm_enterFault _ _), _, _, _, _,
      enterFault_disk _ _, fun h => logWf_writePage _ _ _ (hbad h) hroom2 nofun⟩

theorem keeps_openAtScan (u : Nat) : Keeps s (s.openAtScan u) := by
  unfold State.openAtScan
  dsimp only
  split
  · exact .refl s
  · exact (keeps_openTake s u _).trans (Keeps.foldl
      (fun (t : State) (x : Nat × Device) => t.rollStarts x.1) (fun t x => keeps_rollStarts t x.1) _ _)

theorem sound_completeScan (first second : Bool) (he : s.store.scanEnded = true)
    (hs : s.store.scanned = false) : Sound s (s.completeScan first second) := by
  have hw := writeSession_spec s (sessionPage 0 (newSession s.store.directory)
    (largestIndex s.store.directory (newSession s.store.directory)) s.houseTime s.clock.counter)
    (pageBytes_ne_blank _ _ _ _ _ _ (by decide)) first second
  unfold State.completeScan
  dsimp only
  generalize State.writeSession _ _ _ _ = s1 at hw ⊢
  obtain ⟨hcalm, log, n, k, st, hdisk, hlog⟩ := hw
  have hopen : ∀ t : State, Sound t ((List.range 4).foldl State.openAtScan t.noteStarted) :=
    fun t => ((keeps_notify t _ _).trans (Keeps.foldl _ keeps_openAtScan _ _)).sound
  refine Sound.trans ?_ (hopen _)
  refine ⟨hcalm.trans (.of_disk rfl), fun hd => ?_⟩
  have hnew : Disk.ok { s1.disk with scanned := true } := by
    rw [hdisk]
    exact hd.session he hs (hlog hd.1) n k st
  exact hnew

end Sys2Proof.Machine
end

section
/-!
SUPPORT. What every command keeps of the bounds of Safety.lean, command by command, and the
invariants that follow for the step.
-/

namespace Sys2Proof.Machine

/-- What a command answers is sound: of a next state, `Sound`. -/
def SoundOut (s : State) (o : Out) : Prop := ∀ t, o = .next t → Sound s t

section
variable {s : State}

theorem SoundOut.finish {u : State} (h : Sound s u) : SoundOut s (finish u) := by
  intro t ht
  obtain rfl := Host.Outcome.next.inj ht
  exact h.trans (keeps_pump u).sound

/-- A request that its owner answers soundly. -/
theorem SoundOut.admitted {q : Req} {k : Nat} {c : Class} {layout : Bool} {own : State → State}
    (h : ∀ t, Sound t (own t)) : SoundOut s (Machine.finish (s.admitted q k c layout own)) :=
  .finish (sound_admitted s q k c layout own h)

theorem SoundOut.ask {q : Req} {k : Nat} {layout : Bool} {answer : State → Answer} :
    SoundOut s (Machine.finish (s.ask q k layout answer)) := .finish (sound_ask s q k layout answer)

end

section
variable (s : State)

theorem sound_reply (p : Port) (k n : Nat) (st : Status) (l : List Field) :
    Sound s (s.reply p k n st l) := (keeps_reply s p k n st l).sound

/-- What is sound, then answered. -/
theorem Sound.reply {s t : State} (h : Sound s t) (p : Port) (k n : Nat) (st : Status)
    (l : List Field) : Sound s (t.reply p k n st l) := h.trans (sound_reply t p k n st l)

/-! ### Requests -/

theorem soundOut_refConfig (q : Req) (a : RefArgs) : SoundOut s (execRefConfig q a s) := by
  refine .admitted fun t => ?_
  split
  · have h : Keeps t (State.noteRef { t with ref := t.ref.configure a } t.ref.state) :=
      (keeps_noteRef _ _).start rfl
    exact h.sound.reply _ _ _ _ _
  · exact sound_reply t _ _ _ _ _

theorem soundOut_setHouseRate (q : Req) (code : Nat) : SoundOut s (execSetHouseRate q code s) := by
  refine .admitted fun t => ?_
  split
  · have h : Keeps t { t with house := code } := .of_bounded rfl
    exact h.sound.reply _ _ _ _ _
  · exact sound_reply t _ _ _ _ _

theorem soundOut_setOrigin (q : Req) (l : Label) : SoundOut s (execSetOrigin q l s) := by
  refine .admitted fun t => ?_
  split
  · exact sound_reply t _ _ _ _ _
  split
  · exact sound_reply t _ _ _ _ _
  split
  · exact sound_reply t _ _ _ _ _
  · exact .of_bounded rfl

theorem soundOut_declareDevice (q : Req) (i : Nat) (a : DeviceArgs) :
    SoundOut s (execDeclareDevice q i a s) := by
  refine .admitted fun t => ?_
  split
  · exact sound_reply t _ _ _ _ _
  split
  · exact sound_reply t _ _ _ _ _
  · exact (sound_declare t i _).reply _ _ _ _ _

theorem soundOut_setDevice (q : Req) (i : Nat) (a : DeviceArgs) :
    SoundOut s (execSetDevice q i a s) := by
  refine .admitted fun t => ?_
  split
  · exact sound_reply t _ _ _ _ _
  split
  · exact sound_reply t _ _ _ _ _
  · rename_i h
    exact (sound_change t (t.setCheck_dev h) _).reply _ _ _ _ _

theorem soundOut_removeDevice (q : Req) (i : Nat) : SoundOut s (execRemoveDevice q i s) := by
  refine .admitted fun t => ?_
  split
  · exact sound_reply t _ _ _ _ _
  split
  · exact sound_reply t _ _ _ _ _
  split
  · exact sound_reply t _ _ _ _ _
  split
  · exact sound_reply t _ _ _ _ _
  · exact (sound_removeDev t i _).reply _ _ _ _ _

theorem soundOut_jamDevice (q : Req) (i : Nat) (l : Option Label) :
    SoundOut s (execJamDevice q i l s) := by
  refine .admitted fun t => ?_
  split
  · exact sound_reply t _ _ _ _ _
  split
  · exact sound_reply t _ _ _ _ _
  split
  · exact sound_reply t _ _ _ _ _
  split
  · exact sound_reply t _ _ _ _ _
  split
  · exact sound_reply t _ _ _ _ _
  split
  · exact sound_reply t _ _ _ _ _
  · rename_i hd _ _ _
    exact (keeps_hostJam t hd _).sound.reply _ _ _ _ _

theorem soundOut_lineEnable (q : Req) (n : Nat) (on : Bool) : SoundOut s (execLineEnable q n on s) := by
  refine .admitted fun t => ?_
  split
  · exact sound_reply t _ _ _ _ _
  split
  · exact sound_reply t _ _ _ _ _
  split
  · exact sound_reply t _ _ _ _ _
  · exact (keeps_enableLine t n _ on).sound.reply _ _ _ _ _

theorem soundOut_profileBegin (q : Req) (n c : Nat) (b : Int) :
    SoundOut s (execProfileBegin q n c b s) := by
  refine .admitted fun t => ?_
  split
  · exact sound_reply t _ _ _ _ _
  split
  · exact sound_reply t _ _ _ _ _
  · have h : Keeps t (t.setProfile n (.make .loading c b [])) := .of_bounded rfl
    exact h.sound.reply _ _ _ _ _

theorem soundOut_profilePoints (q : Req) (n : Nat) (l : List (Nat × Int)) :
    SoundOut s (execProfilePoints q n l s) := by
  refine .admitted fun t => ?_
  dsimp only
  split
  · exact sound_reply t _ _ _ _ _
  split
  · exact sound_reply t _ _ _ _ _
  split
  · exact sound_reply t _ _ _ _ _
  split
  · exact sound_reply t _ _ _ _ _
  split
  · exact sound_reply t _ _ _ _ _
  split
  · exact sound_reply t _ _ _ _ _
  · exact (keeps_storePoints t n l).sound.reply _ _ _ _ _

theorem soundOut_radioEnable (q : Req) (on : Bool) : SoundOut s (execRadioEnable q on s) := by
  refine .admitted fun t => ?_
  split
  · exact sound_reply t _ _ _ _ _
  · have h : Keeps t { t with radio := t.radio.setEnabled on } := .of_bounded rfl
    exact h.sound.reply _ _ _ _ _

theorem soundOut_setSlate (q : Req) (a : SlateArgs) : SoundOut s (execSetSlate q a s) := by
  refine .admitted fun t => ?_
  split
  · exact sound_reply t _ _ _ _ _
  split
  · exact sound_reply t _ _ _ _ _
  split
  · exact sound_reply t _ _ _ _ _
  · exact (keeps_modUnit t _ _).sound.reply _ _ _ _ _

theorem soundOut_startTake (q : Req) (u : Nat) : SoundOut s (execStartTake q u s) := by
  refine .admitted fun t => ?_
  split
  · exact sound_reply t _ _ _ _ _
  split
  · exact sound_reply t _ _ _ _ _
  split
  · exact sound_reply t _ _ _ _ _
  split
  · exact sound_reply t _ _ _ _ _
  · exact (keeps_openTake t u .host).sound.reply _ _ _ _ _

theorem soundOut_endTake (q : Req) (u : Nat) : SoundOut s (execEndTake q u s) := by
  refine .admitted fun t => ?_
  split
  · exact sound_reply t _ _ _ _ _
  split
  · exact sound_reply t _ _ _ _ _
  · exact (sound_closeTake t u).reply _ _ _ _ _

theorem soundOut_markTake (q : Req) (a : MarkArgs) : SoundOut s (execMarkTake q a s) := by
  refine .admitted fun t => ?_
  split
  · exact sound_reply t _ _ _ _ _
  split
  · exact sound_reply t _ _ _ _ _
  split
  · exact ((keeps_markInTable t a _).sound.trans (sound_arbitrate _)).reply _ _ _ _ _
  · exact (((keeps_handAmendment t _).trans (keeps_exportAmendment _ _)).sound.trans
      (sound_arbitrate _)).reply _ _ _ _ _

theorem soundOut_setCommitDelay (q : Req) (n : Nat) : SoundOut s (execSetCommitDelay q n s) := by
  refine .admitted fun t => ?_
  split
  · exact sound_reply t _ _ _ _ _
  split
  · exact sound_reply t _ _ _ _ _
  · have h : Keeps t { t with store := { t.store with delay := n } } := .of_bounded rfl
    exact h.sound.reply _ _ _ _ _

theorem soundOut_flush (q : Req) : SoundOut s (execFlush q s) := by
  refine .admitted fun t => ?_
  dsimp only
  split
  · exact sound_reply t _ _ _ _ _
  split
  · exact sound_reply t _ _ _ _ _
  split
  · exact sound_reply t _ _ _ _ _
  split
  · exact sound_reply t _ _ _ _ _
  · have h : Keeps t { t with store := { t.store with
        flushes := t.store.flushes ++ [⟨t.takes.queue, q.port, q.tag⟩] } } := .of_bounded rfl
    exact h.sound.trans (sound_arbitrate _)

/-- A CLEAR_LOG waits only once the scan is done (R148). -/
theorem sound_waitClear (c : PendingClear) (n : Nat) (h : s.store.scanned = true) :
    Sound s { s with store := { s.store with clear := some c, arrivals := n } } := by
  refine ⟨.of_disk rfl, fun hd => ?_⟩
  obtain ⟨hlog, hpages, hroom, -, hscan, hclear⟩ := hd
  exact ⟨hlog, hpages, hroom, .inl h, hscan, hclear⟩

theorem soundOut_clearLog (q : Req) : SoundOut s (execClearLog q s) := by
  refine .admitted fun t => ?_
  split
  · exact sound_reply t _ _ _ _ _
  rename_i hs
  split
  · exact sound_reply t _ _ _ _ _
  split
  · exact sound_reply t _ _ _ _ _
  split
  · exact sound_reply t _ _ _ _ _
  split
  · exact sound_reply t _ _ _ _ _
  · exact (sound_waitClear t _ _ (by simpa using hs)).trans (sound_arbitrate _)

theorem soundOut_saveSettings (q : Req) : SoundOut s (execSaveSettings q s) := by
  refine .admitted fun t => ?_
  split
  · exact sound_reply t _ _ _ _ _
  split
  · exact sound_reply t _ _ _ _ _
  · have h : Keeps t { t with store := { t.store with
        save := some ⟨t.snapshot, q.port, q.tag, t.store.arrivals⟩
        arrivals := t.store.arrivals + 1 } } := .of_bounded rfl
    exact h.sound.trans (sound_arbitrate _)

theorem soundOut_whereIs (q : Req) (a : WhereArgs) : SoundOut s (execWhereIs q a s) :=
  .finish (sound_admitWith s _ _ _ _ _ fun h => sound_arriveQuery s q _ _ h)

theorem soundOut_atTick (q : Req) (a : AtTickArgs) : SoundOut s (execAtTick q a s) :=
  .finish (sound_admitWith s _ _ _ _ _ fun h => sound_arriveQuery s q _ _ h)

theorem soundOut_exportTakes (q : Req) (a : ExportArgs) : SoundOut s (execExportTakes q a s) := by
  refine .admitted fun t => ?_
  split
  · exact sound_reply t _ _ _ _ _
  split
  · exact sound_reply t _ _ _ _ _
  split
  · exact sound_reply t _ _ _ _ _
  · dsimp only
    have h : Keeps t { t with exporter := .start q.tag a (t.exportRange a) } := .of_bounded rfl
    exact ((h.sound.reply _ _ _ _ _).trans (keeps_exportRun _).sound).trans (sound_arbitrate _)

theorem soundOut_cancelExport (q : Req) : SoundOut s (execCancelExport q s) := by
  refine .admitted fun t => ?_
  split
  · exact sound_reply t _ _ _ _ _
  split
  · exact sound_reply t _ _ _ _ _
  dsimp only
  have h := sound_withdrawExport t t.exporter.stop
  split
  · exact h.trans (.of_bounded rfl)
  · exact h.trans (keeps_endExport _ _).sound

/-- Every request a frame can spell is sound. -/
theorem soundOut_takeRequest (i : Instr) : SoundOut s (takeRequest i s) := by
  unfold takeRequest
  split
  case h_1 => exact .ask
  case h_2 => exact soundOut_refConfig s _ _
  case h_3 => exact soundOut_setHouseRate s _ _
  case h_4 => exact soundOut_setOrigin s _ _
  case h_5 => exact soundOut_declareDevice s _ _ _
  case h_6 => exact soundOut_setDevice s _ _ _
  case h_7 => exact soundOut_removeDevice s _ _
  case h_8 => exact .ask
  case h_9 => exact soundOut_jamDevice s _ _ _
  case h_10 => exact soundOut_lineEnable s _ _ _
  case h_11 => exact soundOut_profileBegin s _ _ _ _
  case h_12 => exact soundOut_profilePoints s _ _ _
  case h_13 => exact .ask
  case h_14 => exact soundOut_radioEnable s _ _
  case h_15 => exact .ask
  case h_16 => exact soundOut_setSlate s _ _
  case h_17 => exact .ask
  case h_18 => exact soundOut_startTake s _ _
  case h_19 => exact soundOut_endTake s _ _
  case h_20 => exact soundOut_markTake s _ _
  case h_21 => exact .ask
  case h_22 => exact soundOut_setCommitDelay s _ _
  case h_23 => exact soundOut_flush s _
  case h_24 => exact soundOut_clearLog s _
  case h_25 => exact soundOut_saveSettings s _
  case h_26 => exact .ask
  case h_27 => exact soundOut_whereIs s _ _
  case h_28 => exact soundOut_atTick s _ _
  case h_29 => exact soundOut_exportTakes s _ _
  case h_30 => exact soundOut_cancelExport s _
  case h_31 => exact fun t ht => Host.Outcome.next.inj ht ▸ .refl s

/-! ### Bytes -/

theorem soundOut_unknownRequest (q : Req) (k : Nat) : SoundOut s (execUnknownRequest q k s) := by
  refine .finish ?_
  split
  · exact (keeps_portReply s _ _ _ _).sound
  · exact (keeps_portReply s _ _ _ _).sound

theorem soundOut_takeMalformed (q : Req) (k : Nat) : SoundOut s (takeMalformed q k s) := by
  refine .finish ?_
  split
  · exact (keeps_portReply s _ _ _ _).sound
  · exact (keeps_portReply s _ _ _ _).sound

/-- The state a sound command leaves. -/
theorem SoundOut.state {s : State} {o : Out} (h : SoundOut s o) : Sound s (o.state s) := by
  cases o with
  | next t => exact h t rfl
  | fault _ => exact .refl s
  | refused _ => exact .refl s

theorem sound_takeFrame (p : Port) (f : Frame) : Sound s (takeFrame p s f) := by
  unfold takeFrame
  dsimp only
  refine SoundOut.state ?_
  split
  · exact soundOut_unknownRequest s _ _
  split
  · exact soundOut_takeRequest s _
  · exact soundOut_takeMalformed s _ _

theorem sound_takeFrames (p : Port) (l : List Frame) (rest : List Byte) :
    Sound s (s.takeFrames p l rest) :=
  (keeps_modPort s p le_rfl).sound.trans (Sound.foldl _ (fun t f => sound_takeFrame t p f) l _)

theorem soundOut_portByteReceived (p : Port) (b : Byte) (stop : Bool) :
    SoundOut s (execPortByteReceived p b stop s) := by
  refine .finish ?_
  split
  · exact sound_takeFrames s p _ _
  · exact sound_takeFrames s p _ _

/-! ### Events -/

theorem soundOut_settingsApply : SoundOut s (execSettingsApply s) := by
  refine .finish ?_
  split
  · exact .refl s
  · exact (keeps_applySettings s).sound

theorem soundOut_logScanPageRead : SoundOut s (execLogScanPageRead s) := by
  refine .finish ?_
  split
  · rename_i h
    exact sound_scanPage s (by simp at h; exact h.2)
  · exact .refl s

theorem soundOut_scanComplete (a b : Bool) : SoundOut s (execScanComplete a b s) := by
  refine .finish ?_
  split
  · rename_i h
    simp only [Bool.and_eq_true, Bool.not_eq_true'] at h
    exact sound_completeScan s a b h.1 h.2
  · exact .refl s

theorem soundOut_messageSent (p : Port) : SoundOut s (execMessageSent p s) := by
  refine .finish ?_
  split
  · exact .refl s
  · exact ((keeps_modPort s p le_rfl).trans (keeps_afterSent _ _ _)).sound.trans (sound_arbitrate _)

theorem soundOut_acquisitionTimeout : SoundOut s (execAcquisitionTimeout s) := by
  refine .finish ?_
  split
  · exact .of_bounded rfl
  · exact .refl s

theorem soundOut_referenceLoss : SoundOut s (execReferenceLoss s) := by
  refine .finish ?_
  split
  · exact .start (keeps_noteRef _ _) rfl
  · exact .refl s

theorem soundOut_holdoverExpiry : SoundOut s (execHoldoverExpiry s) := by
  refine .finish ?_
  split
  · exact .start (keeps_noteRef _ _) rfl
  · exact .refl s

theorem soundOut_lineFrameEdge (n : Nat) : SoundOut s (execLineFrameEdge n s) := by
  refine .finish ?_
  split
  · exact (keeps_modLine s n _).sound
  · exact .refl s

theorem soundOut_lineSenseChange (n : Nat) (x : Sense) : SoundOut s (execLineSenseChange n x s) := by
  refine .finish ?_
  split
  · exact .refl s
  · exact (((keeps_modLine s n _).trans (keeps_noteLine _ _ _ _)).trans (keeps_faultIfDown _ _)).sound

theorem soundOut_runSenseChange (n : Nat) (b : Bool) : SoundOut s (execRunSenseChange n b s) := by
  refine .finish ?_
  have h := (keeps_modLine s n fun l => { l with run := b }).sound
  split
  · exact .refl s
  dsimp only
  split
  · exact h
  split
  · exact h.trans (keeps_runRise _ _).sound
  · exact h.trans (sound_runFall _ _)

theorem soundOut_beaconMark : SoundOut s (execBeaconMark s) := by
  refine .finish ?_
  split
  · exact .start (keeps_trackMark _ _ _) rfl
  · exact .refl s

theorem soundOut_pollDue (i : Nat) : SoundOut s (execPollDue i s) := by
  refine .finish ?_
  split
  · rename_i d _
    split
    · exact ((keeps_modLive_same s i (f := fun l => { l with pollLeft := s.pollPeriod d })
        (fun _ => rfl) fun _ => rfl).trans (keeps_post _ _ _ _)).sound
    · exact .refl s
  · exact .refl s

theorem soundOut_periodicExpiry (i : Nat) : SoundOut s (execPeriodicExpiry i s) := by
  refine .finish ?_
  split
  · rename_i d _
    split
    · exact ((keeps_modLive_same s i
        (f := fun l => { l with periodicLeft := periodicLoad d.set.periodic })
        (fun _ => rfl) fun _ => rfl).trans (keeps_postOrHold _ _ _ _)).sound
    · exact .refl s
  · exact .refl s

theorem soundOut_slotStart : SoundOut s (execSlotStart s) := by
  refine .finish ?_
  split
  · exact .start (keeps_choose _ _ _ _) rfl
  · exact .refl s

theorem soundOut_echoReceived (e : Echo) (b : Bool) : SoundOut s (execEchoReceived e b s) := by
  refine .finish ?_
  split
  · split
    · exact .of_bounded rfl
    · exact .refl s
  · exact .refl s

theorem soundOut_transactionEnd : SoundOut s (execTransactionEnd s) := by
  refine .finish ?_
  split
  · split
    · dsimp only
      split
      · exact .of_bounded rfl
      · exact .start (keeps_outcome _ _) rfl
    · exact .refl s
  · exact .refl s

theorem soundOut_commitDelayExpiry : SoundOut s (execCommitDelayExpiry s) := by
  refine .finish ?_
  split
  · exact sound_arbitrate s
  · exact .refl s

theorem soundOut_pageWriteCheck (ok : Bool) : SoundOut s (execPageWriteCheck ok s) := by
  refine .finish ?_
  split
  · rename_i h
    exact sound_checkCommit s _ _ _ ok h
  · rename_i h
    exact sound_checkAmend s _ _ ok h
  · rename_i h
    exact sound_checkCleared s _ ok h
  · exact .refl s

theorem soundOut_storeReadDone : SoundOut s (execStoreReadDone s) := by
  refine .finish ?_
  split
  · dsimp only
    have h := sound_endOp s false
    split
    · exact (h.trans (keeps_conformAnswer _ _ _).sound).trans (sound_arbitrate _)
    split
    · refine (h.trans ?_).trans (sound_arbitrate _)
      exact .start (keeps_exportRun _) rfl
    · exact h.trans (sound_arbitrate _)
  · exact .refl s

theorem soundOut_settingsWriteDone (ok : Bool) : SoundOut s (execSettingsWriteDone ok s) := by
  refine .finish ?_
  split
  · split
    · exact sound_endSettings s _ _ _
    split
    · exact sound_beginSettings s 2
    · exact sound_endSettings s _ _ _
  · exact .refl s

theorem soundOut_logEraseDone (f : Option Nat) : SoundOut s (execLogEraseDone f s) := by
  refine .finish ?_
  split
  · rename_i h
    split
    · split
      · rename_i hp
        exact sound_eraseFailed s _ hp h
      · exact .refl s
    · exact sound_eraseGood s h
  · exact .refl s

/-- Every command but RESET and the two that set time is sound. -/
theorem soundOut_exec (c : Instr) (hr : ∀ a b l e, c ≠ .reset a b l e)
    (he : ∀ e, c ≠ .referenceEdge e) (hb : c ≠ .originBoundary) : SoundOut s (exec c s) := by
  cases c with
  | reset a b l e => exact absurd rfl (hr a b l e)
  | referenceEdge e => exact absurd rfl (he e)
  | originBoundary => exact absurd rfl hb
  | settingsApply => exact soundOut_settingsApply s
  | logScanPageRead => exact soundOut_logScanPageRead s
  | scanComplete a b => exact soundOut_scanComplete s a b
  | unknownRequest q k => exact soundOut_unknownRequest s q k
  | frameGapTimeout p => exact .finish (sound_takeFrames s p _ _)
  | messageSent p => exact soundOut_messageSent s p
  | acquisitionTimeout => exact soundOut_acquisitionTimeout s
  | referenceLoss => exact soundOut_referenceLoss s
  | holdoverExpiry => exact soundOut_holdoverExpiry s
  | lineFrameEdge n => exact soundOut_lineFrameEdge s n
  | lineSenseChange n x => exact soundOut_lineSenseChange s n x
  | runSenseChange n b => exact soundOut_runSenseChange s n b
  | beaconMark => exact soundOut_beaconMark s
  | pollDue i => exact soundOut_pollDue s i
  | periodicExpiry i => exact soundOut_periodicExpiry s i
  | slotStart => exact soundOut_slotStart s
  | echoReceived e b => exact soundOut_echoReceived s e b
  | transactionEnd => exact soundOut_transactionEnd s
  | commitDelayExpiry => exact soundOut_commitDelayExpiry s
  | pageWriteCheck ok => exact soundOut_pageWriteCheck s ok
  | storeReadDone => exact soundOut_storeReadDone s
  | settingsWriteDone ok => exact soundOut_settingsWriteDone s ok
  | logEraseDone f => exact soundOut_logEraseDone s f
  | portByteReceived p b stop => exact soundOut_portByteReceived s p b stop
  | timeNow q => exact soundOut_takeRequest s (.timeNow q)
  | refConfig q a => exact soundOut_refConfig s q a
  | setHouseRate q n => exact soundOut_setHouseRate s q n
  | setOrigin q l => exact soundOut_setOrigin s q l
  | declareDevice q i a => exact soundOut_declareDevice s q i a
  | setDevice q i a => exact soundOut_setDevice s q i a
  | removeDevice q i => exact soundOut_removeDevice s q i
  | deviceStatus q i => exact soundOut_takeRequest s (.deviceStatus q i)
  | jamDevice q i l => exact soundOut_jamDevice s q i l
  | lineEnable q n on => exact soundOut_lineEnable s q n on
  | profileBegin q n c b => exact soundOut_profileBegin s q n c b
  | profilePoints q n l => exact soundOut_profilePoints s q n l
  | profileRead q n => exact soundOut_takeRequest s (.profileRead q n)
  | radioEnable q on => exact soundOut_radioEnable s q on
  | radioStatus q => exact soundOut_takeRequest s (.radioStatus q)
  | setSlate q a => exact soundOut_setSlate s q a
  | unitStatus q u => exact soundOut_takeRequest s (.unitStatus q u)
  | startTake q u => exact soundOut_startTake s q u
  | endTake q u => exact soundOut_endTake s q u
  | markTake q a => exact soundOut_markTake s q a
  | takeTableStatus q => exact soundOut_takeRequest s (.takeTableStatus q)
  | setCommitDelay q n => exact soundOut_setCommitDelay s q n
  | flush q => exact soundOut_flush s q
  | clearLog q => exact soundOut_clearLog s q
  | saveSettings q => exact soundOut_saveSettings s q
  | storeStatus q => exact soundOut_takeRequest s (.storeStatus q)
  | whereIs q a => exact soundOut_whereIs s q a
  | atTick q a => exact soundOut_atTick s q a
  | exportTakes q a => exact soundOut_exportTakes s q a
  | cancelExport q => exact soundOut_cancelExport s q

end

/-! ### The two commands that set time -/

/-- What a reference edge or an origin boundary keeps: the bounds, time while a take is open, the
order of the counter's values, and the units. -/
structure Held (s t : State) : Prop where
  ports   : s.portsOk = true → t.portsOk = true
  counts  : s.countsOk = true → t.countsOk = true
  disk    : t.disk = s.disk
  units   : t.units = s.units
  time    : s.timeOk = true → t.timeOk = true
  still   : s.anyTakeOpen = true → t.clock = s.clock ∧ t.origin = s.origin
  forward : s.clock.counter ≤ maxCounter → s.clock.counter ≤ t.clock.counter ∧
    t.clock.counter ≤ maxCounter

section
variable {s t u : State}

theorem State.timeOk_iff (s : State) : s.timeOk = true ↔
    s.clock.counter ≤ maxCounter ∧ s.clock.frac < totalParts ∧ s.origin ≤ maxOrigin := by
  simp [State.timeOk, and_assoc]

theorem State.anyTakeOpen_congr (h : t.units = s.units) : t.anyTakeOpen = s.anyTakeOpen := by
  rw [State.anyTakeOpen, h]; rfl

theorem Held.trans (h : Held s t) (g : Held t u) : Held s u where
  ports := g.ports ∘ h.ports
  counts := g.counts ∘ h.counts
  disk := g.disk.trans h.disk
  units := g.units.trans h.units
  time := g.time ∘ h.time
  still hs := by
    have ht := h.still hs
    have hu := g.still (by rwa [State.anyTakeOpen_congr h.units])
    exact ⟨hu.1.trans ht.1, hu.2.trans ht.2⟩
  forward hs := by
    have ht := h.forward hs
    have hu := g.forward ht.2
    exact ⟨ht.1.trans hu.1, hu.2⟩

/-- What keeps the bounds and the units holds time. -/
theorem Held.of_keeps (h : Keeps s t) (hu : t.units = s.units) : Held s t where
  ports := h.ports
  counts := h.counts
  disk := h.disk
  units := hu
  time hs := by
    rw [State.timeOk_iff] at hs ⊢
    rwa [h.clock, h.origin]
  still _ := ⟨h.clock, h.origin⟩
  forward hs := by rw [h.clock]; exact ⟨le_rfl, hs⟩

/-- With no take open, time may move within its range, and the counter not back. -/
theorem Held.of_time {c : Clock} {o : Nat} (hopen : s.anyTakeOpen = false)
    (ht : s.timeOk = true → c.counter ≤ maxCounter ∧ c.frac < totalParts ∧ o ≤ maxOrigin)
    (hf : s.clock.counter ≤ maxCounter → s.clock.counter ≤ c.counter ∧ c.counter ≤ maxCounter) :
    Held s { s with clock := c, origin := o } where
  ports := id
  counts := id
  disk := rfl
  units := rfl
  time hs := (State.timeOk_iff _).mpr (ht hs)
  still hs := by rw [hopen] at hs; cases hs
  forward := hf

end

section
variable (s : State)

theorem held_stepCounter (a : Nat) (b : Bool) (h : s.anyTakeOpen = false) :
    Held s (s.stepCounter a b) := by
  have h1 : Held s { s with clock := ⟨min (s.clock.counter + a) maxCounter,
      if min (s.clock.counter + a) maxCounter = maxCounter then 0 else s.clock.frac⟩ } := by
    refine Held.of_time (o := s.origin) h (fun hs => ?_) fun hs => ?_
    · rw [State.timeOk_iff] at hs
      refine ⟨Nat.min_le_right _ _, ?_, hs.2.2⟩
      dsimp only
      split
      · decide
      · exact hs.2.1
    · exact ⟨Nat.le_min.mpr ⟨Nat.le_add_right _ _, hs⟩, Nat.min_le_right _ _⟩
  exact h1.trans (.of_keeps ((keeps_timeChange _ _).trans (keeps_notify _ _ _))
    (by simp [State.stepCounter]))

theorem held_setOriginAt (o : Nat) (c : Int) (k : Nat) (h : s.anyTakeOpen = false)
    (ho : o ≤ maxOrigin) : Held s (s.setOriginAt o c k) := by
  unfold State.setOriginAt
  split
  · exact .of_keeps (.refl s) rfl
  · have h1 : Held s { s with origin := o } :=
      Held.of_time (c := s.clock) h (fun hs => ((State.timeOk_iff s).mp hs).imp_right
        (.imp_right fun _ => ho)) fun hs => ⟨le_rfl, hs⟩
    exact h1.trans (.of_keeps ((keeps_timeChange _ _).trans (keeps_notify _ _ _)) (by simp))

/-- An origin found lies in its range (R37). -/
theorem originFor_le {code n current o : Nat} {c : Int} (h : originFor code n c current = some o) :
    o ≤ maxOrigin := by
  unfold originFor at h
  dsimp only at h
  split at h
  · rename_i hc
    obtain rfl := Option.some.inj h
    exact hc.2
  split at h
  · rename_i hc
    obtain rfl := Option.some.inj h
    exact hc
  · cases h

theorem held_correctEdge (e : Int) (label : Option Nat) : Held s (s.correctEdge e label) := by
  unfold State.correctEdge
  split
  · exact .of_keeps (keeps_slewEdge s e label) rfl
  · rename_i h
    have hopen : s.anyTakeOpen = false := by simp [State.slews] at h; exact h.2
    exact (held_stepCounter s _ _ hopen).trans (.of_keeps (.of_bounded rfl) rfl)

theorem held_takeLtcOrigin (prev label : Option Nat) (m : Nat) (c : Int) :
    Held s (s.takeLtcOrigin prev label m c) := by
  unfold State.takeLtcOrigin
  split
  · split
    · rename_i h
      have hopen : s.anyTakeOpen = false := by simpa using h.2.2.2
      split
      · rename_i o ho
        have h1 : Held s { s with ref := { s.ref with pendingOrigin := false } } :=
          .of_keeps (.of_bounded rfl) rfl
        exact h1.trans (held_setOriginAt _ o c 1 hopen (originFor_le ho))
      · exact .of_keeps (.refl s) rfl
    · exact .of_keeps (.refl s) rfl
  · exact .of_keeps (.refl s) rfl

theorem held_useEdge (prev label : Option Nat) (m : Nat) : Held s (s.useEdge prev label m) :=
  (held_correctEdge s _ label).trans (held_takeLtcOrigin _ _ _ _ _)

theorem held_acquireEdge (label : Option Nat) : Held s (s.acquireEdge label) := by
  unfold State.acquireEdge
  dsimp only
  split
  · exact .of_keeps (.of_bounded rfl) rfl
  split
  · split
    · refine Held.trans ?_ (held_useEdge _ _ _ _)
      exact .of_keeps ((keeps_noteRef _ _).start rfl) (by simp [State.noteRef])
    · exact .of_keeps (.of_bounded rfl) rfl
  · exact .of_keeps (.of_bounded rfl) rfl

theorem held_lockedEdge (label : Option Nat) : Held s (s.lockedEdge label) := by
  unfold State.lockedEdge
  split
  · exact .of_keeps (.refl s) rfl
  split
  · exact .of_keeps (.refl s) rfl
  · refine Held.trans ?_ (held_useEdge _ _ _ _)
    exact .of_keeps (.of_bounded rfl) rfl

theorem State.pump_held : Held s s.pump := .of_keeps (keeps_pump s) s.pump_units

theorem held_referenceEdge (e : EdgeInput) {t : State} (h : execReferenceEdge e s = .next t) :
    Held s t := by
  obtain rfl := Host.Outcome.next.inj h
  refine Held.trans ?_ (State.pump_held _)
  split
  · dsimp only
    split
    · exact .of_keeps ((keeps_noteRef _ _).start rfl) (by simp [State.startAcquiring, State.noteRef])
    · exact .of_keeps ((keeps_noteRef _ _).start rfl) (by simp [State.startAcquiring, State.noteRef])
    · exact held_acquireEdge s _
    · exact held_lockedEdge s _
  · exact .of_keeps (.refl s) rfl

theorem held_originBoundary {t : State} (h : execOriginBoundary s = .next t) : Held s t := by
  obtain rfl := Host.Outcome.next.inj h
  refine Held.trans ?_ (State.pump_held _)
  split
  · split
    · rename_i w _ _
      have hreply : ∀ (x : State) p k n st l, Held x (x.reply p k n st l) :=
        fun x p k n st l => .of_keeps (keeps_reply x p k n st l) (by simp)
      unfold State.settleOrigin
      dsimp only
      split
      · refine Held.trans ?_ (hreply _ _ _ _ _ _)
        exact .of_keeps (.of_bounded rfl) rfl
      rename_i hopen
      split
      · refine Held.trans ?_ (hreply _ _ _ _ _ _)
        exact .of_keeps (.of_bounded rfl) rfl
      · rename_i o ho
        refine Held.trans (Held.trans ?_ (held_setOriginAt _ o _ 0 ?_ (originFor_le ho)))
          (hreply _ _ _ _ _ _)
        · exact .of_keeps (.of_bounded rfl) rfl
        · exact Bool.eq_false_iff.mpr hopen
    · exact .of_keeps (.refl s) rfl
  · exact .of_keeps (.refl s) rfl

/-! ### RESET and the oscillator -/

/-- What a reset leaves of the log area is in its canonical form. -/
theorem logWf_logAtReset (left : PageLeft) (erased : List Nat) (h : s.disk.ok) :
    logWf (s.logAtReset left erased) = true := by
  obtain ⟨hlog, hpages, hroom, -, -, -⟩ := h
  change logWf s.flash.log = true at hlog
  unfold State.logAtReset
  split
  · exact logWf_filter _ _ hlog
  split
  · rename_i page hw
    have hp : page ∈ s.store.op.pages := by
      unfold StoreOp.writing at hw
      split at hw <;> simp_all [StoreOp.pages]
    have hlt : s.store.pointer < 8192 := hroom.resolve_left (List.ne_nil_of_mem hp)
    have hne : page ≠ blankPage := hpages page hp
    unfold leftBehind
    split
    · exact hlog
    · exact logWf_writePage _ _ _ hlog hlt nofun
    · exact logWf_writePage _ _ _ hlog hlt (by simpa using hne)
  · exact hlog

/-- A part right after a reset, over a log area in its canonical form, is within every bound. -/
theorem afterReset_sound (pending : List Instr) (flash : Flash) (inputs : Vector (Sense × Bool) 16)
    (rate : Nat) :
    (State.afterReset pending flash inputs rate).timeOk = true ∧
      (State.afterReset pending flash inputs rate).portsOk = true ∧
      (State.afterReset pending flash inputs rate).countsOk = true ∧
      (logWf flash.log = true → (State.afterReset pending flash inputs rate).flashOk = true) := by
  refine ⟨rfl, rfl, ?_, fun h => ?_⟩
  · rw [State.countsOk_iff]
    intro i d hd
    have hi := State.dev_lt _ hd
    simp [State.dev, State.afterReset, hi] at hd
  · rw [State.flashOk_iff]
    exact ⟨h, nofun, .inl rfl, .inr ⟨rfl, nofun, rfl, rfl⟩, nofun, nofun⟩

/-- The counter after an oscillator tick stays in its range, the fraction below one tick (R26). -/
theorem Clock.advance_ok (c : Clock) (g : Int) :
    (c.advance g).counter ≤ maxCounter ∧ (c.advance g).frac < totalParts := by
  have hpos : 0 < totalParts := by decide
  unfold Clock.advance
  dsimp only
  split
  · exact ⟨le_rfl, hpos⟩
  · rename_i h
    refine ⟨Nat.le_of_lt (Nat.div_lt_of_lt_mul ?_), Nat.mod_lt _ hpos⟩
    rw [Nat.mul_comm totalParts maxCounter]
    exact Nat.lt_of_not_le h

/-! ### The step -/

/-- A property that every command and every oscillator tick keeps is kept by the step. -/
theorem step_keeps {P : State → Prop}
    (hp : ∀ (s : State) (rest : List Instr), P s → P { s with pending := rest })
    (hexec : ∀ (c : Instr) (s t : State), P s → exec c s = .next t → P t)
    (htick : ∀ s : State, P s → P s.tick) {s t : State} (hs : P s) (h : step s = .next t) : P t := by
  unfold step at h
  split at h
  · exact hexec _ _ _ (hp s _ hs) h
  · unfold idle at h
    split at h
    · exact hexec _ _ _ hs h
    · obtain rfl := Host.Outcome.next.inj h
      exact htick s hs

/-- A property of the state, shown for RESET, for the two commands that set time, and for whatever is
sound, holds of every command. -/
theorem exec_keeps {P : State → Prop} {c : Instr} {s t : State} (h : exec c s = .next t)
    (hreset : ∀ a b l e, execReset a b l e s = .next t → P t) (hheld : Held s t → P t)
    (hsound : Sound s t → P t) : P t := by
  by_cases hr : ∃ a b l e, c = .reset a b l e
  · obtain ⟨a, b, l, e, rfl⟩ := hr
    exact hreset a b l e h
  by_cases he : ∃ e, c = .referenceEdge e
  · obtain ⟨e, rfl⟩ := he
    exact hheld (held_referenceEdge s e h)
  by_cases hb : c = .originBoundary
  · subst hb
    exact hheld (held_originBoundary s h)
  · exact hsound (soundOut_exec s c (fun a b l e hc => hr ⟨a, b, l, e, hc⟩)
      (fun e hc => he ⟨e, hc⟩) hb t h)

end

/-- Settles O55: a tick stays in range by the counter's own limit, RESET by its values, the two
commands that set time by `Held`; every other command keeps time as it is. -/
theorem timeStaysInRange : Obligations.TimeStaysInRange := by
  refine fun s t hs h => step_keeps (P := fun x => x.timeOk = true) (fun _ _ h => h)
    (fun c s t hs h => ?_) (fun s hs => ?_) hs h
  · refine exec_keeps (P := fun x => x.timeOk = true) h (fun a b l e hr => ?_) (fun k => k.time hs)
      fun k => ?_
    · obtain rfl := Host.Outcome.next.inj hr
      exact (afterReset_sound _ _ _ _).1
    · rw [State.timeOk_iff] at hs ⊢
      rwa [k.clock, k.origin]
  · have hc := s.clock.advance_ok s.ref.gain
    rw [State.timeOk_iff] at hs ⊢
    exact ⟨hc.1, hc.2, hs.2.2⟩

/-- Settles O56: no command lengthens a list or a queue past its bound. -/
theorem portsStayBounded : Obligations.PortsStayBounded := by
  refine fun s t hs h => step_keeps (P := fun x => x.portsOk = true) (fun _ _ h => h)
    (fun c s t hs h => ?_) (fun s hs => hs) hs h
  refine exec_keeps (P := fun x => x.portsOk = true) h (fun a b l e hr => ?_) (fun k => k.ports hs)
    fun k => k.ports hs
  obtain rfl := Host.Outcome.next.inj hr
  exact (afterReset_sound _ _ _ _).2.1

/-- Settles O57: state and count change together wherever one of them touches its bound. -/
theorem missedCountsStay : Obligations.MissedCountsStay := by
  refine fun s t hs h => step_keeps (P := fun x => x.countsOk = true) (fun _ _ h => h)
    (fun c s t hs h => ?_) (fun s hs => hs) hs h
  refine exec_keeps (P := fun x => x.countsOk = true) h (fun a b l e hr => ?_) (fun k => k.counts hs)
    fun k => k.counts hs
  obtain rfl := Host.Outcome.next.inj hr
  exact (afterReset_sound _ _ _ _).2.2.1

/-- Settles O58: what the bounds read of the store is kept by every operation on it. -/
theorem flashStaysCanonical : Obligations.FlashStaysCanonical := by
  refine fun s t hs h => step_keeps (P := fun x => x.flashOk = true) (fun _ _ h => h)
    (fun c s t hs h => ?_) (fun s hs => hs) hs h
  have hd := s.flashOk_iff.mp hs
  refine exec_keeps (P := fun x => x.flashOk = true) h (fun a b l e hr => ?_)
    (fun k => ?_) fun k => (State.flashOk_iff t).mpr (k.flash hd)
  · obtain rfl := Host.Outcome.next.inj hr
    exact (afterReset_sound _ _ _ _).2.2.2 (logWf_logAtReset s l e hd)
  · rw [State.flashOk_iff, k.disk]
    exact hd

/-- Settles O59. -/
theorem resetIsSound : Obligations.ResetIsSound :=
  have h := afterReset_sound [] ⟨.blank, []⟩ (Vector.replicate 16 (.opened, false))
    (lineRateOf false false)
  ⟨h.1, h.2.1, h.2.2.1, h.2.2.2 rfl⟩

/-- Settles O60: time stands still under every command but a reference edge and an origin boundary,
and these two hold it while a take is open. -/
theorem timeHeldInTake : Obligations.TimeHeldInTake := by
  intro c s t h hr
  by_cases hc : (∀ e, c ≠ .referenceEdge e) ∧ c ≠ .originBoundary
  · have k := soundOut_exec s c hr hc.1 hc.2 t h
    exact ⟨fun _ => ⟨k.clock, k.origin⟩, fun _ _ => ⟨k.clock, k.origin⟩, fun _ => k.clock ▸ le_rfl⟩
  · have k : Held s t := by
      by_cases hb : c = .originBoundary
      · subst hb
        exact held_originBoundary s h
      · have he : ∃ e, c = .referenceEdge e := by
          by_contra hn
          exact hc ⟨fun e hce => hn ⟨e, hce⟩, hb⟩
        obtain ⟨e, rfl⟩ := he
        exact held_referenceEdge s e h
    exact ⟨k.still, fun h1 h2 => absurd ⟨h1, h2⟩ hc, fun hle => (k.forward hle).1⟩

end Sys2Proof.Machine
end

section
/-!
SUPPORT. What a command says to its ports, composed: an update that leaves what waits to be sent, one
that leaves what waits to be announced, a notice, a reply, and the transmitters' choice at the end.
-/

namespace Sys2Proof.Machine

/-- Between `s` and `t`, the notice queue and what is announced are as they were. -/
structure Mum (s t : State) : Prop where
  announced : t.announced = s.announced
  notices   : t.notices = s.notices
  lost      : t.lost = s.lost

section
variable {s t u : State}

theorem Mum.refl (s : State) : Mum s s := ⟨rfl, rfl, rfl⟩

theorem Mum.trans (h : Mum s t) (g : Mum t u) : Mum s u :=
  ⟨g.announced.trans h.announced, g.notices.trans h.notices, g.lost.trans h.lost⟩

/-- An update that leaves control port, notice queue and lost count alone announces nothing. -/
theorem Mum.of_eq (hc : t.control = s.control) (hn : t.notices = s.notices) (hl : t.lost = s.lost) :
    Mum s t := ⟨State.announced_congr hc hn, hn, hl⟩

theorem Mum.silent (h : Mum s t) : Silent s t := ⟨h.announced, h.lost⟩

theorem NoReply.refl (s : State) : NoReply s s := fun _ => rfl

theorem NoReply.trans (h : NoReply s t) (g : NoReply t u) : NoReply s u :=
  fun p => (g p).trans (h p)

/-- An update that leaves both ports alone replies to nothing. -/
theorem NoReply.of_eq (hc : t.control = s.control) (hs : t.suite = s.suite) : NoReply s t :=
  State.outgoing_congr hc hs

theorem Silent.trans (h : Silent s t) (g : Silent t u) : Silent s u :=
  ⟨g.1.trans h.1, g.2.trans h.2⟩

/-- A notice raised after nothing was announced. -/
theorem Mum.raised {k : Nat} {b : List Field} (h : Mum s t) (g : Raised t u k b) : Raised s u k b := by
  obtain ⟨ha, hn, hl⟩ := h
  rw [Raised, ha, hn, hl] at g
  exact g

/-- A notice raised, and nothing after it. -/
theorem Raised.silent {k : Nat} {b : List Field} (h : Raised s t k b) (g : Silent t u) :
    Raised s u k b := by
  rw [Raised, g.1, g.2]
  exact h

/-- A reply formed after none was. -/
theorem NoReply.answered {q : Req} {k : Nat} {st : Status} {l : List Field} (h : NoReply s t)
    (g : Answered t u q k st l) : Answered s u q k st l := by
  rw [Answered, h, h] at g
  exact g

/-- A reply formed, and none after it. -/
theorem Answered.noReply {q : Req} {k : Nat} {st : Status} {l : List Field}
    (h : Answered s t q k st l) (g : NoReply t u) : Answered s u q k st l := by
  rw [Answered, g, g]
  exact h

end

section
variable (s : State)

theorem mum_enlist (q : Req) (k : Nat) (x : Option Query) : Mum s (s.enlist q k x) :=
  ⟨s.announced_enlist q k x, s.enlist_notices q k x, s.enlist_lost q k x⟩

theorem noReply_enlist (q : Req) (k : Nat) (x : Option Query) : NoReply s (s.enlist q k x) :=
  s.outgoing_enlist q k x

theorem mum_reply (p : Port) (k n : Nat) (st : Status) (l : List Field) :
    Mum s (s.reply p k n st l) :=
  ⟨s.announced_reply p k n st l, s.reply_notices p k n st l, s.reply_lost p k n st l⟩

theorem answered_reply (q : Req) (k : Nat) (st : Status) (l : List Field) :
    Answered s (s.reply q.port k q.tag st l) q k st l :=
  ⟨s.outgoing_reply _ _ _ _ _, s.outgoing_reply_other _ _ _ _ _⟩

theorem noReply_notify (k : Nat) (b : List Field) : NoReply s (s.notify k b) := s.outgoing_notify k b

theorem noReply_pump : NoReply s s.pump := s.outgoing_pump

theorem silent_pump : Silent s s.pump := ⟨s.announced_pump, s.lost_pump⟩

/-! ### The rest of the state -/

@[simp] theorem State.still_enlist_control (q : Req) (k : Nat) (x : Option Query) :
    (s.enlist q k x).control.still = s.control.still :=
  congrArg State.control (s.inner_enlist q k x)

@[simp] theorem State.still_enlist_suite (q : Req) (k : Nat) (x : Option Query) :
    (s.enlist q k x).suite.still = s.suite.still :=
  congrArg State.suite (s.inner_enlist q k x)

@[simp] theorem State.still_reply_control (p : Port) (k n : Nat) (st : Status) (l : List Field) :
    (s.reply p k n st l).control.still = s.control.still :=
  congrArg State.control (s.inner_reply p k n st l)

@[simp] theorem State.still_reply_suite (p : Port) (k n : Nat) (st : Status) (l : List Field) :
    (s.reply p k n st l).suite.still = s.suite.still :=
  congrArg State.suite (s.inner_reply p k n st l)

@[simp] theorem State.still_pump_control : s.pump.control.still = s.control.still :=
  congrArg State.control s.inner_pump

@[simp] theorem State.still_pump_suite : s.pump.suite.still = s.suite.still :=
  congrArg State.suite s.inner_pump

end

/-- Two states agree but for outstanding requests and what is to be sent when every field does. -/
theorem State.inner_ext {s t : State} (h : t.pending = s.pending ∧ t.clock = s.clock ∧
    t.ref = s.ref ∧ t.origin = s.origin ∧ t.house = s.house ∧ t.slots = s.slots ∧
    t.lines = s.lines ∧ t.profiles = s.profiles ∧ t.radio = s.radio ∧ t.marks = s.marks ∧
    t.units = s.units ∧ t.takes = s.takes ∧ t.store = s.store ∧ t.flash = s.flash ∧
    t.lineRate = s.lineRate ∧ t.control.still = s.control.still ∧ t.suite.still = s.suite.still ∧
    t.exporter = s.exporter) : t.inner = s.inner := by
  obtain ⟨h1, h2, h3, h4, h5, h6, h7, h8, h9, h10, h11, h12, h13, h14, h15, h16, h17, h18⟩ := h
  simp only [State.inner, h1, h2, h3, h4, h5, h6, h7, h8, h9, h10, h11, h12, h13, h14, h15, h16, h17,
    h18]

/-- A request that its port takes: its owner's rule on the state with the request listed, and the
transmitters' choice. -/
theorem finish_taken {s : State} {q : Req} (h : Taken s q) {k : Nat} {c : Class} {layout : Bool}
    {own : State → State} (hc : c.admits q.port = true) (hl : layout = true) :
    finish (s.admitted q k c layout own) = .next (own (s.enlist q k)).pump := by
  subst hl
  rw [State.admit_taken h k hc]
  rfl

theorem Class.admits_control {q : Req} (h : q.port = .control) : Class.control.admits q.port = true := by
  simp [Class.admits, h]

theorem Class.admits_suite {q : Req} (h : q.port = .suite) : Class.suite.admits q.port = true := by
  simp [Class.admits, h]

theorem Class.admits_both (q : Req) : Class.both.admits q.port = true := rfl

/-- A request answered after an update that says nothing: what it leaves, the one reply, silence. -/
theorem answered_silent {s u : State} {q : Req} {k : Nat} {st : Status} {l : List Field}
    (hn : NoReply s u) (hm : Mum s u) :
    Answered s (u.reply q.port k q.tag st l).pump q k st l ∧
      Silent s (u.reply q.port k q.tag st l).pump :=
  ⟨(hn.answered (answered_reply u q k st l)).noReply (noReply_pump _),
    (hm.trans (mum_reply u _ _ _ _ _)).silent.trans (silent_pump _)⟩

/-- A request answered after an update that raises one notice. -/
theorem answered_raised {s u : State} {q : Req} {k n : Nat} {st : Status} {l b : List Field}
    (hn : NoReply s u) (hm : Mum s u) :
    Answered s ((u.notify n b).reply q.port k q.tag st l).pump q k st l ∧
      Raised s ((u.notify n b).reply q.port k q.tag st l).pump n b :=
  ⟨((hn.trans (noReply_notify u n b)).answered (answered_reply _ q k st l)).noReply (noReply_pump _),
    (hm.raised (u.raised_notify n b)).silent
      ((mum_reply _ _ _ _ _ _).silent.trans (silent_pump _))⟩

/-- An event that raises one notice and answers nothing. -/
theorem raised_pump {s u : State} {n : Nat} {b : List Field} (hn : NoReply s u) (hm : Mum s u) :
    NoReply s (u.notify n b).pump ∧ Raised s (u.notify n b).pump n b :=
  ⟨(hn.trans (noReply_notify u n b)).trans (noReply_pump _),
    (hm.raised (u.raised_notify n b)).silent (silent_pump _)⟩

/-- An event that says nothing. -/
theorem quiet_pump {s u : State} (hn : NoReply s u) (hm : Mum s u) :
    NoReply s u.pump ∧ Silent s u.pump :=
  ⟨hn.trans (noReply_pump _), hm.silent.trans (silent_pump _)⟩

end Sys2Proof.Machine
end

section
/-!
SUPPORT. The step, the reset, and the reference unit's requests and waits.
-/

namespace Sys2Proof.Machine

/-- Settles O1: with an empty queue the clockwork's choice, of which a beacon mark with no transaction
in flight comes first. -/
theorem stepTakesFrontCommand : Obligations.StepTakesFrontCommand := by
  intro c rest s
  refine ⟨fun h => by simp [step, h], fun h => ?_⟩
  have hidle : step s = idle s := by simp [step, h]
  have hdue : ∀ e, s.nextDue = some e → step s = exec e s := fun e he => by
    rw [hidle, idle, he]
  refine ⟨hdue, fun hn => by rw [hidle, idle, hn], fun b hf hm => hdue _ ?_⟩
  simp [State.nextDue, State.dueLink, hf, Radio.takeableMark, hm, dueWhen]

/-- Settles O2: every field of the state after reset is written out by its definition. -/
theorem resetState : Obligations.ResetState := by
  intro a b left erased s
  refine ⟨_, rfl, rfl, rfl, rfl, rfl, fun i => ?_, fun i hi => ?_, fun i hi => ?_, rfl, rfl,
    fun u hu => ?_, rfl, rfl, rfl, rfl, rfl, rfl, rfl, ?_, rfl, fun hop => ?_, fun ix page hop => ?_,
    rfl⟩
  · by_cases hi : i < 32 <;> simp [State.dev, State.afterReset, hi]
  · simp [State.profile, State.afterReset, hi]
  · simp [State.line, State.afterReset, hi, Line.reset]
  · simp [State.unit, State.afterReset, hu]
  · cases a <;> cases b <;> rfl
  · simp [State.afterReset, State.logAtReset, hop, StoreOp.writing]
  · exact logAtReset_lastPage s left erased ix page hop

/-! ### REF_CONFIG (R24) -/

theorem sourceOf_code (x : Source) : sourceOf x.code = some x := by cases x <;> rfl

/-- A trim in its range fits its form. -/
theorem holdsInt_trim {x : Int} (h1 : -5000 ≤ x) (h2 : x ≤ 5000) : holdsInt 4 x = true :=
  decide_eq_true ⟨le_trans (show -((2147483648 : Nat) : Int) ≤ -5000 by decide) h1,
    lt_of_le_of_lt h2 (show (5000 : Int) < (2147483648 : Nat) by decide)⟩

/-- The fields of a REF_CONFIG in their ranges fit their forms. -/
theorem refArgs_ok {src : Source} {rate th sl ho : Nat} {lo : Bool} {trim : Option Int}
    (h1 : 1 ≤ rate) (h2 : rate ≤ (if src = .ltcIn then 6 else 17)) (h3 : 1 ≤ th) (h4 : th ≤ 10000)
    (h5 : 1 ≤ sl) (h6 : sl ≤ 100) (h7 : 10 ≤ ho) (h8 : ho ≤ 3600)
    (h9 : ∀ x, trim = some x → -5000 ≤ x ∧ x ≤ 5000) :
    (RefArgs.mk src.code rate lo th sl ho trim).fits = true ∧
      RefArgs.inRange ⟨src.code, rate, lo, th, sl, ho, trim⟩ = true := by
  have hrate : rate ≤ 17 := h2.trans (by split <;> decide)
  have hsrc : src.code ≤ 2 ∧ (rate ≤ if src.code = 2 then 6 else 17) := by cases src <;> exact ⟨by decide, h2⟩
  have hfit : (trim.map (holdsInt 4)).getD true = true := by
    cases trim with
    | none => rfl
    | some x => exact holdsInt_trim (h9 x rfl).1 (h9 x rfl).2
  have hin : (trim.map fun t => decide (-5000 ≤ t ∧ t ≤ 5000)).getD true = true := by
    cases trim with
    | none => rfl
    | some x => exact decide_eq_true (h9 x rfl)
  constructor
  · simp only [RefArgs.fits, hfit, holds, Bool.and_true, Bool.and_eq_true, decide_eq_true_eq]
    omega
  · simp only [RefArgs.inRange, hin, Bool.and_true, Bool.and_eq_true, decide_eq_true_eq]
    omega

/-- Settles O6: the request's own rule, then its notice and its reply. -/
theorem refConfigSets : Obligations.RefConfigSets := by
  intro q src rate th sl ho lo trim s htaken hp h1 h2 h3 h4 h5 h6 h7 h8 h9
  obtain ⟨hfit, hin⟩ := refArgs_ok (lo := lo) h1 h2 h3 h4 h5 h6 h7 h8 h9
  have hconf : s.ref.configure ⟨src.code, rate, lo, th, sl, ho, trim⟩ = { RefUnit.reset with
      set := ⟨src, rate, lo, th, sl, ho, trim.getD s.ref.set.trim⟩
      state := if src = .internal then .free else .acquiring
      waiting := s.ref.waiting } := by
    simp [RefUnit.configure, sourceOf_code, RefUnit.reset]
  obtain ⟨u, hu⟩ : ∃ u : State, u = { s.enlist q 0x02 with
      ref := s.ref.configure ⟨src.code, rate, lo, th, sl, ho, trim⟩ } := ⟨_, rfl⟩
  have hnote : u.noteRef s.ref.state = u.notify 0x42 [fByte s.ref.state.code,
      fByte u.ref.state.code, fByte src.code, fTick s.clock.counter, fTick s.houseTime] := by
    simp [State.noteRef, State.houseTime, hu, hconf]
  have hexec : exec (.refConfig q ⟨src.code, rate, lo, th, sl, ho, trim⟩) s =
      .next ((u.noteRef s.ref.state).reply q.port 0x02 q.tag .ok).pump := by
    refine (finish_taken htaken (Class.admits_control hp) hfit).trans ?_
    simp [if_pos hin, hu]
  rw [hnote] at hexec
  have hv := answered_raised (k := 0x02) (q := q) (st := .ok) (l := []) (n := 0x42)
    (b := [fByte s.ref.state.code, fByte u.ref.state.code, fByte src.code, fTick s.clock.counter,
      fTick s.houseTime])
    ((noReply_enlist s q 0x02 none).trans (.of_eq (t := u) (by rw [hu]) (by rw [hu])))
    ((mum_enlist s q 0x02 none).trans (.of_eq (t := u) (by rw [hu]) (by rw [hu]) (by rw [hu])))
  refine ⟨_, hexec, by simp [hu, hconf], ?_, hv.1, by simpa using hv.2⟩
  exact State.inner_ext (by simp [hu])

/-! ### SET_ORIGIN (R38) -/

/-- The next house second as a counter value. -/
theorem State.nextSecond_spec (s : State) :
    (s.nextSecond + s.origin) % ticksPerSecond = 0 ∧ s.clock.counter < s.nextSecond ∧
      s.nextSecond ≤ s.clock.counter + ticksPerSecond := by
  simp only [State.nextSecond, State.houseTime, ticksPerSecond]
  omega

/-- Settles O7: with none of its refusals the request waits, unanswered. -/
theorem setOriginWaits : Obligations.SetOriginWaits := by
  intro q l s htaken hp hopen hwait hholds hok
  have ho : (s.enlist q 0x04).anyTakeOpen = false := by
    rw [State.anyTakeOpen_congr (s.enlist_units q 0x04 none)]; exact hopen
  have hexec : exec (.setOrigin q l) s = .next (State.pump { s.enlist q 0x04 with
      ref := { s.ref with
        waiting := some ⟨frameOf s.house l, s.house, s.nextSecond, q.port, q.tag⟩ } }) := by
    refine (finish_taken htaken (Class.admits_control hp) hholds).trans ?_
    simp [ho, hwait, hok, State.nextSecond, State.houseTime]
  obtain ⟨hmod, hlt, hle⟩ := s.nextSecond_spec
  refine ⟨_, _, hexec, by rw [State.pump_ref], rfl, rfl, rfl, rfl, hmod, hlt, hle, ?_,
    quiet_pump ((noReply_enlist s q 0x04 none).trans (.of_eq rfl rfl))
      ((mum_enlist s q 0x04 none).trans (.of_eq rfl rfl rfl))⟩
  rw [State.inner_pump]
  exact State.inner_ext (by simp)

/-! ### The waits (R28, R35, R36) -/

/-- Settles O13: each wait acts when its condition holds, and the last two are announced. -/
theorem referenceWaits : Obligations.ReferenceWaits := by
  intro s
  refine ⟨fun r hst hrun hle => ?_, fun u hst hu hle => ?_, fun c hst hc hle => ?_⟩
  · have hdue : s.acquisitionTimedOut = true := by
      simp [State.acquisitionTimedOut, hst, hrun, State.waitedOut, RefUnit.period, hle]
    have hexec : exec .acquisitionTimeout s =
        .next (State.pump { s with ref := { s.ref with run := none } }) :=
      congrArg finish (if_pos hdue)
    exact ⟨_, hexec, State.inner_pump _, quiet_pump (.of_eq rfl rfl) (.of_eq rfl rfl rfl)⟩
  · have hdue : s.referenceLost = true := by
      simp [State.referenceLost, hst, hu, State.waitedOut, RefUnit.period, hle]
    have hexec : exec .referenceLoss s = .next (State.pump (State.noteRef { s with ref := { s.ref with
        state := .holdover, holdoverStart := some s.clock.counter, list := [] } } .locked)) :=
      congrArg finish (if_pos hdue)
    exact ⟨_, hexec, (State.inner_pump _).trans (State.inner_notify _ _ _),
      raised_pump (.of_eq rfl rfl) (.of_eq rfl rfl rfl)⟩
  · have hdue : s.holdoverExpired = true := by
      simp [State.holdoverExpired, hst, hc, ticksPerSecond, hle]
    have hexec : exec .holdoverExpiry s = .next (State.pump (State.noteRef { s with ref := { s.ref with
        state := .free, holdoverStart := none } } .holdover)) :=
      congrArg finish (if_pos hdue)
    exact ⟨_, hexec, (State.inner_pump _).trans (State.inner_notify _ _ _),
      raised_pump (.of_eq rfl rfl) (.of_eq rfl rfl rfl)⟩

end Sys2Proof.Machine
end

section
/-!
SUPPORT. Reading back what was written, field by field: each form of section 11.5 has a reader that
takes exactly the form's bytes off the front, and the readers of requests and records are put
together from those.
-/

namespace Sys2Proof.Machine

theorem encodeFields_append (fs gs : List Field) :
    encodeFields (fs ++ gs) = encodeFields fs ++ encodeFields gs := List.flatMap_append

/-- A reader takes exactly the bytes of these fields off the front and finds this value. -/
def Takes (p : Parse α) (a : α) (fs : List Field) : Prop := Reads p a (encodeFields fs)

theorem Takes.pure (a : α) : Takes (Pure.pure a : Parse α) a [] := Reads.pure a

theorem Takes.bind {p : Parse α} {f : α → Parse β} {a : α} {b : β} {fs gs : List Field}
    (hp : Takes p a fs) (hf : Takes (f a) b gs) : Takes (p >>= f) b (fs ++ gs) := by
  unfold Takes
  rw [encodeFields_append]
  exact Reads.bind hp hf

/-- The reader of the last value of a form. -/
theorem Takes.last {p : Parse α} {f : α → β} {a : α} {fs : List Field} (hp : Takes p a fs) :
    Takes (p >>= fun x => Pure.pure (f x)) (f a) fs := by
  have h := hp.bind (f := fun x => Pure.pure (f x)) (Takes.pure (f a))
  rwa [List.append_nil] at h

/-- A value read and looked at without reading further. -/
theorem Takes.check {p : Parse α} {f : α → Parse β} {a : α} {b : β} {fs : List Field}
    (hp : Takes p a fs) (hf : f a = Pure.pure b) : Takes (p >>= f) b fs := by
  have h := hp.bind (f := f) (b := b) (gs := []) (hf ▸ Takes.pure b)
  rwa [List.append_nil] at h

/-! ### Numbers -/

theorem takes_pNat {w n : Nat} (h : holds w n = true) : Takes (pNat w) n [uint w n] := by
  have h' := Reads.pNat h
  simpa [Takes, encodeFields] using h'

theorem Field.bytes_length (f : Field) : f.bytes.length = f.width := leBytes_length _ _

/-- A signed field that fits carries its value in two's complement. -/
theorem Field.code_signed {w : Nat} {x : Int} (h : holdsInt w x = true) :
    ((⟨w, true, x⟩ : Field).code : Int) = if x < 0 then x + (2 ^ (8 * w) : Nat) else x := by
  have hf : (⟨w, true, x⟩ : Field).fits = true := h
  have hb : -((2 ^ (8 * w - 1) : Nat) : Int) ≤ x ∧ x < ((2 ^ (8 * w - 1) : Nat) : Int) := by
    simpa [holdsInt, Field.fits] using h
  have hle : (2 : Nat) ^ (8 * w - 1) ≤ 2 ^ (8 * w) := Nat.pow_le_pow_right (by decide) (by omega)
  have hpos : 0 < (2 : Nat) ^ (8 * w) := Nat.pow_pos (by decide)
  rw [Field.code, if_pos hf]
  show (((x % ((2 ^ (8 * w) : Nat) : Int)).toNat : Nat) : Int) = _
  generalize 2 ^ (8 * w) = m at *
  generalize 2 ^ (8 * w - 1) = k at *
  rw [Int.toNat_of_nonneg (Int.emod_nonneg _ (by omega))]
  split
  · rw [← Int.add_emod_right, Int.emod_eq_of_lt (by omega) (by omega)]
  · rw [Int.emod_eq_of_lt (by omega) (by omega)]

theorem takes_pInt {w : Nat} {x : Int} (hw : 0 < w) (h : holdsInt w x = true) :
    Takes (pInt w) x [⟨w, true, x⟩] := by
  have hb : -((2 ^ (8 * w - 1) : Nat) : Int) ≤ x ∧ x < ((2 ^ (8 * w - 1) : Nat) : Int) := by
    simpa [holdsInt, Field.fits] using h
  have hc := Field.code_signed h
  have h2 : (2 : Nat) ^ (8 * w) = 2 * 2 ^ (8 * w - 1) := by
    rw [← Nat.pow_succ', show (8 * w - 1).succ = 8 * w by omega]
  have hlt : (⟨w, true, x⟩ : Field).code < 2 ^ (8 * w) := by
    have : ((⟨w, true, x⟩ : Field).code : Int) < (2 ^ (8 * w) : Nat) := by
      rw [hc, h2]; split <;> omega
    exact_mod_cast this
  intro rest
  have hl : (leBytes w (⟨w, true, x⟩ : Field).code).length = w := leBytes_length _ _
  simp only [encodeFields, List.flatMap_cons, List.flatMap_nil, List.append_nil, Field.bytes, pInt,
    pNat, List.length_append, hl, List.take_left' hl, List.drop_left' hl,
    ofLeBytes_leBytes _ _ hlt]
  rw [if_neg (by omega)]
  simp only [Option.some.injEq, Prod.mk.injEq, and_true]
  rw [hc, h2]
  generalize (⟨w, true, x⟩ : Field).code = n at *
  rw [h2] at hc
  generalize 2 ^ (8 * w - 1) = m at *
  split <;> split <;> split at hc <;> omega

theorem takes_pFlag (b : Bool) : Takes pFlag b [fFlag b] := by
  cases b <;> exact Takes.check (takes_pNat rfl) rfl

/-! ### Options and lists -/

theorem takes_pOpt {p : Parse α} {f : α → List Field} {o : Option α}
    (h : ∀ a, o = some a → Takes p a (f a)) : Takes (pOpt p) o (fOpt f o) := by
  cases o with
  | none => exact Takes.check (takes_pFlag false) rfl
  | some a => exact (takes_pFlag true).bind (f := fun c => if c then (do let a ← p; Pure.pure (some a))
      else Pure.pure none) (Takes.last (f := some) (h a rfl))

theorem takes_pOptNat {w : Nat} {o : Option Nat} (h : holdsOpt w o = true) :
    Takes (pOpt (pNat w)) o (fOpt1 (uint w) o) :=
  takes_pOpt fun _ ha => takes_pNat (by rw [ha] at h; exact h)

theorem takes_pOptFlag (o : Option Bool) : Takes (pOpt pFlag) o (fOpt1 fFlag o) :=
  takes_pOpt fun _ _ => takes_pFlag _

theorem takes_pRepeat {p : Parse α} {f : α → List Field} {l : List α}
    (h : ∀ a ∈ l, Takes p a (f a)) : Takes (pRepeat p l.length) l (l.flatMap f) := by
  induction l with
  | nil => exact Takes.pure []
  | cons a l ih =>
    obtain ⟨ha, hl⟩ := List.forall_mem_cons.1 h
    exact ha.bind (f := fun a => do let r ← pRepeat p l.length; Pure.pure (a :: r))
      (Takes.last (f := (a :: ·)) (ih hl))

theorem takes_pList {p : Parse α} {f : α → List Field} {l : List α} (hn : holds 1 l.length = true)
    (h : ∀ a ∈ l, Takes p a (f a)) : Takes (pList p) l (fList f l) :=
  (takes_pNat hn).bind (takes_pRepeat h)

/-- The bytes of a text are the bytes of its fields. -/
theorem encodeFields_bytes (t : Text) : encodeFields (t.map fun b => fByte b.toNat) = t := by
  induction t with
  | nil => rfl
  | cons b t ih =>
    have hb : (fByte b.toNat).bytes = [b] := by
      have h : (fByte b.toNat).code = b.toNat := uint_code (by simpa using b.isLt)
      show [BitVec.ofNat 8 ((fByte b.toNat).code % 256)] = [b]
      rw [h]
      exact List.singleton_inj.2 (BitVec.eq_of_toNat_eq (by simpa using b.isLt))
    show (fByte b.toNat).bytes ++ encodeFields (t.map fun b => fByte b.toNat) = b :: t
    rw [hb, ih]
    rfl

theorem takes_pText {max : Nat} {t : Text} (hm : max < 256) (h : holdsText max t = true) :
    Takes (pText max) t (fText t) := by
  have hl : t.length ≤ max := by simpa [holdsText] using h
  refine (takes_pNat (w := 1) (by simp [holds]; omega)).bind
    (f := fun n => if n ≤ max then pBytes n else pFail) ?_
  rw [if_pos hl]
  intro rest
  rw [encodeFields_bytes]
  simp [pBytes]

theorem takes_pOptText {max : Nat} {o : Option Text} (hm : max < 256)
    (h : (o.map (holdsText max)).getD true = true) : Takes (pOpt (pText max)) o (fOpt fText o) :=
  takes_pOpt fun _ ha => takes_pText hm (by rw [ha] at h; exact h)

/-- A bias within its range is read back from its sign bit and magnitude. -/
theorem takes_pBias {b : Int} (h : biasFits b = true) : Takes pBias b [fByte (biasCode b)] := by
  have hb : b.natAbs ≤ 15 := by simpa [biasFits] using h
  have hc : biasCode b = if b < 0 then 128 + b.natAbs else b.natAbs := rfl
  refine Takes.check (takes_pNat (w := 1) (n := biasCode b) (by simp [holds]; split at hc <;> omega)) ?_
  split at hc
  · rw [if_neg (by omega), if_pos (by omega)]
    exact congrArg _ (by omega)
  · rw [if_neg (by omega), if_neg (by omega)]
    exact congrArg _ (by omega)

theorem takes_pLabel {l : Label} (h : labelHolds l = true) : Takes pLabel l (fLabel l) := by
  simp only [labelHolds, Bool.and_eq_true] at h
  obtain ⟨⟨⟨hh, hm⟩, hs⟩, hf⟩ := h
  exact (takes_pNat hh).bind <| (takes_pNat hm).bind <| (takes_pNat hs).bind <|
    (takes_pNat hf).last (f := fun f => (⟨l.hh, l.mm, l.ss, f⟩ : Label))

theorem takes_pAtt {x : Nat × Nat} (h1 : holds 1 x.1 = true) (h2 : holds 1 x.2 = true) :
    Takes pAtt x (attFields x) :=
  (takes_pNat h1).bind <| (takes_pNat h2).last (f := fun n => (x.1, n))

/-! ### The layouts of the requests -/

/-- What is read of a device's settings after its kind. -/
def pDeviceRest (kind : Option Nat) : Parse DeviceArgs := do
  let att ← pOpt pAtt
  let unit ← pOpt (pNat 1)
  let rate ← pOpt (pNat 1)
  let audio ← pOpt (pNat 1)
  let pull ← pOpt (pNat 1)
  let phase ← pOpt (pNat 4)
  let origin ← pOpt (pNat 4)
  let autoRoll ← pOpt pFlag
  let tolerance ← pOpt (pNat 1)
  let poll ← pOpt (pNat 4)
  let periodic ← pOpt (pNat 1)
  let quiet ← pOpt pFlag
  let profile ← pOpt (pNat 1)
  pure ⟨kind, att, unit, rate, audio, pull, phase, origin, autoRoll, tolerance, poll, periodic,
    quiet, profile⟩

theorem pDevice_true : pDevice true = pOpt (pNat 1) >>= pDeviceRest := rfl

theorem pDevice_false : pDevice false = pDeviceRest none := rfl

theorem takes_pDeviceRest {a : DeviceArgs} (h : a.fits = true) :
    Takes (pDeviceRest a.kind) a (deviceFields false a) := by
  simp only [DeviceArgs.fits, Bool.and_eq_true] at h
  obtain ⟨⟨⟨⟨⟨⟨⟨⟨⟨⟨⟨⟨-, type⟩, number⟩, unit⟩, rate⟩, audio⟩, pull⟩, phase⟩, origin⟩,
    tolerance⟩, poll⟩, periodic⟩, profile⟩ := h
  have hatt : Takes (pOpt pAtt) a.att (fOpt attFields a.att) :=
    takes_pOpt fun x hx => takes_pAtt (by simpa [hx, holdsOpt] using type)
      (by simpa [hx, holdsOpt] using number)
  simp only [deviceFields, List.append_assoc]
  exact hatt.bind <| (takes_pOptNat unit).bind <| (takes_pOptNat rate).bind <|
    (takes_pOptNat audio).bind <| (takes_pOptNat pull).bind <| (takes_pOptNat phase).bind <|
    (takes_pOptNat origin).bind <| (takes_pOptFlag a.autoRoll).bind <|
    (takes_pOptNat tolerance).bind <| (takes_pOptNat poll).bind <| (takes_pOptNat periodic).bind <|
    (takes_pOptFlag a.quiet).bind <| (takes_pOptNat profile).last
      (f := fun p => { a with profile := p })

theorem takes_pDevice {withKind : Bool} {a : DeviceArgs} (h : a.fits = true)
    (hk : withKind = false → a.kind = none) :
    Takes (pDevice withKind) a (deviceFields withKind a) := by
  have hrest := takes_pDeviceRest h
  cases withKind with
  | false => rwa [hk rfl] at hrest
  | true =>
    have hkind : holdsOpt 1 a.kind = true := by
      simp only [DeviceArgs.fits, Bool.and_eq_true] at h
      obtain ⟨⟨⟨⟨⟨⟨⟨⟨⟨⟨⟨⟨kind, -⟩, -⟩, -⟩, -⟩, -⟩, -⟩, -⟩, -⟩, -⟩, -⟩, -⟩, -⟩ := h
      exact kind
    have hall : deviceFields true a = fOpt1 fByte a.kind ++ deviceFields false a := by
      simp [deviceFields]
    rw [pDevice_true, hall]
    exact (takes_pOptNat hkind).bind hrest

theorem takes_pRefConfig {a : RefArgs} (h : a.fits = true) :
    Takes pRefConfig a ([fByte a.source, fByte a.rate, fFlag a.ltcOrigin, fTick a.threshold,
      fTick a.slew, fLong a.holdover] ++ fOpt1 fSigned a.trim) := by
  simp only [RefArgs.fits, Bool.and_eq_true] at h
  obtain ⟨⟨⟨⟨⟨source, rate⟩, threshold⟩, slew⟩, holdover⟩, trim⟩ := h
  have htrim : Takes (pOpt (pInt 4)) a.trim (fOpt1 fSigned a.trim) :=
    takes_pOpt fun x hx => takes_pInt (by decide) (by rw [hx] at trim; exact trim)
  exact (takes_pNat source).bind <| (takes_pNat rate).bind <| (takes_pFlag _).bind <|
    (takes_pNat threshold).bind <| (takes_pNat slew).bind <| (takes_pNat holdover).bind <|
    htrim.last (f := fun t => { a with trim := t })

theorem takes_pSlate {a : SlateArgs} (h : a.fits = true) :
    Takes pSlate a (fByte a.unit :: fOpt fText a.scene ++ fOpt1 fCount a.takeNo ++
      fList (fun x => fByte x.1 :: fText x.2) a.rolls) := by
  simp only [SlateArgs.fits, Bool.and_eq_true, List.all_eq_true] at h
  obtain ⟨⟨⟨⟨unit, scene⟩, takeNo⟩, count⟩, rolls⟩ := h
  have hrolls : Takes (pList pRoll) a.rolls (fList (fun x => fByte x.1 :: fText x.2) a.rolls) := by
    refine takes_pList count fun x hx => ?_
    obtain ⟨slot, name⟩ := rolls x hx
    exact (takes_pNat slot).bind <| (takes_pText (by decide) name).last (f := fun t => (x.1, t))
  rw [List.cons_append, List.cons_append, List.append_assoc]
  exact (takes_pNat unit).bind <| (takes_pOptText (by decide) scene).bind <|
    (takes_pOptNat takeNo).bind <| hrolls.last (f := fun r => (⟨a.unit, a.scene, a.takeNo, r⟩ : SlateArgs))

theorem takes_pMark {a : MarkArgs} (h : a.fits = true) :
    Takes pMark a ([fSession a.session, fIndex a.index] ++ fOpt1 fFlag a.circled ++
      fOpt1 fFlag a.falseStart ++ fOpt fText a.note) := by
  simp only [MarkArgs.fits, Bool.and_eq_true] at h
  obtain ⟨⟨session, index⟩, note⟩ := h
  simp only [List.append_assoc]
  exact (takes_pNat session).bind <| (takes_pNat index).bind <| (takes_pOptFlag _).bind <|
    (takes_pOptFlag _).bind <| (takes_pOptText (by decide) note).last (f := fun n => { a with note := n })

theorem takes_pWhere {a : WhereArgs} (h : a.fits = true) :
    Takes pWhere a ([fSession a.session, fByte a.slot] ++ fLabel a.label ++ [fByte a.scope] ++
      fOpt1 fByte a.rate ++ fOpt1 fIndex a.index) := by
  simp only [WhereArgs.fits, Bool.and_eq_true] at h
  obtain ⟨⟨⟨⟨⟨session, slot⟩, label⟩, scope⟩, rate⟩, index⟩ := h
  simp only [List.append_assoc]
  exact (takes_pNat session).bind <| (takes_pNat slot).bind <| (takes_pLabel label).bind <|
    (takes_pNat scope).bind <| (takes_pOptNat rate).bind <|
    (takes_pOptNat index).last (f := fun i => { a with index := i })

theorem takes_pAtTick {a : AtTickArgs} (h : a.fits = true) :
    Takes pAtTick a [fSession a.session, fTick a.tick, fByte a.scope] := by
  simp only [AtTickArgs.fits, Bool.and_eq_true] at h
  obtain ⟨⟨session, tick⟩, scope⟩ := h
  exact (takes_pNat session).bind <| (takes_pNat tick).bind <|
    (takes_pNat scope).last (f := fun c => { a with scope := c })

theorem takes_pExport {a : ExportArgs} (h : a.fits = true) :
    Takes pExport a [fSession a.session, fIndex a.start, fCount a.count, fCount a.blockSize,
      fFlag a.follow] := by
  simp only [ExportArgs.fits, Bool.and_eq_true] at h
  obtain ⟨⟨⟨session, start⟩, count⟩, size⟩ := h
  exact (takes_pNat session).bind <| (takes_pNat start).bind <| (takes_pNat count).bind <|
    (takes_pNat size).bind <| (takes_pFlag _).last (f := fun b => (⟨a.session, a.start, a.count, a.blockSize, b⟩ : ExportArgs))

theorem takes_pProfilePoints {q : Req} {n : Nat} {l : List (Nat × Int)} (hn : holds 1 n = true)
    (h : pointsFit l = true) :
    Takes (pProfilePoints q) (.profilePoints q n l)
      (fByte n :: fList (fun x => [fByte x.1, fLevel x.2]) l) := by
  simp only [pointsFit, Bool.and_eq_true, List.all_eq_true] at h
  obtain ⟨count, points⟩ := h
  refine (takes_pNat hn).bind <| Takes.last (f := Instr.profilePoints q n) <|
    takes_pList count fun x hx => ?_
  obtain ⟨code, level⟩ := points x hx
  exact (takes_pNat code).bind <| (takes_pInt (by decide) level).last (f := fun v => (x.1, v))

/-! ### The requests -/

/-- A request is read back from its body by the reader of its kind. -/
def ReadBack (i : Instr) : Prop :=
  ∀ (q : Req) (k : Nat) (fs : List Field), i.wf = true → reqOf i = some q → requestFields i = some (k, fs) →
    decodeRequest q.port ⟨k, q.more, q.tag, encodeFields fs⟩ = some i

theorem readBack_of_takes {i : Instr} {q0 : Req} {k0 : Nat} {fs0 : List Field}
    (p : Parse Instr) (hq : reqOf i = some q0) (hf : requestFields i = some (k0, fs0))
    (hp : requestParser q0 k0 = some p) (h : i.wf = true → Takes p i fs0) : ReadBack i := by
  intro q k fs hwf hq' hf'
  rw [hq] at hq'
  rw [hf] at hf'
  obtain rfl : q0 = q := Option.some.inj hq'
  obtain ⟨rfl, rfl⟩ : k0 = k ∧ fs0 = fs := Prod.mk.inj (Option.some.inj hf')
  unfold decodeRequest
  rw [show (⟨q0.port, q0.tag, q0.more⟩ : Req) = q0 from rfl, hp]
  exact (h hwf).run

theorem readBack_event {i : Instr} (hf : requestFields i = none) : ReadBack i :=
  fun _ _ _ _ _ h => by rw [hf] at h; cases h

theorem readBack (i : Instr) : ReadBack i := by
  cases i with
  | reset | settingsApply | logScanPageRead | scanComplete | originBoundary | unknownRequest
  | frameGapTimeout | messageSent | referenceEdge | acquisitionTimeout | referenceLoss
  | holdoverExpiry | lineFrameEdge | lineSenseChange | runSenseChange | beaconMark | pollDue
  | periodicExpiry | slotStart | echoReceived | transactionEnd | commitDelayExpiry | pageWriteCheck
  | storeReadDone | settingsWriteDone | logEraseDone | portByteReceived => exact readBack_event rfl
  | timeNow | radioStatus | takeTableStatus | flush | clearLog | saveSettings | storeStatus
  | cancelExport => exact readBack_of_takes _ rfl rfl rfl fun _ => Takes.pure _
  | setHouseRate | removeDevice | deviceStatus | profileRead | unitStatus | startTake | endTake
  | setCommitDelay =>
    refine readBack_of_takes _ rfl rfl rfl fun hwf => ?_
    obtain ⟨-, hn⟩ := Bool.and_eq_true_iff.1 hwf
    exact (takes_pNat hn).last
  | refConfig q a =>
    exact readBack_of_takes _ rfl rfl rfl fun hwf =>
      (takes_pRefConfig (Bool.and_eq_true_iff.1 hwf).2).last
  | setSlate q a =>
    exact readBack_of_takes _ rfl rfl rfl fun hwf =>
      (takes_pSlate (Bool.and_eq_true_iff.1 hwf).2).last
  | markTake q a =>
    exact readBack_of_takes _ rfl rfl rfl fun hwf =>
      (takes_pMark (Bool.and_eq_true_iff.1 hwf).2).last
  | whereIs q a =>
    exact readBack_of_takes _ rfl rfl rfl fun hwf =>
      (takes_pWhere (Bool.and_eq_true_iff.1 hwf).2).last
  | atTick q a =>
    exact readBack_of_takes _ rfl rfl rfl fun hwf =>
      (takes_pAtTick (Bool.and_eq_true_iff.1 hwf).2).last
  | exportTakes q a =>
    exact readBack_of_takes _ rfl rfl rfl fun hwf =>
      (takes_pExport (Bool.and_eq_true_iff.1 hwf).2).last
  | setOrigin q l =>
    exact readBack_of_takes _ rfl rfl rfl fun hwf =>
      (takes_pLabel (Bool.and_eq_true_iff.1 hwf).2).last
  | radioEnable q on =>
    exact readBack_of_takes _ rfl rfl rfl fun _ => (takes_pFlag on).last
  | declareDevice q n a =>
    refine readBack_of_takes _ rfl rfl rfl fun hwf => ?_
    simp only [Instr.wf, Bool.and_eq_true] at hwf
    obtain ⟨⟨-, hn⟩, ha⟩ := hwf
    exact (takes_pNat hn).bind <| (takes_pDevice (withKind := true) ha nofun).last (f := Instr.declareDevice q n)
  | setDevice q n a =>
    refine readBack_of_takes _ rfl rfl rfl fun hwf => ?_
    simp only [Instr.wf, Bool.and_eq_true, Option.isNone_iff_eq_none] at hwf
    obtain ⟨⟨⟨-, hn⟩, ha⟩, hk⟩ := hwf
    exact (takes_pNat hn).bind <| (takes_pDevice (withKind := false) ha fun _ => hk).last (f := Instr.setDevice q n)
  | jamDevice q n l =>
    refine readBack_of_takes _ rfl rfl rfl fun hwf => ?_
    simp only [Instr.wf, Bool.and_eq_true] at hwf
    obtain ⟨⟨-, hn⟩, hl⟩ := hwf
    have hlabel : Takes (pOpt pLabel) l (fOpt fLabel l) :=
      takes_pOpt fun x hx => takes_pLabel (by rw [hx] at hl; exact hl)
    exact (takes_pNat hn).bind <| hlabel.last (f := Instr.jamDevice q n)
  | lineEnable q n on =>
    refine readBack_of_takes _ rfl rfl rfl fun hwf => ?_
    obtain ⟨-, hn⟩ := Bool.and_eq_true_iff.1 hwf
    exact (takes_pNat hn).bind <| (takes_pFlag on).last (f := Instr.lineEnable q n)
  | profileBegin q n c b =>
    refine readBack_of_takes _ rfl rfl rfl fun hwf => ?_
    simp only [Instr.wf, Bool.and_eq_true] at hwf
    obtain ⟨⟨⟨-, hn⟩, hc⟩, hb⟩ := hwf
    exact (takes_pNat hn).bind <| (takes_pNat hc).bind <|
      (takes_pBias hb).last (f := Instr.profileBegin q n c)
  | profilePoints q n l =>
    refine readBack_of_takes _ rfl rfl rfl fun hwf => ?_
    simp only [Instr.wf, Bool.and_eq_true] at hwf
    obtain ⟨⟨-, hn⟩, hl⟩ := hwf
    exact takes_pProfilePoints hn hl

/-- Settles O53: each kind's reader takes its form's bytes, one field after the other. -/
theorem requestRoundTrip : Obligations.RequestRoundTrip := fun i q k fs => readBack i q k fs

end Sys2Proof.Machine
end

section
/-!
SUPPORT. The take record read back from its bytes: its flag bytes, its codes, its entries, and the
record put together from them.
-/

namespace Sys2Proof.Machine

/-! ### Codes and flag bytes -/

theorem kindOf_code (k : Kind) : kindOf k.code = some k := by cases k <;> rfl

theorem attachmentOf_codes (a : Attachment) : attachmentOf a.codes.1 a.codes.2 = some a := by
  cases a <;> rfl

theorem attachment_code_holds (a : Attachment) : holds 1 a.codes.1 = true := by cases a <;> rfl

theorem kind_code_holds (k : Kind) : holds 1 k.code = true := by cases k <;> rfl

theorem opener_code_holds (o : Opener) : holds 1 o.code = true := by cases o <;> rfl

theorem recState_code_holds (s : RecState) : holds 1 s.code = true := by cases s <;> rfl

theorem openerOf_code (o : Opener) : [Opener.host, .rollSense][o.code]? = some o := by
  cases o <;> rfl

theorem recStateOf_code (s : RecState) :
    [RecState.opened, .closed, .committing, .committed][s.code]? = some s := by
  cases s <;> rfl

/-- Three flags packed into a byte are read back. -/
theorem hasBit_three : ∀ a b c : Bool, holds 1 (bit 0 a + bit 1 b + bit 2 c) = true ∧
    hasBit 0 (bit 0 a + bit 1 b + bit 2 c) = a ∧ hasBit 1 (bit 0 a + bit 1 b + bit 2 c) = b ∧
    hasBit 2 (bit 0 a + bit 1 b + bit 2 c) = c := by decide

/-- Five presence flags packed into a byte are read back. -/
theorem hasBit_five : ∀ a b c d e : Bool,
    holds 1 (bit 0 a + bit 1 b + bit 2 c + bit 3 d + bit 4 e) = true ∧
    hasBit 0 (bit 0 a + bit 1 b + bit 2 c + bit 3 d + bit 4 e) = a ∧
    hasBit 1 (bit 0 a + bit 1 b + bit 2 c + bit 3 d + bit 4 e) = b ∧
    hasBit 2 (bit 0 a + bit 1 b + bit 2 c + bit 3 d + bit 4 e) = c ∧
    hasBit 3 (bit 0 a + bit 1 b + bit 2 c + bit 3 d + bit 4 e) = d ∧
    hasBit 4 (bit 0 a + bit 1 b + bit 2 c + bit 3 d + bit 4 e) = e := by decide

/-- An absent value travels as 0 and is told from one by its presence bit. -/
theorem whenBit_getD {n presence : Nat} {o : Option Nat} (h : hasBit n presence = o.isSome) :
    whenBit n presence (o.getD 0) = o := by
  cases o <;> simp [whenBit, h]

theorem holds_getD {w : Nat} {o : Option Nat} (h : holdsOpt w o = true) :
    holds w (o.getD 0) = true := by
  cases o with
  | none => simp [holds]
  | some n => exact h

/-- A tick held as an integer travels as the number it is. -/
theorem takes_tick {n : Int} (h0 : 0 ≤ n) (h : holds 8 n.toNat = true) :
    Takes (pNat 8) n.toNat [fTick n] := by
  have hf : fTick n = uint 8 n.toNat := by rw [fTick, uint, Int.toNat_of_nonneg h0]
  rw [hf]
  exact takes_pNat h

/-! ### Entries -/

theorem takes_pSegment {g : Segment} (h0 : 0 ≤ g.tick) (ht : holds 8 g.tick.toNat = true)
    (hf : holds 4 g.frame = true) (hr : holdsInt 4 g.rate = true)
    (he : holds 4 g.residual = true) : Takes pSegment g g.fields := by
  have hg : (⟨(g.tick.toNat : Int), g.frame, g.rate, g.residual⟩ : Segment) = g := by
    rw [Int.toNat_of_nonneg h0]
  exact (takes_tick h0 ht).bind <| (takes_pNat hf).bind <| (takes_pInt (by decide) hr).bind <|
    (takes_pNat he).check (congrArg Pure.pure hg)

theorem takes_pClap {c : Clap} (hs : holds 1 c.slot = true) (h0 : 0 ≤ c.tick)
    (ht : holds 8 c.tick.toNat = true) (hf : holds 4 c.frame = true) : Takes pClap c c.fields := by
  have hc : (⟨c.slot, (c.tick.toNat : Int), c.frame⟩ : Clap) = c := by
    rw [Int.toNat_of_nonneg h0]
  exact (takes_pNat hs).bind <| (takes_tick h0 ht).bind <|
    (takes_pNat hf).check (congrArg Pure.pure hc)

/-- The bounds of a participant entry's layout. -/
structure Participant.Fits (p : Participant) : Prop where
  slot       : holds 1 p.slot = true
  number     : holds 1 p.att.codes.2 = true
  rate       : holds 1 p.rate = true
  audio      : holds 1 p.audio = true
  pull       : holds 1 p.pull = true
  phase      : holds 4 p.phase = true
  origin     : holds 4 p.origin = true
  startFrame : holdsOpt 4 p.startFrame = true
  endFrame   : holdsOpt 4 p.endFrame = true
  rollStart  : holdsOpt 8 p.rollStart = true
  rollStop   : holdsOpt 8 p.rollStop = true
  lineFault  : holdsOpt 8 p.lineFault = true
  count      : holds 1 p.segments.length = true
  segments   : ∀ g ∈ p.segments, 0 ≤ g.tick ∧ holds 8 g.tick.toNat = true ∧
    holds 4 g.frame = true ∧ holdsInt 4 g.rate = true ∧ holds 4 g.residual = true

theorem takes_pParticipant {p : Participant} (h : p.Fits) : Takes pParticipant p p.fields := by
  obtain ⟨hmarks, hrejammed, -, huncertain⟩ := hasBit_three p.rejammed p.lineFault.isSome p.uncertain
  obtain ⟨hpresence, h0, h1, h2, h3, h4⟩ := hasBit_five p.startFrame.isSome p.endFrame.isSome
    p.rollStart.isSome p.rollStop.isSome p.lineFault.isSome
  have hsegs : Takes (pList pSegment) p.segments (fList Segment.fields p.segments) :=
    takes_pList h.count fun g hg => by
      obtain ⟨hg0, ht, hf, hr, he⟩ := h.segments g hg
      exact takes_pSegment hg0 ht hf hr he
  refine (takes_pNat h.slot).bind <| (takes_pNat (kind_code_holds p.kind)).bind <|
    (takes_pNat (attachment_code_holds p.att)).bind <| (takes_pNat h.number).bind <|
    (takes_pNat h.rate).bind <| (takes_pNat h.audio).bind <| (takes_pNat h.pull).bind <|
    (takes_pNat h.phase).bind <| (takes_pNat h.origin).bind <| (takes_pNat hpresence).bind <|
    (takes_pNat (holds_getD h.startFrame)).bind <| (takes_pNat (holds_getD h.endFrame)).bind <|
    (takes_pNat (holds_getD h.rollStart)).bind <| (takes_pNat (holds_getD h.rollStop)).bind <|
    (takes_pNat hmarks).bind <| (takes_pNat (holds_getD h.lineFault)).bind <| hsegs.check ?_
  rw [kindOf_code, attachmentOf_codes]
  simp only [hrejammed, huncertain, whenBit_getD h0, whenBit_getD h1, whenBit_getD h2,
    whenBit_getD h3, whenBit_getD h4]

/-! ### The record -/

theorem TakeRecord.encodable_participant {r : TakeRecord} (h : r.encodable = true)
    {p : Participant} (hp : p ∈ r.participants) : p.Fits := by
  have hall := List.all_eq_true.1 (Bool.and_eq_true_iff.1 h).2 p hp
  simp only [Bool.and_eq_true, List.all_eq_true, decide_eq_true_eq] at hall
  obtain ⟨⟨⟨⟨⟨⟨⟨⟨⟨⟨⟨⟨⟨slot, number⟩, rate⟩, audio⟩, pull⟩, phase⟩, origin⟩, startFrame⟩, endFrame⟩,
    rollStart⟩, rollStop⟩, lineFault⟩, count⟩, segments⟩ := hall
  exact ⟨slot, number, rate, audio, pull, phase, origin, startFrame, endFrame, rollStart, rollStop,
    lineFault, count, fun g hg => by simpa only [and_assoc] using segments g hg⟩

theorem takes_pTake {r : TakeRecord} (h : r.encodable = true) : Takes pTake r r.fields := by
  have hps : ∀ p ∈ r.participants, Takes pParticipant p p.fields := fun p hp =>
    takes_pParticipant (TakeRecord.encodable_participant h hp)
  simp only [TakeRecord.encodable, Bool.and_eq_true] at h
  obtain ⟨⟨⟨⟨⟨⟨⟨⟨⟨⟨⟨⟨session, index⟩, unit⟩, takeNo⟩, scene⟩, start⟩, fin⟩, note⟩, pcount⟩, total⟩,
    ccount⟩, claps⟩, -⟩ := h
  have hclaps : Takes (pList pClap) r.claps (fList Clap.fields r.claps) :=
    takes_pList ccount fun c hc => by
      have hall := List.all_eq_true.1 claps c hc
      simp only [Bool.and_eq_true, decide_eq_true_eq] at hall
      obtain ⟨⟨⟨hs, h0⟩, ht⟩, hf⟩ := hall
      exact takes_pClap hs h0 ht hf
  obtain ⟨hmarks, hcircled, hfalse, huncertain⟩ := hasBit_three r.circled r.falseStart r.timeUncertain
  simp only [TakeRecord.fields, List.append_assoc]
  refine (takes_pNat session).bind <| (takes_pNat index).bind <| (takes_pNat unit).bind <|
    (takes_pNat takeNo).bind <| (takes_pText (by decide) scene).bind <|
    (takes_pNat (opener_code_holds r.opener)).bind <| (takes_pNat (recState_code_holds r.state)).bind <|
    (takes_pNat start).bind <| (takes_pOptNat fin).bind <| (takes_pNat hmarks).bind <|
    (takes_pOptText (by decide) note).bind <| (takes_pList pcount hps).bind <|
    (takes_pNat total).bind <| hclaps.check ?_
  rw [openerOf_code, recStateOf_code]
  simp only [hcircled, hfalse, huncertain]

/-- Settles O54: the reader of records takes the record's fields one after the other. -/
theorem takeRecordRoundTrip : Obligations.TakeRecordRoundTrip := fun _ h => (takes_pTake h).run

end Sys2Proof.Machine
end

section
/-!
SUPPORT. What every request has in common at its port: the checks of R179 before its owner's rule,
and the transmitters' choice after it.
-/

namespace Sys2Proof.Machine

/-- A request's meaning is its port's checks, with the class of its kind, before its owner's rule; a
frame that spells it has the same meaning. -/
structure Asks (i : Instr) (q : Req) (k : Nat) : Prop where
  taken  : ∀ s, takeRequest i s = exec i s
  checks : ∃ layout own, (∀ s, exec i s = finish (s.admitWith q k (classOf k) layout own)) ∧
    (i.wf = true → completeOk i = true → layout = true)

theorem asks_of {i : Instr} {q0 q : Req} {k0 k : Nat} {fs0 fs : List Field} (hq0 : reqOf i = some q0)
    (hf0 : requestFields i = some (k0, fs0)) (hq : reqOf i = some q)
    (hf : requestFields i = some (k, fs)) (layout : Bool) (own : State → State)
    (ht : ∀ s, takeRequest i s = exec i s)
    (he : ∀ s, exec i s = finish (s.admitWith q0 k0 (classOf k0) layout own))
    (hl : i.wf = true → completeOk i = true → layout = true) : Asks i q k := by
  obtain rfl : q0 = q := Option.some.inj (hq0.symm.trans hq)
  obtain ⟨rfl, -⟩ : k0 = k ∧ fs0 = fs := Prod.mk.inj (Option.some.inj (hf0.symm.trans hf))
  exact ⟨ht, layout, own, he, hl⟩

/-- Every request of the catalogue is put to its port's checks. -/
theorem asks {i : Instr} {q : Req} {k : Nat} {fs : List Field} (hq : reqOf i = some q)
    (hf : requestFields i = some (k, fs)) : Asks i q k := by
  cases i with
  | reset | settingsApply | logScanPageRead | scanComplete | originBoundary | unknownRequest
  | frameGapTimeout | messageSent | referenceEdge | acquisitionTimeout | referenceLoss
  | holdoverExpiry | lineFrameEdge | lineSenseChange | runSenseChange | beaconMark | pollDue
  | periodicExpiry | slotStart | echoReceived | transactionEnd | commitDelayExpiry | pageWriteCheck
  | storeReadDone | settingsWriteDone | logEraseDone | portByteReceived => cases hf
  | timeNow | radioStatus | takeTableStatus | flush | clearLog | saveSettings | storeStatus
  | cancelExport | radioEnable =>
    exact asks_of rfl rfl hq hf true _ (fun _ => rfl) (fun _ => rfl) fun _ _ => rfl
  | setHouseRate _ x | removeDevice _ x | deviceStatus _ x | profileRead _ x | unitStatus _ x
  | startTake _ x | endTake _ x | lineEnable _ x =>
    exact asks_of rfl rfl hq hf (holds 1 x) _ (fun _ => rfl) (fun _ => rfl) fun h _ =>
      (Bool.and_eq_true_iff.1 h).2
  | setCommitDelay _ x =>
    exact asks_of rfl rfl hq hf (holds 4 x) _ (fun _ => rfl) (fun _ => rfl) fun h _ =>
      (Bool.and_eq_true_iff.1 h).2
  | refConfig _ a | setSlate _ a | markTake _ a | whereIs _ a | atTick _ a | exportTakes _ a =>
    exact asks_of rfl rfl hq hf a.fits _ (fun _ => rfl) (fun _ => rfl) fun h _ =>
      (Bool.and_eq_true_iff.1 h).2
  | setOrigin _ l =>
    exact asks_of rfl rfl hq hf (labelHolds l) _ (fun _ => rfl) (fun _ => rfl) fun h _ =>
      (Bool.and_eq_true_iff.1 h).2
  | declareDevice _ n a =>
    exact asks_of rfl rfl hq hf (holds 1 n && a.fits && a.complete) _ (fun _ => rfl) (fun _ => rfl)
      fun h hc => by
        simp only [Instr.wf, completeOk, Bool.and_eq_true] at h hc ⊢
        exact ⟨⟨h.1.2, h.2⟩, hc⟩
  | setDevice _ n a =>
    exact asks_of rfl rfl hq hf (holds 1 n && a.fits && a.kind.isNone) _ (fun _ => rfl)
      (fun _ => rfl) fun h _ => by
        simp only [Instr.wf, Bool.and_eq_true] at h ⊢
        exact ⟨⟨h.1.1.2, h.1.2⟩, h.2⟩
  | jamDevice _ n l =>
    exact asks_of rfl rfl hq hf (holds 1 n && (l.map labelHolds).getD true) _ (fun _ => rfl)
      (fun _ => rfl) fun h _ => by
        simp only [Instr.wf, Bool.and_eq_true] at h ⊢
        exact ⟨h.1.2, h.2⟩
  | profileBegin _ n c b =>
    exact asks_of rfl rfl hq hf (holds 1 n && holds 1 c && biasFits b) _ (fun _ => rfl)
      (fun _ => rfl) fun h _ => by
        simp only [Instr.wf, Bool.and_eq_true] at h ⊢
        exact ⟨⟨h.1.1.2, h.1.2⟩, h.2⟩
  | profilePoints _ n l =>
    exact asks_of rfl rfl hq hf (holds 1 n && pointsFit l) _ (fun _ => rfl) (fun _ => rfl)
      fun h _ => by
        simp only [Instr.wf, Bool.and_eq_true] at h ⊢
        exact ⟨h.1.2, h.2⟩

/-- The header of a well-formed request holds its tag. -/
theorem req_wf_of_wf {i : Instr} {q : Req} (hq : reqOf i = some q) (h : i.wf = true) :
    holds 1 q.tag = true := by
  cases i with
  | reset | settingsApply | logScanPageRead | scanComplete | originBoundary
  | frameGapTimeout | messageSent | referenceEdge | acquisitionTimeout | referenceLoss
  | holdoverExpiry | lineFrameEdge | lineSenseChange | runSenseChange | beaconMark | pollDue
  | periodicExpiry | slotStart | echoReceived | transactionEnd | commitDelayExpiry | pageWriteCheck
  | storeReadDone | settingsWriteDone | logEraseDone | portByteReceived => cases hq
  | _ =>
    cases hq
    simp only [Instr.wf, Req.wf, Bool.and_eq_true] at h
    simp only [h]

/-! ### What the port answers by itself -/

theorem mum_portReply (s : State) (p : Port) (k n : Nat) (st : Status) :
    Mum s (s.portReply p k n st) :=
  ⟨s.announced_portReply p k n st, s.portReply_notices p k n st, s.portReply_lost p k n st⟩

/-- A reply of the port's own changes nothing else. -/
theorem portReply_sent {s : State} {p : Port}
    (h : ((s.port p).replies.filter fun r => !r.listed).length < 4) (k n : Nat) (st : Status) :
    ∃ t, finish (s.portReply p k n st) = .next t ∧ t.inner = s.inner ∧ Silent s t ∧
      t.outgoing p = s.outgoing p ++ [⟨replyMessage k n st [], false, false⟩] :=
  ⟨_, rfl, by simp, (mum_portReply s p k n st).silent.trans (silent_pump _), by
    rw [State.outgoing_pump, State.outgoing_portReply h]⟩

theorem State.admitWith_more {s : State} {q : Req} (h : (s.port q.port).outstanding.length < 4)
    (hm : q.more = true) (k : Nat) (c : Class) (layout : Bool) (own : State → State) :
    s.admitWith q k c layout own = s.portReply q.port k q.tag .malformed := by
  simp [State.admitWith, reqFits, hm, Nat.not_le.2 h]

theorem not_unknown_of_fields {i : Instr} {q : Req} {k n : Nat} {fs : List Field}
    (hf : requestFields i = some (k, fs)) : i ≠ .unknownRequest q n := by
  rintro rfl
  cases hf

/-- Settles O51: the checks of R179 in their order, each of which leaves one reply of the port's. -/
theorem portRefusals : Obligations.PortRefusals := by
  intro i q k s hq hroom hk
  rcases hk with ⟨fs, hf⟩ | rfl
  · obtain ⟨-, layout, own, hexec, hlayout⟩ := asks hq hf
    have hne : i ≠ .unknownRequest q k := not_unknown_of_fields hf
    refine ⟨fun hfull => ?_, fun _ hi => absurd hi hne, fun hfree _ hm => ?_,
      fun hfree _ hm hwf hc hcls => ?_⟩
    · rw [hexec, State.admitWith_full hfull]
      exact portReply_sent hroom _ _ _
    · rw [hexec, State.admitWith_more hfree hm]
      exact portReply_sent hroom _ _ _
    · have htag : q.tag < 256 := by simpa [holds] using req_wf_of_wf hq hwf
      rw [hexec, hlayout hwf hc, State.admitWith_refused ⟨hfree, hm, htag⟩ k hcls]
      exact portReply_sent hroom _ _ _
  · refine ⟨fun hfull => ?_, fun hfree _ => ?_, fun _ hi => absurd rfl hi, fun _ hi => absurd rfl hi⟩
    · have hexec : exec (.unknownRequest q k) s = finish (s.portReply q.port k q.tag .queueFull) :=
        congrArg finish (if_pos hfull)
      rw [hexec]
      exact portReply_sent hroom _ _ _
    · have hexec : exec (.unknownRequest q k) s = finish (s.portReply q.port 0 q.tag .malformed) :=
        congrArg finish (if_neg (Nat.not_le.2 hfree))
      rw [hexec]
      exact portReply_sent hroom _ _ _

end Sys2Proof.Machine
end

section
/-!
SUPPORT. The receive framer and the transmitter: what the bytes of a frame come to, one after the
other, and what goes out when a message has been sent.
-/

namespace Sys2Proof.Machine

/-- The start byte (R177). -/
def startByte : Byte := BitVec.ofNat 8 0xA5

/-! ### Scanning -/

theorem scanFrames_skip {fuel : Nat} {b : Byte} {rest : List Byte} (h : b ≠ startByte) :
    scanFrames (fuel + 1) (b :: rest) = scanFrames fuel rest := if_pos h

theorem scanFrames_start (fuel : Nat) (rest : List Byte) :
    scanFrames (fuel + 1) (startByte :: rest) =
      if rest.length < 2 then ([], startByte :: rest)
      else if frameLength rest < 2 ∨ 1024 < frameLength rest then scanFrames fuel rest
      else if rest.length < frameLength rest + 4 then ([], startByte :: rest)
      else if ofLeBytes ((rest.drop (frameLength rest + 2)).take 2) =
          crc16 (rest.take (frameLength rest + 2)) then
        (frameFrom rest :: (scanFrames fuel (rest.drop (frameLength rest + 4))).1,
          (scanFrames fuel (rest.drop (frameLength rest + 4))).2)
      else scanFrames fuel rest := if_neg (not_not.2 rfl)

theorem scanFrames_noStart {fuel : Nat} {bs : List Byte} (h : ∀ x ∈ bs, x ≠ startByte) :
    scanFrames fuel bs = ([], []) := by
  induction fuel generalizing bs with
  | zero => rfl
  | succ fuel ih =>
    cases bs with
    | nil => rfl
    | cons b bs =>
      obtain ⟨hb, hbs⟩ := List.forall_mem_cons.1 h
      rw [scanFrames_skip hb]
      exact ih hbs

/-- Bytes of which no start byte but the first is one are no complete frame while they are fewer than
the shortest frame has. -/
theorem scanFrames_short {fuel : Nat} {rest : List Byte} (h : ∀ x ∈ rest, x ≠ startByte)
    (hl : rest.length < 6) : (scanFrames (fuel + 1) (startByte :: rest)).1 = [] ∧
      ((scanFrames (fuel + 1) (startByte :: rest)).2 = [] ∨
        (scanFrames (fuel + 1) (startByte :: rest)).2 = startByte :: rest) := by
  rw [scanFrames_start]
  split
  · exact ⟨rfl, .inr rfl⟩
  split
  · simp [scanFrames_noStart h]
  · rw [if_pos (by omega)]
    exact ⟨rfl, .inr rfl⟩

/-- The bytes after the start byte of a frame whose length is in its range are a frame being received
until the CRC is in. -/
theorem scanFrames_open {fuel : Nat} {rest : List Byte} (hn : 2 ≤ frameLength rest)
    (hm : frameLength rest ≤ 1024) (hl : rest.length < frameLength rest + 4) :
    scanFrames (fuel + 1) (startByte :: rest) = ([], startByte :: rest) := by
  have hrange : ¬ (frameLength rest < 2 ∨ 1024 < frameLength rest) := by omega
  rw [scanFrames_start, if_neg hrange, if_pos hl, ite_self]

/-- A frame whose CRC matches is complete. -/
theorem scanFrames_complete {fuel : Nat} {rest : List Byte} (hn : 2 ≤ frameLength rest)
    (hm : frameLength rest ≤ 1024) (hl : rest.length = frameLength rest + 4)
    (hc : ofLeBytes ((rest.drop (frameLength rest + 2)).take 2) =
      crc16 (rest.take (frameLength rest + 2))) :
    scanFrames (fuel + 1) (startByte :: rest) = ([frameFrom rest], []) := by
  rw [scanFrames_start, if_neg (by omega), if_neg (by omega), if_neg (by omega), if_pos hc, List.drop_of_length_le (by omega)]
  cases fuel <;> rfl

theorem flushFrames_noStart {fuel : Nat} {bs : List Byte} (h : ∀ x ∈ bs, x ≠ startByte) :
    flushFrames fuel bs = [] := by
  cases fuel with
  | zero => rfl
  | succ fuel => rw [flushFrames, scanFrames_noStart h]

theorem flushFrames_short {fuel : Nat} {rest : List Byte} (h : ∀ x ∈ rest, x ≠ startByte)
    (hl : rest.length < 6) : flushFrames fuel (startByte :: rest) = [] := by
  cases fuel with
  | zero => rfl
  | succ fuel =>
    obtain ⟨hf, hr | hr⟩ := scanFrames_short (fuel := (startByte :: rest).length) h hl
    · simp only [flushFrames, hr, hf]
    · simp only [flushFrames, hr, hf, flushFrames_noStart h, List.append_nil]

/-! ### The CRC -/

theorem crcShift_lt (c : Nat) : crcShift c < 65536 := by
  unfold crcShift
  split
  · exact Nat.xor_lt_two_pow (n := 16) (by omega) (by decide)
  · omega

theorem crc16_lt (bs : List Byte) : crc16 bs < 65536 := by
  rcases List.eq_nil_or_concat bs with rfl | ⟨bs, b, rfl⟩
  · decide
  · rw [crc16, List.concat_eq_append, List.foldl_append]
    exact crcShift_lt _

/-! ### The bytes of a frame -/

/-- What a frame's CRC covers: length, kind with the more-frames flag, tag, body (R178). -/
def frameInner (k tag : Nat) (more : Bool) (body : List Byte) : List Byte :=
  leBytes 2 (body.length + 2) ++
    leBytes 1 (kindBits k + if more then 128 else 0) ++ leBytes 1 tag ++ body

theorem frameBytes_eq (k tag : Nat) (more : Bool) (body : List Byte) :
    frameBytes k tag more body = startByte ::
      (frameInner k tag more body ++ leBytes 2 (crc16 (frameInner k tag more body))) := rfl

section
variable {k tag : Nat} {more : Bool} {body : List Byte}

theorem frameInner_length : (frameInner k tag more body).length = body.length + 4 := by
  simp only [frameInner, List.length_append, leBytes_length]
  omega

theorem frameInner_take_two : (frameInner k tag more body).take 2 = leBytes 2 (body.length + 2) := by
  simp only [frameInner, List.append_assoc]
  exact List.take_left' (leBytes_length _ _)

theorem frameInner_drop_two : (frameInner k tag more body).drop 2 =
    leBytes 1 (kindBits k + if more then 128 else 0) ++ (leBytes 1 tag ++ body) := by
  simp only [frameInner, List.append_assoc]
  exact List.drop_left' (leBytes_length _ _)

/-- The length of a frame is read once two bytes after the start byte are in. -/
theorem frameLength_frame (hb : body.length ≤ 1022) {bs : List Byte}
    (h : bs.take 2 = (frameInner k tag more body).take 2) : frameLength bs = body.length + 2 := by
  rw [frameLength, h, frameInner_take_two]
  exact ofLeBytes_leBytes 2 _ (show body.length + 2 < 65536 by omega)

/-- The frame of its bytes. -/
theorem frameFrom_frame (hk : k < 128) (ht : tag < 256) (hb : body.length ≤ 1022) :
    frameFrom (frameInner k tag more body ++ leBytes 2 (crc16 (frameInner k tag more body))) =
      ⟨k, more, tag, body⟩ := by
  have hkind : ofLeBytes (leBytes 1 (kindBits k + if more then 128 else 0)) =
      k + if more then 128 else 0 := by
    rw [kindBits, if_pos hk]
    exact ofLeBytes_leBytes 1 _ (show _ < 256 by cases more <;> simp <;> omega)
  have htag : ofLeBytes (leBytes 1 tag) = tag := ofLeBytes_leBytes 1 _ (show _ < 256 from ht)
  have hinner : ((frameInner k tag more body ++
      leBytes 2 (crc16 (frameInner k tag more body))).drop 2).take (body.length + 2) =
      leBytes 1 (kindBits k + if more then 128 else 0) ++ (leBytes 1 tag ++ body) := by
    rw [List.drop_append_of_le_length (by rw [frameInner_length]; omega), frameInner_drop_two]
    exact List.take_left' (by simp only [List.length_append, leBytes_length]; omega)
  have hlen := frameLength_frame (k := k) (tag := tag) (more := more) hb
    (bs := frameInner k tag more body ++ leBytes 2 (crc16 (frameInner k tag more body)))
    (List.take_append_of_le_length (by rw [frameInner_length]; omega))
  have h1 := leBytes_length 1 (kindBits k + if more then 128 else 0)
  have h2 := leBytes_length 1 tag
  have htail : (leBytes 1 (kindBits k + if more then 128 else 0) ++ (leBytes 1 tag ++ body)).drop 2 =
      body := by
    rw [← List.append_assoc]
    exact List.drop_left' (by rw [List.length_append, h1, h2])
  simp only [frameFrom, hlen, hinner, htail, List.take_left' h1, List.drop_left' h1,
    List.take_left' h2, hkind, htag]
  cases more <;> simp <;> omega

end

/-- Every byte of a frame but the last joins the bytes received. -/
theorem scanFrames_prefix {k tag : Nat} {more : Bool} {body : List Byte} (hb : body.length ≤ 1022)
    {n : Nat} (hn : n + 1 < (frameBytes k tag more body).length) (fuel : Nat) :
    scanFrames (fuel + 1) ((frameBytes k tag more body).take (n + 1)) =
      ([], (frameBytes k tag more body).take (n + 1)) := by
  have hlen : (frameBytes k tag more body).length = body.length + 7 := by
    rw [frameBytes_eq, List.length_cons, List.length_append, frameInner_length, leBytes_length]
  rw [hlen] at hn
  rw [frameBytes_eq, List.take_succ_cons]
  generalize hr : (frameInner k tag more body ++ leBytes 2 (crc16 (frameInner k tag more body))).take n
    = rest
  have hrl : rest.length = n := by
    rw [← hr, List.length_take, List.length_append, frameInner_length, leBytes_length]
    omega
  by_cases h2 : n < 2
  · rw [scanFrames_start, if_pos (by omega)]
  · have hfl : frameLength rest = body.length + 2 := frameLength_frame hb (by
      rw [← hr, List.take_take, Nat.min_eq_left (by omega)]
      exact List.take_append_of_le_length (by rw [frameInner_length]; omega))
    exact scanFrames_open (by omega) (by omega) (by omega)

/-- The whole frame is complete. -/
theorem scanFrames_frame {k tag : Nat} {more : Bool} {body : List Byte} (hk : k < 128)
    (ht : tag < 256) (hb : body.length ≤ 1022) (fuel : Nat) :
    scanFrames (fuel + 1) (frameBytes k tag more body) = ([⟨k, more, tag, body⟩], []) := by
  have hil := frameInner_length (k := k) (tag := tag) (more := more) (body := body)
  have hfl := frameLength_frame (k := k) (tag := tag) (more := more) hb
    (bs := frameInner k tag more body ++ leBytes 2 (crc16 (frameInner k tag more body)))
    (List.take_append_of_le_length (by omega))
  rw [frameBytes_eq, scanFrames_complete (by omega) (by omega)
    (by rw [List.length_append, leBytes_length]; omega), frameFrom_frame hk ht hb]
  rw [hfl, List.drop_left' (by omega), List.take_left' (by omega),
    List.take_of_length_le (by rw [leBytes_length])]
  exact ofLeBytes_leBytes 2 _ (crc16_lt _)

/-! ### Bytes and frames at a port -/

theorem noReply_rx (s : State) (p : Port) (bs : List Byte) :
    NoReply s (s.modPort p fun x => { x with rx := bs }) := by
  intro p'
  cases p <;> cases p' <;> rfl

theorem mum_rx (s : State) (p : Port) (bs : List Byte) :
    Mum s (s.modPort p fun x => { x with rx := bs }) :=
  ⟨s.announced_modPort p fun _ => rfl, s.modPort_notices p _, s.modPort_lost p _⟩

/-- Bytes received that make no frame complete only change what is being received. -/
theorem received_sent (s : State) (p : Port) (bs : List Byte) :
    ∃ t, finish (s.takeFrames p [] bs) = .next t ∧
      t.inner = (s.modPort p fun x => { x with rx := bs }).inner ∧ NoReply s t ∧ Silent s t := by
  obtain ⟨hn, hs⟩ := quiet_pump (noReply_rx s p bs) (mum_rx s p bs)
  exact ⟨_, rfl, State.inner_pump _, hn, hs⟩

theorem State.modPort_rx_same {s : State} {p : Port} {bs : List Byte} (h : (s.port p).rx = bs) :
    (s.modPort p fun x => { x with rx := bs }) = s := by
  subst h
  cases p <;> rfl

theorem exec_byte (p : Port) (b : Byte) (s : State) : exec (.portByteReceived p b true) s =
    finish (s.takeFrames p (scanFrames ((s.port p).rx ++ [b]).length.succ ((s.port p).rx ++ [b])).1
      (scanFrames ((s.port p).rx ++ [b]).length.succ ((s.port p).rx ++ [b])).2) := rfl

/-- What a byte does when the bytes received then make no frame complete. -/
theorem byte_received {s : State} {p : Port} {b : Byte} {bs : List Byte}
    (h : scanFrames ((s.port p).rx ++ [b]).length.succ ((s.port p).rx ++ [b]) = ([], bs)) :
    ∃ t, exec (.portByteReceived p b true) s = .next t ∧
      t.inner = (s.modPort p fun x => { x with rx := bs }).inner ∧ NoReply s t ∧ Silent s t := by
  rw [exec_byte, h]
  exact received_sent s p bs

/-! ### The transmitters' choice made twice -/

theorem PortState.sendReply_of_tx {x : PortState} {m : Outgoing} (h : x.tx = some m) :
    x.sendReply = x := by
  rw [PortState.sendReply, h]

theorem PortState.sendReply_idle {x : PortState} (ht : x.tx = none) (hr : x.replies = []) :
    x.sendReply = x := by
  rw [PortState.sendReply, ht, hr]

/-- A port that has chosen has a message on the way or no reply to send. -/
theorem PortState.sendReply_tx (x : PortState) :
    (∃ m, x.sendReply.tx = some m) ∨ (x.sendReply.tx = none ∧ x.sendReply.replies = []) := by
  cases ht : x.tx with
  | some m => rw [PortState.sendReply_of_tx ht]; exact .inl ⟨m, ht⟩
  | none =>
    cases hr : x.replies with
    | nil => rw [PortState.sendReply_idle ht hr]; exact .inr ⟨ht, hr⟩
    | cons r rs => exact .inl ⟨.reply r, by rw [PortState.sendReply, ht, hr]⟩

/-- The control port has nothing it could begin to send. -/
def State.ControlChose (s : State) : Prop :=
  (∃ m, s.control.tx = some m) ∨ (s.control.tx = none ∧ s.control.replies = [] ∧ s.notices = [])

/-- The suite port has nothing it could begin to send. -/
def State.SuiteChose (s : State) : Prop :=
  (∃ m, s.suite.tx = some m) ∨
    (s.suite.tx = none ∧ s.suite.replies = [] ∧ s.exporter.handed = none)

theorem State.pumpControl_chose (s : State) : s.pumpControl.ControlChose := by
  unfold State.pumpControl
  dsimp only
  split
  · exact .inl ⟨_, rfl⟩
  · rename_i hno
    rcases s.control.sendReply_tx with ⟨m, hm⟩ | ⟨hm, hr⟩
    · exact .inl ⟨m, hm⟩
    · refine .inr ⟨hm, hr, ?_⟩
      cases hn : s.notices with
      | nil => rfl
      | cons n ns => exact absurd hn (hno n ns hm)

theorem State.pumpSuite_chose (s : State) : s.pumpSuite.SuiteChose := by
  unfold State.pumpSuite
  dsimp only
  split
  · exact .inl ⟨_, rfl⟩
  · rename_i hno
    rcases s.suite.sendReply_tx with ⟨m, hm⟩ | ⟨hm, hr⟩
    · exact .inl ⟨m, hm⟩
    · refine .inr ⟨hm, hr, ?_⟩
      cases hn : s.exporter.handed with
      | none => rfl
      | some n => exact absurd hn (hno n hm)

theorem State.pumpControl_of_chose {s : State} (h : s.ControlChose) : s.pumpControl = s := by
  rcases h with ⟨m, hm⟩ | ⟨hm, hr, hn⟩
  · simp only [State.pumpControl, PortState.sendReply_of_tx hm, hm]
  · simp only [State.pumpControl, PortState.sendReply_idle hm hr, hm, hn]
    rw [← hn]

theorem State.pumpSuite_of_chose {s : State} (h : s.SuiteChose) : s.pumpSuite = s := by
  rcases h with ⟨m, hm⟩ | ⟨hm, hr, hn⟩
  · simp only [State.pumpSuite, PortState.sendReply_of_tx hm, hm]
  · simp only [State.pumpSuite, PortState.sendReply_idle hm hr, hm, hn]

theorem State.pumpSuite_controlChose {s : State} (h : s.ControlChose) :
    s.pumpSuite.ControlChose := by
  unfold State.ControlChose
  rw [s.pumpSuite_control, s.pumpSuite_notices]
  exact h

/-- The transmitters that have chosen choose nothing more. -/
theorem State.pump_pump (s : State) : s.pump.pump = s.pump := by
  have hc : s.pump.ControlChose := State.pumpSuite_controlChose s.pumpControl_chose
  have hs : s.pump.SuiteChose := State.pumpSuite_chose _
  rw [State.pump, State.pumpControl_of_chose hc, State.pumpSuite_of_chose hs]

/-! ### A message sent -/

/-- With the flash busy or no work waiting the store arbiter begins nothing. -/
theorem State.arbitrate_settled {s : State} (h : s.settled) : s.arbitrate = s := by
  unfold State.arbitrate
  rcases h with hop | ⟨hsave, hclear, hreads, hwrite⟩
  · rw [if_pos hop]
  split
  · rfl
  have hw : s.beginWrite = s := by
    unfold State.beginWrite
    rcases hwrite with hst | ⟨ha, hf, hq⟩
    · rw [if_pos hst]
    · simp [State.writable, ha, State.eligibleHead, hq]
  rw [if_neg (by simp [hsave, hclear]), if_neg (by simp [hreads]), hw]
  unfold State.beginRead
  rw [hreads]
  split
  · rename_i heq; cases heq
  · rfl

/-- The oldest reply goes out when its port is free. -/
theorem PortState.sendReply_cons {x : PortState} {r : Reply} {rs : List Reply} (ht : x.tx = none)
    (hr : x.replies = r :: rs) : x.sendReply = { x with
      tx := some (.reply r), replies := rs, outstanding := dropOutstanding r x.outstanding } := by
  rw [PortState.sendReply, ht, hr]

/-- A notice leaves the queue exactly when the control port is free and has no reply to send. -/
theorem State.pumpControl_notices (s : State) : s.pumpControl.notices =
    if s.control.tx = none ∧ s.control.replies = [] then s.notices.tail else s.notices := by
  have hfree : s.control.sendReply.tx = none ↔ s.control.tx = none ∧ s.control.replies = [] := by
    cases ht : s.control.tx with
    | some m => simp [PortState.sendReply_of_tx ht, ht]
    | none =>
      cases hr : s.control.replies with
      | nil => simp [PortState.sendReply_idle ht hr, ht]
      | cons r rs => simp [PortState.sendReply_cons ht hr]
  rw [if_congr hfree.symm rfl rfl]
  unfold State.pumpControl
  dsimp only
  split
  · rename_i n ns ht hn
    rw [if_pos ht, hn]
    rfl
  · rename_i hno
    split
    · rename_i ht
      cases hn : s.notices with
      | nil => rfl
      | cons n ns => exact absurd hn (hno n ns ht)
    · rfl

theorem State.pump_notices (s : State) : s.pump.notices =
    if s.control.tx = none ∧ s.control.replies = [] then s.notices.tail else s.notices :=
  s.pumpControl.pumpSuite_notices.trans s.pumpControl_notices

theorem State.pumpControl_suite (s : State) : s.pumpControl.suite = s.suite := by
  unfold State.pumpControl
  dsimp only
  split <;> rfl

/-- A free port with a reply to send begins the oldest. -/
theorem State.pump_port {s : State} {p : Port} {r : Reply} {rs : List Reply}
    (ht : (s.port p).tx = none) (hr : (s.port p).replies = r :: rs) :
    (s.pump.port p).tx = some (.reply r) ∧ (s.pump.port p).replies = rs := by
  cases p with
  | control =>
    have hc : s.pump.control = s.control.sendReply := by
      rw [State.pump, State.pumpSuite_control, State.pumpControl]
      simp only [PortState.sendReply_cons (x := s.control) ht hr]
    show s.pump.control.tx = _ ∧ s.pump.control.replies = _
    rw [hc, PortState.sendReply_cons (x := s.control) ht hr]
    exact ⟨rfl, rfl⟩
  | suite =>
    have hs : s.pump.suite = s.suite.sendReply := by
      rw [State.pump, State.pumpSuite]
      simp only [s.pumpControl_suite, PortState.sendReply_cons (x := s.suite) ht hr]
    show s.pump.suite.tx = _ ∧ s.pump.suite.replies = _
    rw [hs, PortState.sendReply_cons (x := s.suite) ht hr]
    exact ⟨rfl, rfl⟩

/-- What has been sent when it was a notice: the port is free, and nothing else is to be done. -/
theorem exec_messageSent_notice {s : State} {p : Port} {m : Message}
    (h : (s.port p).tx = some (.notice m)) (hset : s.settled) :
    exec (.messageSent p) s = finish (s.modPort p fun x => { x with tx := none }) := by
  have hset' : (s.modPort p fun x => { x with tx := none }).settled := by cases p <;> exact hset
  show execMessageSent p s = _
  rw [execMessageSent, h]
  show finish (s.modPort p fun x => { x with tx := none }).arbitrate = _
  rw [State.arbitrate_settled hset']

theorem notice_sent {s : State} {p : Port} {m : Message} {r : Reply} {rs : List Reply}
    (h : (s.port p).tx = some (.notice m)) (hr : (s.port p).replies = r :: rs) (hset : s.settled) :
    ∃ t, exec (.messageSent p) s = .next t ∧ (t.port p).tx = some (.reply r) ∧
      (t.port p).replies = rs ∧ t.notices = (if p = .suite ∧ s.control.tx = none ∧
        s.control.replies = [] then s.notices.tail else s.notices) ∧ t.inner = s.inner := by
  have hport : ((s.modPort p fun x => { x with tx := none }).port p).tx = none ∧
      ((s.modPort p fun x => { x with tx := none }).port p).replies = r :: rs := by
    cases p <;> exact ⟨rfl, hr⟩
  obtain ⟨htx, hrs⟩ := State.pump_port hport.1 hport.2
  refine ⟨_, exec_messageSent_notice h hset, htx, hrs, ?_, ?_⟩
  · rw [State.pump_notices]
    cases p with
    | control =>
      have hno : ¬ ((s.modPort .control fun x => { x with tx := none }).control.tx = none ∧
          (s.modPort .control fun x => { x with tx := none }).control.replies = []) := by
        rintro ⟨-, hnil⟩
        exact List.cons_ne_nil r rs (hr.symm.trans hnil)
      rw [if_neg hno, if_neg (by simp)]
      rfl
    | suite =>
      show (if s.control.tx = none ∧ s.control.replies = [] then s.notices.tail else s.notices) = _
      simp
  · rw [State.inner_pump]
    exact s.inner_modPort p _ fun _ => rfl

/-! ### The last byte of a request -/

/-- A frame that spells a request has exactly the request's meaning. -/
theorem takeFrame_request {i : Instr} {q : Req} {k : Nat} {fs : List Field} (hwf : i.wf = true)
    (hq : reqOf i = some q) (hf : requestFields i = some (k, fs)) (s : State) :
    finish (takeFrame q.port s ⟨k, q.more, q.tag, encodeFields fs⟩) = exec i s := by
  have hread := readBack i q k fs hwf hq hf
  obtain ⟨htaken, layout, own, hexec, -⟩ := asks hq hf
  have htake : takeFrame q.port s ⟨k, q.more, q.tag, encodeFields fs⟩ =
      Out.state (takeRequest i s) s := by
    unfold decodeRequest at hread
    unfold takeFrame
    cases hp : requestParser ⟨q.port, q.tag, q.more⟩ k with
    | none => simp only [hp] at hread; cases hread
    | some parser =>
      simp only [hp] at hread ⊢
      rw [hread]
  rw [htake, htaken, hexec]
  exact congrArg Host.Outcome.next (State.pump_pump _)

theorem kind_lt {i : Instr} {k : Nat} {fs : List Field} (hf : requestFields i = some (k, fs)) :
    k < 128 := by
  cases i with
  | reset | settingsApply | logScanPageRead | scanComplete | originBoundary | unknownRequest
  | frameGapTimeout | messageSent | referenceEdge | acquisitionTimeout | referenceLoss
  | holdoverExpiry | lineFrameEdge | lineSenseChange | runSenseChange | beaconMark | pollDue
  | periodicExpiry | slotStart | echoReceived | transactionEnd | commitDelayExpiry | pageWriteCheck
  | storeReadDone | settingsWriteDone | logEraseDone | portByteReceived => cases hf
  | _ => cases hf; decide

/-- The last byte of a request's frame has exactly the effect of the request. -/
theorem last_byte {i : Instr} {q : Req} {k : Nat} {fs : List Field} {s : State} {b : Byte}
    (hwf : i.wf = true) (hq : reqOf i = some q) (hf : requestFields i = some (k, fs))
    (hlen : (encodeFields fs).length ≤ 1022)
    (h : frameBytes k q.tag q.more (encodeFields fs) = (s.port q.port).rx ++ [b]) :
    exec (.portByteReceived q.port b true) s =
      exec i (s.modPort q.port fun x => { x with rx := [] }) := by
  have htag : q.tag < 256 := by simpa [holds] using req_wf_of_wf hq hwf
  rw [exec_byte, ← h, scanFrames_frame (kind_lt hf) htag hlen]
  exact takeFrame_request hwf hq hf _

/-- Settles O52: the framer on each beginning of a frame, the request its last byte spells, and the
transmitter's choice of the oldest reply. -/
theorem portBytesAndSending : Obligations.PortBytesAndSending := by
  intro p b rest s
  refine ⟨fun hrx hb => ?_, fun hrx => ?_, fun hrx hno hlen => ?_, fun i q k fs hwf hq hp hf hlen =>
    ⟨fun n hn hrx hget => ?_, fun h => ?_⟩, fun m r rs htx hr hset => notice_sent htx hr hset⟩
  · have h := byte_received (s := s) (p := p) (b := b) (bs := []) (by
      rw [hrx]; exact scanFrames_noStart (List.forall_mem_singleton.2 hb))
    rwa [State.modPort_rx_same hrx] at h
  · exact byte_received (by rw [hrx]; rfl)
  · have hflush : exec (.frameGapTimeout p) s = finish (s.takeFrames p [] []) := by
      show finish (s.takeFrames p (flushFrames (s.port p).rx.length (s.port p).rx) []) = _
      rw [hrx]
      exact congrArg (fun l => finish (s.takeFrames p l [])) (flushFrames_short hno hlen)
    rw [hflush]
    exact received_sent s p []
  · refine byte_received ?_
    have htake : (frameBytes k q.tag q.more (encodeFields fs)).take n ++ [b] =
        (frameBytes k q.tag q.more (encodeFields fs)).take (n + 1) := by
      rw [List.take_add_one, hget]
      rfl
    rw [hrx, htake]
    exact scanFrames_prefix hlen hn _
  · subst hp
    have hexec := last_byte hwf hq hf hlen h
    refine ⟨?_, hexec⟩
    obtain ⟨-, layout, own, hnext, -⟩ := asks hq hf
    rw [hexec, hnext]
    exact ⟨_, rfl⟩

end Sys2Proof.Machine
end

section
/-!
SUPPORT. The timeline's arithmetic: the rounding of R6, the constants of the rates table, the origins
of R37, wired source instants and the oscillator tick.
-/

namespace Sys2Proof.Machine

/-! ### The rates table -/

theorem dayOf_pos (code : Nat) : 0 < dayOf code := by
  have table : ∀ c ≤ 17, 0 < dayOf c := by decide
  by_cases h : code ≤ 17
  · exact table code h
  · simp [dayOf, rateOf, rateCodeOk, h]

theorem periodOf_bounds (code : Nat) : 20000 ≤ periodOf code ∧ periodOf code ≤ 100100 := by
  have table : ∀ c ≤ 17, 20000 ≤ periodOf c ∧ periodOf c ≤ 100100 := by decide
  by_cases h : code ≤ 17
  · exact table code h
  · simp [periodOf, rateOf, rateCodeOk, h]

theorem periodOf_pos (code : Nat) : 0 < periodOf code :=
  Nat.lt_of_lt_of_le (by decide) (periodOf_bounds code).1

/-- Every frame period divides the parts of a tick. -/
theorem periodOf_dvd {code : Nat} (h1 : 1 ≤ code) (h17 : code ≤ 17) :
    totalParts / periodOf code * periodOf code = totalParts := by
  have table : ∀ c ≤ 17, 1 ≤ c → totalParts / periodOf c * periodOf c = totalParts := by decide
  exact table code h17 h1

/-! ### Rounding (R6) -/

/-- A quotient of no negative number, rounded: half a divisor at most above it, less below it. -/
theorem roundDiv_of_nonneg {a b : Int} (ha : 0 ≤ a) (hb : 0 < b) :
    2 * (b * roundDiv a b - a) ≤ b ∧ -b < 2 * (b * roundDiv a b - a) ∧ 0 ≤ roundDiv a b := by
  have hq : roundDiv a b = (2 * a + b) / (2 * b) := if_pos ha
  have h1 := Int.mul_ediv_add_emod (2 * a + b) (2 * b)
  have h2 := Int.emod_nonneg (2 * a + b) (b := 2 * b) (by omega)
  have h3 := Int.emod_lt_of_pos (2 * a + b) (b := 2 * b) (by omega)
  have h4 : 0 ≤ (2 * a + b) / (2 * b) := Int.ediv_nonneg (by omega) (by omega)
  rw [hq]
  generalize (2 * a + b) % (2 * b) = r at *
  generalize (2 * a + b) / (2 * b) = q at *
  have h5 : 2 * b * q = 2 * (b * q) := by ring
  exact ⟨by omega, by omega, h4⟩

theorem roundDiv_neg {a : Int} (ha : a < 0) (b : Int) : roundDiv a b = -roundDiv (-a) b := by
  simp only [roundDiv, if_neg (not_le.2 ha), if_pos (show 0 ≤ -a by omega)]

/-- The rounding of R6 gives the nearest integer, a half going away from zero. -/
theorem nearest_roundDiv (a : Int) {b : Int} (hb : 0 < b) : Nearest (roundDiv a b) a b := by
  unfold Nearest
  by_cases ha : 0 ≤ a
  · obtain ⟨h1, h2, h3⟩ := roundDiv_of_nonneg ha hb
    have h4 : 0 ≤ b * roundDiv a b := Int.mul_nonneg hb.le h3
    rw [Int.mul_comm (roundDiv a b) b]
    generalize b * roundDiv a b = x at *
    omega
  · obtain ⟨h1, h2, h3⟩ := roundDiv_of_nonneg (a := -a) (by omega) hb
    have h4 : 0 ≤ b * roundDiv (-a) b := Int.mul_nonneg hb.le h3
    rw [roundDiv_neg (by omega), Int.neg_mul, Int.mul_comm (roundDiv (-a) b) b]
    generalize b * roundDiv (-a) b = x at *
    omega

/-! ### Frame starts of radio devices (R17, R18) -/

/-- Device ticks taken to house ticks and back: within one of what they were, and equal to it when the
device does not run fast. -/
theorem deviceElapsed_houseElapsed {r e : Int} (he : 0 ≤ e) (h1 : -10000 ≤ r) (h2 : r ≤ 10000) :
    (deviceElapsed r (houseElapsed r e) - e).natAbs ≤ 1 ∧
      (r ≤ 0 → deviceElapsed r (houseElapsed r e) = e) := by
  obtain ⟨ha, hb, hc⟩ := roundDiv_of_nonneg (a := e * rateUnit) (b := rateUnit + r)
    (Int.mul_nonneg he (by decide)) (by simp only [rateUnit]; omega)
  change 2 * ((rateUnit + r) * houseElapsed r e - _) ≤ _ at ha
  change _ < 2 * ((rateUnit + r) * houseElapsed r e - _) at hb
  change 0 ≤ houseElapsed r e at hc
  obtain ⟨hd, hf, -⟩ := roundDiv_of_nonneg (a := houseElapsed r e * (rateUnit + r)) (b := rateUnit)
    (Int.mul_nonneg hc (by simp only [rateUnit]; omega)) (by decide)
  change 2 * (rateUnit * deviceElapsed r (houseElapsed r e) - _) ≤ _ at hd
  change _ < 2 * (rateUnit * deviceElapsed r (houseElapsed r e) - _) at hf
  have hcomm : houseElapsed r e * (rateUnit + r) = (rateUnit + r) * houseElapsed r e := Int.mul_comm _ _
  have hzero : r = 0 → (rateUnit + r) * houseElapsed r e = rateUnit * houseElapsed r e := by
    rintro rfl
    rw [Int.add_zero]
  rw [hcomm] at hd hf
  generalize (rateUnit + r) * houseElapsed r e = x at *
  generalize deviceElapsed r (houseElapsed r e) = d at *
  simp only [rateUnit] at *
  omega

/-- Settles O4: a frame start lies a whole number of periods after the jam, and house ticks and back
lose at most one device tick of them. -/
theorem radioFrameRoundTrip : Obligations.RadioFrameRoundTrip := by
  intro code n n0 j r h1 h17 hn hn0 hr1 hr2
  have hday : (0 : Int) < dayOf code := Int.natCast_pos.2 (dayOf_pos code)
  have hper : (0 : Int) < periodOf code := Int.natCast_pos.2 (periodOf_pos code)
  have hk : 0 ≤ ((n : Int) - n0) % dayOf code := Int.emod_nonneg _ hday.ne'
  obtain ⟨hnear, heq⟩ := deviceElapsed_houseElapsed (Int.mul_nonneg hk hper.le) hr1 hr2
  have htick : radioTick code j n0 r n - j =
      houseElapsed r (((n : Int) - n0) % dayOf code * periodOf code) := by
    rw [radioTick]
    omega
  refine ⟨by rw [htick]; exact hnear, fun hr => ?_⟩
  have hcount : radioCount code j r (radioTick code j n0 r n) = ((n : Int) - n0) % dayOf code := by
    rw [radioCount, htick, heq hr, Int.mul_ediv_cancel _ hper.ne']
  refine ⟨?_, ?_⟩
  · rw [radioFrame, hcount, Int.add_emod_emod, add_sub_cancel,
      Int.emod_eq_of_lt (by omega) (by omega), Int.toNat_natCast]
  · rw [radioSub, htick, heq hr, Int.mul_emod_left]
    simp

/-! ### House origins (R37) -/

theorem emod_eq_iff_sub_emod {a b m : Int} (hb0 : 0 ≤ b) (hb : b < m) :
    a % m = b ↔ (a - b) % m = 0 := by
  rw [← Int.emod_eq_emod_iff_emod_sub_eq_zero, Int.emod_eq_of_lt hb0 hb]

/-- The least origin, of any size, that makes a label frame show (R37). -/
def leastOrigin (code n : Nat) (c : Int) : Int :=
  ((n : Int) * periodOf code - c) % ((dayOf code : Int) * periodOf code)

/-- House time shows a label frame at its start. -/
def shows (code n : Nat) (c : Int) (o : Int) : Prop :=
  (c + o) % ((dayOf code : Int) * periodOf code) = (n : Int) * periodOf code

theorem originFor_eq (code n : Nat) (c : Int) (current : Nat) : originFor code n c current =
    if ((current : Int) - leastOrigin code n c) % ((dayOf code : Int) * periodOf code) = 0 ∧
      current ≤ maxOrigin then some current
    else if (leastOrigin code n c).toNat ≤ maxOrigin then some (leastOrigin code n c).toNat
    else none := rfl

section
variable {code n : Nat} {c : Int}

theorem day_ticks_pos (code : Nat) : (0 : Int) < (dayOf code : Int) * periodOf code :=
  Int.mul_pos (Int.natCast_pos.2 (dayOf_pos code)) (Int.natCast_pos.2 (periodOf_pos code))

theorem leastOrigin_range : 0 ≤ leastOrigin code n c ∧
    leastOrigin code n c < (dayOf code : Int) * periodOf code :=
  ⟨Int.emod_nonneg _ (day_ticks_pos code).ne', Int.emod_lt_of_pos _ (day_ticks_pos code)⟩

/-- The origins that make a label frame show are the least one and those whole days after it. -/
theorem shows_iff (hn : n < dayOf code) (o : Int) : shows code n c o ↔
    (o - leastOrigin code n c) % ((dayOf code : Int) * periodOf code) = 0 := by
  have hper : (0 : Int) < periodOf code := Int.natCast_pos.2 (periodOf_pos code)
  have hlt : (n : Int) * periodOf code < (dayOf code : Int) * periodOf code :=
    Int.mul_lt_mul_of_pos_right (Int.ofNat_lt.2 hn) hper
  rw [shows, emod_eq_iff_sub_emod (Int.mul_nonneg (Int.natCast_nonneg n) hper.le) hlt, leastOrigin,
    Int.sub_emod_emod]
  congr! 2
  ring

/-- No origin that makes the label frame show is less than the least. -/
theorem leastOrigin_le (hn : n < dayOf code) {o : Nat} (h : shows code n c o) :
    leastOrigin code n c ≤ o := by
  rw [shows_iff hn] at h
  obtain ⟨h0, hlt⟩ := leastOrigin_range (code := code) (n := n) (c := c)
  by_contra hless
  have hneg : ((o : Int) - leastOrigin code n c + (dayOf code : Int) * periodOf code) %
      ((dayOf code : Int) * periodOf code) = (o : Int) - leastOrigin code n c +
        (dayOf code : Int) * periodOf code := Int.emod_eq_of_lt (by omega) (by omega)
  rw [Int.add_emod_right, h] at hneg
  omega

theorem leastOrigin_shows (hn : n < dayOf code) : shows code n c (leastOrigin code n c) := by
  rw [shows_iff hn]
  simp

end

/-- Settles O8: the candidates are the least origin and those whole days after it. -/
theorem originForLabel : Obligations.OriginForLabel := by
  intro code n c current h1 h17 hn hcur
  have hleast := leastOrigin_shows (c := c) hn
  obtain ⟨h0, -⟩ := leastOrigin_range (code := code) (n := n) (c := c)
  have hnat : ((leastOrigin code n c).toNat : Int) = leastOrigin code n c := Int.toNat_of_nonneg h0
  by_cases hc : shows code n c current
  · have hfound : originFor code n c current = some current := by
      rw [originFor_eq, if_pos ⟨(shows_iff hn _).1 hc, hcur⟩]
    rw [hfound]
    exact ⟨fun o ho => by cases ho; exact ⟨hcur, hc, fun _ => rfl, fun h => absurd hc h⟩, nofun⟩
  · have hno : ¬ (((current : Int) - leastOrigin code n c) %
        ((dayOf code : Int) * periodOf code) = 0 ∧ current ≤ maxOrigin) :=
      fun h => hc ((shows_iff hn _).2 h.1)
    rw [originFor_eq, if_neg hno]
    split
    · rename_i hmax
      refine ⟨fun o ho => ?_, nofun⟩
      cases ho
      refine ⟨hmax, by rw [hnat]; exact hleast, fun h => absurd h hc, fun _ o' ho' => ?_⟩
      have := leastOrigin_le hn ho'
      omega
    · rename_i hmax
      refine ⟨nofun, fun _ o' ho' hs => ?_⟩
      have := leastOrigin_le hn hs
      omega

/-! ### Wired source instants (R160) -/

/-- A frame start of a wired device is a whole number of periods less the phase. -/
theorem wiredCount_start (code phase : Nat) (m : Int) :
    wiredCount code phase (m * periodOf code - phase) = m := by
  rw [wiredCount, Int.sub_add_cancel,
    Int.mul_ediv_cancel _ (Int.natCast_pos.2 (periodOf_pos code)).ne']

/-- No fewer frames than the way forward modulo the day lead from `a` to `b`. -/
theorem forward_le {code : Nat} {a b m : Int} (hm : (a + m) % dayOf code = b) (hm0 : 0 ≤ m) : (b - a) % dayOf code ≤ m := by
  rw [← hm, Int.emod_sub_emod, add_sub_cancel_left]
  have hq : 0 ≤ m / (dayOf code : Int) := Int.ediv_nonneg hm0 (Int.natCast_nonneg _)
  have h := Int.mul_ediv_add_emod m (dayOf code)
  have := Int.mul_nonneg (Int.natCast_nonneg (dayOf code)) hq
  omega

/-- Settles O48: the instant is the start of the frame that lies the frames from the take's start to
the label frame after the frame at the take's start. -/
theorem wiredInstantShowsLabel : Obligations.WiredInstantShowsLabel := by
  intro p start fin n hradio h1 h17 hn
  have hper : (0 : Int) < periodOf p.rate := Int.natCast_pos.2 (periodOf_pos p.rate)
  have hday : (0 : Int) < dayOf p.rate := Int.natCast_pos.2 (dayOf_pos p.rate)
  obtain ⟨k, hk⟩ : ∃ k, wiredCount p.rate p.phase start = k := ⟨_, rfl⟩
  obtain ⟨x, hx⟩ : ∃ x : Int, (forward p.rate (wiredFrame p.rate p.phase p.origin start) n : Int) = x :=
    ⟨_, rfl⟩
  have hstart : k * periodOf p.rate ≤ start + p.phase ∧
      (start : Int) + p.phase < (k + 1) * periodOf p.rate := by
    rw [← hk]
    exact ⟨Int.ediv_mul_le _ hper.ne', Int.lt_ediv_add_one_mul_self _ hper⟩
  have hfwd : x = ((n : Int) - (k + p.origin)) % dayOf p.rate := by
    rw [← hx, forward, wiredFrame, hk, Int.toNat_of_nonneg (Int.emod_nonneg _ hday.ne'),
      Int.toNat_of_nonneg (Int.emod_nonneg _ hday.ne'), Int.sub_emod_emod]
  have hx0 : 0 ≤ x := hfwd ▸ Int.emod_nonneg _ hday.ne'
  refine ⟨(k + x) * periodOf p.rate - p.phase, ?_, ?_, ?_, ?_, fun t' hafter hedge hshows => ?_⟩
  · rw [Participant.instant, hradio, if_neg nofun, hk, hx]
  · rw [Int.sub_add_cancel, Int.mul_emod_left]
  · have hsum : (k + x + p.origin) % dayOf p.rate = n := by
      rw [hfwd, show ∀ y : Int, k + y + p.origin = k + p.origin + y from fun y => by ring,
        Int.add_emod_emod, add_sub_cancel, Int.emod_eq_of_lt (by omega) (by omega)]
    rw [wiredFrame, wiredCount_start, hsum, Int.toNat_natCast]
  · have hmul : (k + x) * (periodOf p.rate : Int) = k * periodOf p.rate + x * periodOf p.rate := by ring
    have hmul1 : (k + 1) * (periodOf p.rate : Int) = k * periodOf p.rate + periodOf p.rate := by ring
    have hxp : 0 ≤ x * (periodOf p.rate : Int) := Int.mul_nonneg hx0 hper.le
    omega
  · obtain ⟨m, hm⟩ : ∃ m, t' + p.phase = m * periodOf p.rate := by
      obtain ⟨m, hm⟩ := Int.dvd_of_emod_eq_zero hedge
      exact ⟨m, by rw [hm, Int.mul_comm]⟩
    have ht' : t' = m * periodOf p.rate - p.phase := by omega
    have hkm : k ≤ m := by
      have hlt : k * (periodOf p.rate : Int) < (m + 1) * periodOf p.rate := by
        have hmul1 : (m + 1) * (periodOf p.rate : Int) = m * periodOf p.rate + periodOf p.rate := by
          ring
        omega
      exact Int.lt_add_one_iff.1 (lt_of_mul_lt_mul_right hlt hper.le)
    have hmod : (k + p.origin + (m - k)) % dayOf p.rate = n := by
      have h0 := Int.emod_nonneg (m + p.origin) hday.ne'
      rw [ht', wiredFrame, wiredCount_start] at hshows
      rw [show k + p.origin + (m - k) = m + (p.origin : Int) by ring]
      omega
    have hle := forward_le hmod (by omega)
    rw [← hfwd] at hle
    have := Int.mul_le_mul_of_nonneg_right (show k + x ≤ m by omega) hper.le
    omega

/-! ### The oscillator tick (R26) -/

/-- Of less than a period of time the reached multiple is the one in it. -/
theorem reached_some {m t0 t1 b : Nat} (h0 : t0 < b) (h1 : b ≤ t1) (hm : b % m = 0)
    (hlt : t1 < t0 + m) : reached m t0 t1 = some b := by
  obtain ⟨k, rfl⟩ := Nat.dvd_of_mod_eq_zero hm
  have hdiv : t1 / m = k := by
    have hpos : 0 < m := by omega
    have hnext : (k + 1) * m = m * k + m := by ring
    exact Nat.div_eq_of_lt_le (by rw [Nat.mul_comm]; exact h1) (by omega)
  rw [reached, hdiv, Nat.mul_comm, if_pos h0]

theorem reached_none {m t0 t1 : Nat} (h : ∀ b, t0 < b → b ≤ t1 → b % m ≠ 0) :
    reached m t0 t1 = none := by
  rw [reached, if_neg]
  intro hlt
  exact h _ hlt (Nat.div_mul_le_self t1 m) (Nat.mul_mod_left _ _)

/-- The gain of a tick with a correction in progress or none. -/
theorem RefUnit.gain_eq {r : RefUnit} {c : Correction}
    (h : r.correction = some c ∨ (r.correction = none ∧ c.ticks = 0)) :
    r.gain = totalParts + (if r.state = .locked then 0 else r.set.trim * 3003) +
      c.ticks * (totalParts / c.period : Nat) := by
  rcases h with h | ⟨h, h0⟩
  · rw [RefUnit.gain, h]; rfl
  · rw [RefUnit.gain, h, h0]; simp [totalParts]

/-- A running total below the largest is kept exactly. -/
theorem Clock.advance_exact {c : Clock} {g : Int} (hg : 0 ≤ g) (hg2 : g ≤ 2 * totalParts)
    (hf : c.frac < totalParts) (hc : c.counter + 3 ≤ maxCounter) :
    (((c.advance g).counter * totalParts + (c.advance g).frac : Nat) : Int) =
      ((c.counter * totalParts + c.frac : Nat) : Int) + g ∧
    (c.advance g).counter ≤ c.counter + 2 := by
  obtain ⟨total, htotal⟩ : ∃ total : Nat,
      (total : Int) = ((c.counter * totalParts + c.frac : Nat) : Int) + g :=
    ⟨_, Int.toNat_of_nonneg (by omega)⟩
  have hcount : c.counter * totalParts + 3 * totalParts ≤ maxCounter * totalParts := by
    rw [← Nat.add_mul]
    exact Nat.mul_le_mul_right _ hc
  have hadv : c.advance g = ⟨total / totalParts, total % totalParts⟩ := by
    rw [Clock.advance, ← htotal, Int.toNat_natCast]
    exact if_neg (by omega)
  rw [hadv]
  refine ⟨?_, ?_⟩
  · rw [Nat.div_add_mod', htotal]
  · exact Nat.le_of_lt_succ (Nat.div_lt_of_lt_mul (by
      rw [Nat.mul_comm, Nat.succ_eq_add_one, Nat.add_mul, Nat.add_mul]
      omega))

theorem State.tick_line (s : State) {n : Nat} (hn : n < 16) : s.tick.line n = { s.line n with
    edgeDue := orElseKeep (s.edgeReached (s.line n) s.houseTime s.tick.houseTime)
      (s.line n).edgeDue } := by
  simp [State.line, State.tick, hn]
  rfl

/-- A line's frame edge is looked for only while the line is ACTIVE and bound to a device. -/
theorem State.edgeReached_active {s : State} {l : Line} {slot : Nat} {d : Device}
    (ha : l.state = .active) (hb : l.bound = some slot) (hd : s.dev slot = some d) (t0 t1 : Nat) :
    s.edgeReached l t0 t1 = (reached (periodOf d.set.rate) (t0 + d.set.phase)
      (t1 + d.set.phase)).map fun x => x - d.set.phase := by
  rw [State.edgeReached, ha, hb, Option.bind_some, hd]

theorem State.edgeReached_idle {s : State} {l : Line}
    (h : l.state ≠ .active ∨ ∀ slot, l.bound = some slot → s.dev slot = none) (t0 t1 : Nat) :
    s.edgeReached l t0 t1 = none := by
  unfold State.edgeReached
  split
  · rename_i d ha hd
    obtain ⟨slot, hb, hd⟩ := Option.bind_eq_some_iff.1 hd
    rcases h with h | h
    · exact absurd ha h
    · rw [h slot hb] at hd
      cases hd
  · rfl

/-- Settles O14: the gain of a tick is a whole number of parts, and the tick is so short that at most
one mark, slot boundary or frame start lies in it. -/
theorem tickGain : Obligations.TickGain := by
  intro c s h1 h17 hc hp hf hcount ht1 ht2 hticks
  obtain ⟨hp1, hp2⟩ := periodOf_bounds s.ref.set.rate
  have hdvd := periodOf_dvd h1 h17
  rw [← hp] at hdvd hp1 hp2
  have hgain := RefUnit.gain_eq hc
  obtain ⟨g, hg⟩ : ∃ g, totalParts / c.period = g := ⟨_, rfl⟩
  have hgb : g ≤ 15015000 := by
    rw [← hg]
    exact (Nat.div_le_div_left hp1 (by decide)).trans (by decide)
  have hshare : (c.ticks * (g : Int)).natAbs ≤ 1501500000 := by
    rw [Int.natAbs_mul, Int.natAbs_natCast]
    exact Nat.mul_le_mul hticks hgb
  rw [hg] at hgain hdvd
  have hgain0 : 0 ≤ s.ref.gain ∧ s.ref.gain ≤ 2 * totalParts := by
    rw [hgain]
    generalize c.ticks * (g : Int) = x at *
    simp only [totalParts]
    split <;> omega
  obtain ⟨htotal, hstep⟩ := Clock.advance_exact hgain0.1 hgain0.2 hf hcount
  have hshort : s.tick.houseTime ≤ s.houseTime + 2 := by
    show (s.clock.advance s.ref.gain).counter + s.origin ≤ s.clock.counter + s.origin + 2
    omega
  refine ⟨?_, (Clock.advance_ok _ _).2, fun h hl => ?_, fun h hl => ?_, fun h => ?_,
    fun b hb0 hb1 => ⟨fun hb => ?_, fun hb => ?_⟩, fun h => ?_, fun h => ?_,
    fun n slot d hn ha hb hd => ⟨fun b hb0 hb1 hedge => ?_, fun h => ?_⟩, fun n h => ?_, rfl⟩
  · have hd : (g : Int) * c.period = totalParts := by exact_mod_cast hdvd
    show (((s.clock.advance s.ref.gain).counter * totalParts +
      (s.clock.advance s.ref.gain).frac : Nat) : Int) * 100000000 * c.period = _
    rw [htotal, hgain]
    have hparts : (totalParts : Int) = 3003 * 100000000 := by decide
    split
    · linear_combination (100000000 * c.ticks) * hd
    · linear_combination (100000000 * c.ticks) * hd - (s.ref.set.trim * c.period) * hparts
  · show s.ref.correction.bind Correction.next = none
    rw [h]
    exact if_pos hl
  · show s.ref.correction.bind Correction.next = _
    rw [h]
    exact if_neg (by omega)
  · show s.ref.correction.bind Correction.next = none
    rw [h]
    rfl
  · show orElseKeep (reached 2400000 s.houseTime s.tick.houseTime) _ = _
    rw [reached_some hb0 hb1 hb (by omega)]
    rfl
  · show orElseKeep (reached 120000 s.houseTime s.tick.houseTime) _ = _
    rw [reached_some hb0 hb1 hb (by omega)]
    rfl
  · show orElseKeep (reached 2400000 s.houseTime s.tick.houseTime) _ = _
    rw [reached_none h]
    rfl
  · show orElseKeep (reached 120000 s.houseTime s.tick.houseTime) _ = _
    rw [reached_none h]
    rfl
  · obtain ⟨hper, -⟩ := periodOf_bounds d.set.rate
    rw [State.tick_line s hn, State.edgeReached_active ha hb hd,
      reached_some (b := b + d.set.phase) (by omega) (by omega) hedge (by omega)]
    simp [orElseKeep]
  · rw [State.tick_line s hn, State.edgeReached_active ha hb hd, reached_none]
    · rfl
    · intro b hb0 hb1 hm
      refine h (b - d.set.phase) (by omega) (by omega) ?_
      rw [Nat.sub_add_cancel (by omega)]
      exact hm
  · by_cases hn : n < 16
    · rw [State.tick_line s hn, State.edgeReached_idle h]
      rfl
    · simp [State.line, State.tick, hn]

end Sys2Proof.Machine
end

section
/-!
SUPPORT. Requests posted one after another, and what a step or an origin change leaves.
-/

namespace Sys2Proof.Machine

/-! ### Requests posted -/

section
variable {r r' : Radio} {c c1 c2 : ReqClass} {slot : Nat} {frame : Option Nat}

theorem Radio.waits_iff : r.waits c slot = true ↔ ∃ x ∈ r.requests, x.cls = c ∧ x.slot = slot := by
  simp [Radio.waits]

theorem Radio.post_waiting (h : r.waits c slot = true) : r.post c slot frame = { r with
    requests := r.requests.map fun x =>
      if x.cls = c ∧ x.slot = slot then { x with frame := frame } else x } := if_pos h

theorem Radio.post_fresh (h : r.waits c slot = false) : r.post c slot frame = { r with
    requests := r.requests ++ [⟨c, slot, frame, r.nextAge⟩], nextAge := r.nextAge + 1 } :=
  if_neg (by simp [h])

/-- A posted request waits. -/
theorem Radio.mem_post (r : Radio) (c : ReqClass) (slot : Nat) (frame : Option Nat) :
    ∃ x ∈ (r.post c slot frame).requests, x.cls = c ∧ x.slot = slot := by
  cases h : r.waits c slot with
  | false =>
    rw [Radio.post_fresh h]
    exact ⟨_, List.mem_append_right _ (List.mem_singleton_self _), rfl, rfl⟩
  | true =>
    obtain ⟨x, hx, hc⟩ := Radio.waits_iff.1 h
    rw [Radio.post_waiting h]
    exact ⟨_, List.mem_map_of_mem hx, by simp [hc]⟩

theorem OnlyPosted.refl (r : Radio) (c1 c2 : ReqClass) : OnlyPosted r r c1 c2 :=
  ⟨rfl, fun x hx => ⟨x, hx, rfl, rfl, rfl⟩, fun _ hx _ _ => hx, fun _ hx _ _ => hx⟩

/-- Every request waits on with its class, slot and age. -/
theorem OnlyPosted.kept (h : OnlyPosted r r' c1 c2) {x : Request} (hx : x ∈ r.requests) :
    ∃ y ∈ r'.requests, y.cls = x.cls ∧ y.slot = x.slot ∧ y.age = x.age := h.2.1 x hx

theorem OnlyPosted.opened (h : OnlyPosted r r' c1 c2) : r'.opened = r.opened := by rw [h.1]

theorem OnlyPosted.flight (h : OnlyPosted r r' c1 c2) : r'.flight = r.flight := by rw [h.1]

theorem OnlyPosted.trans {r'' : Radio} (h : OnlyPosted r r' c1 c2) (g : OnlyPosted r' r'' c1 c2) :
    OnlyPosted r r'' c1 c2 := by
  obtain ⟨hr, hkeep, hother, hback⟩ := h
  obtain ⟨gr, gkeep, gother, gback⟩ := g
  refine ⟨?_, fun x hx => ?_, fun x hx n1 n2 => gother x (hother x hx n1 n2) n1 n2,
    fun x hx n1 n2 => hback x (gback x hx n1 n2) n1 n2⟩
  · rw [gr, hr]
  · obtain ⟨y, hy, h1, h2, h3⟩ := hkeep x hx
    obtain ⟨z, hz, g1, g2, g3⟩ := gkeep y hy
    exact ⟨z, hz, g1.trans h1, g2.trans h2, g3.trans h3⟩

/-- A post of one of the two classes. -/
theorem Radio.post_onlyPosted (r : Radio) (slot : Nat) (frame : Option Nat) (hc : c = c1 ∨ c = c2) :
    OnlyPosted r (r.post c slot frame) c1 c2 := by
  cases h : r.waits c slot with
  | false =>
    rw [Radio.post_fresh h]
    refine ⟨rfl, fun x hx => ⟨x, List.mem_append_left _ hx, rfl, rfl, rfl⟩,
      fun x hx _ _ => List.mem_append_left _ hx, fun y hy n1 n2 => ?_⟩
    rcases List.mem_append.1 hy with hy | hy
    · exact hy
    · obtain rfl := List.mem_singleton.1 hy
      exact (hc.elim n1 n2).elim
  | true =>
    rw [Radio.post_waiting h]
    refine ⟨rfl, fun x hx => ⟨_, List.mem_map_of_mem hx, ?_⟩, fun x hx n1 n2 => ?_,
      fun y hy n1 n2 => ?_⟩
    · split <;> exact ⟨rfl, rfl, rfl⟩
    · refine List.mem_map.2 ⟨x, hx, if_neg ?_⟩
      rintro ⟨rfl, -⟩
      exact hc.elim n1 n2
    · obtain ⟨x, hx, rfl⟩ := List.mem_map.1 hy
      split at n1
      · rename_i hm
        exact absurd hc (not_or.2 ⟨hm.1 ▸ n1, by rw [if_pos hm] at n2; exact hm.1 ▸ n2⟩)
      · rename_i hm
        rwa [if_neg hm]

end

/-- One request of a class posted for each of a list of devices. -/
def State.postAll (s : State) (c : ReqClass) (l : List (Nat × Device)) : State :=
  l.foldl (fun t x => t.post c x.1) s

section
variable (s : State) (c : ReqClass) (l : List (Nat × Device))

theorem State.postAll_eq : s.postAll c l = { s with radio := (s.postAll c l).radio } := by
  induction l generalizing s with
  | nil => rfl
  | cons x l ih => exact ih (s.post c x.1)

theorem State.postAll_onlyPosted {c1 c2 : ReqClass} (hc : c = c1 ∨ c = c2) :
    OnlyPosted s.radio (s.postAll c l).radio c1 c2 := by
  induction l generalizing s with
  | nil => exact .refl _ _ _
  | cons x l ih => exact (Radio.post_onlyPosted s.radio x.1 none hc).trans (ih (s.post c x.1))

theorem State.mem_postAll {x : Nat × Device} (hx : x ∈ l) :
    ∃ y ∈ (s.postAll c l).radio.requests, y.cls = c ∧ y.slot = x.1 := by
  induction l generalizing s with
  | nil => cases hx
  | cons z l ih =>
    rcases List.mem_cons.1 hx with rfl | hx
    · obtain ⟨y, hy, hyc, hys⟩ := s.radio.mem_post c x.1 none
      obtain ⟨w, hw, hwc, hws, -⟩ :=
        ((s.post c x.1).postAll_onlyPosted c l (c1 := c) (c2 := c) (.inl rfl)).kept hy
      exact ⟨w, hw, hwc.trans hyc, hws.trans hys⟩
    · exact ih (s.post c z.1) hx

end

/-! ### Steps and origin changes -/

/-- A device's live state after a change of time. -/
def Device.moved (d : Device) (a : Int) : Device :=
  if d.isRadio ∧ d.live.jam.isSome then { d with live := d.live.shift a } else d

theorem Radio.abandon_closed (r : Radio) : r.abandon.opened = false ∧ r.abandon.flight = none := by
  unfold Radio.abandon
  dsimp only
  cases hf : r.flight with
  | none => exact ⟨rfl, rfl⟩
  | some t =>
    dsimp only
    split
    · exact ⟨rfl, rfl⟩
    · unfold Radio.restore
      split <;> exact ⟨rfl, rfl⟩

section
variable (s : State) (a : Int)

/-- The state in which the DRIFT requests of a time change are posted. -/
def State.timeMoved : State := { s with
  radio := { s.radio.abandon with markDue := none, slotDue := none }
  marks := 0
  slots := s.slots.map fun o => o.map fun d => d.moved a
  lines := s.lines.map fun l => { l with edgeDue := none } }

theorem State.timeChange_eq : s.timeChange a =
    (s.timeMoved a).postAll .drift (s.declared.filter fun x => x.2.rejamsAtChange) := rfl

theorem State.timeChange_marks : (s.timeChange a).marks = 0 := by
  rw [State.timeChange_eq, State.postAll_eq]
  rfl

theorem State.timeChange_dev (i : Nat) : (s.timeChange a).dev i = (s.dev i).map fun d => d.moved a := by
  refine State.dev_mapSlots (s := s) ?_ i
  rw [State.timeChange_eq, State.postAll_eq]
  rfl

/-- A change of time ends the radio second and what is in flight (R78). -/
theorem State.timeChange_closed :
    (s.timeChange a).radio.opened = false ∧ (s.timeChange a).radio.flight = none := by
  have h := (s.timeMoved a).postAll_onlyPosted .drift
    (s.declared.filter fun x => x.2.rejamsAtChange) (c1 := .drift) (c2 := .drift) (.inl rfl)
  rw [State.timeChange_eq, h.opened, h.flight]
  exact s.radio.abandon_closed

/-- A DRIFT request waits for every device that a change of time re-jams (R115). -/
theorem State.timeChange_drift {i : Nat} {d : Device} (hd : s.dev i = some d)
    (h : d.rejamsAtChange = true) :
    ∃ x ∈ (s.timeChange a).radio.requests, x.cls = .drift ∧ x.slot = i := by
  rw [State.timeChange_eq]
  exact State.mem_postAll _ _ _ (x := (i, d))
    (List.mem_filter.2 ⟨(State.mem_declared s (i, d)).2 hd, h⟩)

theorem State.timeChange_mum : Mum s (s.timeChange a) := .of_eq (by simp) (by simp) (by simp)

theorem State.timeChange_noReply : NoReply s (s.timeChange a) := .of_eq (by simp) (by simp)

end

/-- What a device keeps over a change of time. -/
theorem Device.moved_kept (d : Device) (a : Int) : (d.moved a).set = d.set ∧
    (d.moved a).live.state = d.live.state ∧ (d.moved a).live.rate = d.live.rate ∧
    (d.moved a).live.age = d.live.age ∧ (d.moved a).live.predicted = d.live.predicted ∧
    (d.isRadio = true → (d.moved a).live.jam = d.live.jam.map fun x => (x.1 + a, x.2)) := by
  unfold Device.moved
  split
  · exact ⟨rfl, rfl, rfl, rfl, rfl, fun _ => rfl⟩
  · rename_i h
    refine ⟨rfl, rfl, rfl, rfl, rfl, fun hr => ?_⟩
    cases hj : d.live.jam with
    | none => rfl
    | some x => exact absurd ⟨hr, by simp [hj]⟩ h

/-! ### New origins (R39) -/

/-- An origin that is the current one changes nothing. -/
theorem State.setOriginAt_same (s : State) (c : Int) (cause : Nat) :
    s.setOriginAt s.origin c cause = s := if_pos rfl

theorem State.setOriginAt_new {s : State} {o : Nat} (h : o ≠ s.origin) (c : Int) (cause : Nat) :
    s.setOriginAt o c cause = (({ s with origin := o }).timeChange ((o : Int) - s.origin)).notify 0x44
      ([fTick s.origin, fTick o, fByte cause, fTick c] ++ fLabel (houseLabel s.house (c + o))) :=
  if_neg h

/-- What a new origin leaves: everything but the origin and what a change of time touches. -/
theorem State.setOriginAt_spec (s : State) (o : Nat) (c : Int) (cause : Nat) :
    (s.setOriginAt o c cause).origin = o ∧ (s.setOriginAt o c cause).clock = s.clock ∧
    (s.setOriginAt o c cause).ref = s.ref ∧ (s.setOriginAt o c cause).units = s.units ∧
    (s.setOriginAt o c cause).takes = s.takes ∧ (s.setOriginAt o c cause).store = s.store ∧
    (s.setOriginAt o c cause).flash = s.flash ∧
    (s.setOriginAt o c cause).profiles = s.profiles ∧ NoReply s (s.setOriginAt o c cause) := by
  by_cases h : o = s.origin
  · subst h
    rw [State.setOriginAt_same]
    exact ⟨rfl, rfl, rfl, rfl, rfl, rfl, rfl, rfl, NoReply.refl s⟩
  · rw [State.setOriginAt_new h]
    refine ⟨by simp, by simp, by simp, by simp, by simp, by simp, by simp, by simp, ?_⟩
    exact ((NoReply.of_eq (s := s) (t := { s with origin := o }) rfl rfl).trans
      (State.timeChange_noReply _ _)).trans (noReply_notify _ _ _)

/-- A changed origin ends the radio second, makes the marks since the change 0 and is announced. -/
theorem State.setOriginAt_changed {s : State} {o : Nat} (h : o ≠ s.origin) (c : Int) (cause : Nat) :
    (s.setOriginAt o c cause).marks = 0 ∧ (s.setOriginAt o c cause).radio.opened = false ∧
    (s.setOriginAt o c cause).radio.flight = none ∧
    Raised s (s.setOriginAt o c cause) 0x44 ([fTick s.origin, fTick o, fByte cause, fTick c] ++
      fLabel (houseLabel s.house (c + o))) := by
  obtain ⟨hopened, hflight⟩ := State.timeChange_closed { s with origin := o } ((o : Int) - s.origin)
  rw [State.setOriginAt_new h]
  refine ⟨?_, ?_, ?_, ?_⟩
  · rw [State.notify_marks, State.timeChange_marks]
  · rw [State.notify_radio, hopened]
  · rw [State.notify_radio, hflight]
  · exact ((Mum.of_eq (s := s) (t := { s with origin := o }) rfl rfl rfl).trans
      (State.timeChange_mum _ _)).raised (State.raised_notify _ _ _)

end Sys2Proof.Machine
end

section
/-!
SUPPORT. Reference edges: which are used, how a used one is corrected, and what the correction and a
step leave.
-/

namespace Sys2Proof.Machine

/-! ### Errors and intervals (R27) -/

/-- An error is house time less a whole number of periods, within half a period. -/
theorem reduceError_spec {p : Nat} (hp : 0 < p) (x : Int) :
    (∃ k : Int, reduceError p x = x - k * p) ∧ -(p : Int) < 2 * reduceError p x ∧
      2 * reduceError p x ≤ p := by
  have h0 := Int.emod_nonneg x (b := p) (by omega)
  have h1 := Int.emod_lt_of_pos x (b := p) (by omega)
  have h2 := Int.mul_ediv_add_emod x p
  have hm : x / (p : Int) * p = p * (x / (p : Int)) := Int.mul_comm _ _
  have he : reduceError p x = if (p : Int) < 2 * (x % p) then x % p - p else x % p := rfl
  rw [he]
  split
  · exact ⟨⟨x / p + 1, by rw [Int.add_mul]; omega⟩, by omega, by omega⟩
  · exact ⟨⟨x / p, by omega⟩, by omega, by omega⟩

theorem regular_iff {p m d : Nat} :
    regular p m d = true ↔ ((d : Int) - m * p).natAbs ≤ p / 100 := by
  simp [regular]

/-- An interval within a hundredth of a period of one, two or three periods has that count. -/
theorem regularCount_some {p m d : Nat} (hp : 20000 ≤ p) (h1 : 1 ≤ m) (h3 : m ≤ 3)
    (h : ((d : Int) - m * p).natAbs ≤ p / 100) : regularCount p d = some m := by
  have hm : m = 1 ∨ m = 2 ∨ m = 3 := by omega
  unfold regularCount
  simp only [regular_iff]
  rcases hm with rfl | rfl | rfl
  · rw [if_pos h]
  · rw [if_neg (by push_cast at h ⊢; omega), if_pos h]
  · rw [if_neg (by push_cast at h ⊢; omega), if_neg (by push_cast at h ⊢; omega), if_pos h]

theorem regularCount_none {p d : Nat}
    (h : ∀ m : Int, 1 ≤ m → m ≤ 3 → p / 100 < ((d : Int) - m * p).natAbs) :
    regularCount p d = none := by
  unfold regularCount
  simp only [regular_iff]
  have h1 := h 1 (by decide) (by decide)
  have h2 := h 2 (by decide) (by decide)
  have h3 := h 3 (by decide) (by decide)
  rw [if_neg (by push_cast at h1 ⊢; omega), if_neg (by push_cast at h2 ⊢; omega),
    if_neg (by push_cast at h3 ⊢; omega)]

theorem clamp_eq {lo hi : Int} (h : lo ≤ hi) (x : Int) : clamp lo hi x = max lo (min hi x) := by
  unfold clamp
  split
  · omega
  · split <;> omega

/-- The correction begun: the negated error limited to the slew limit. -/
theorem RefSettings.slewOf_spec (r : RefSettings) (e : Int) :
    (r.slewOf e).natAbs ≤ r.slew ∧ (e.natAbs ≤ r.slew → r.slewOf e = -e) ∧
      (r.slew < e.natAbs → r.slewOf e = if e < 0 then (r.slew : Int) else -(r.slew : Int)) := by
  rw [RefSettings.slewOf, clamp_eq (by omega)]
  refine ⟨by omega, fun h => by omega, fun h => ?_⟩
  split <;> omega

/-! ### The correction list and the trim (R34) -/

/-- The list with the periods that end. -/
theorem RefUnit.closePeriod_eq {r : RefUnit} {m : Nat} {l : List (Int × Nat)}
    (hl : l = r.list ++ [(if r.correction.isSome then 0 else r.begun, m)]) :
    r.closePeriod m = { r with
      list := l.drop (l.length - 64)
      set := { r.set with trim := trimOf r.period (l.drop (l.length - 64)) } } := by
  subst hl
  rfl

/-- The periods of a list that ends in one are at least one. -/
theorem periods_pos (l : List (Int × Nat)) (x : Int) {m : Nat} (hm : 1 ≤ m) :
    0 < (((l ++ [(x, m)]).drop ((l ++ [(x, m)]).length - 64)).map fun y => (y.2 : Int)).sum := by
  have hle : (l ++ [(x, m)]).length - 64 ≤ l.length := by simp
  rw [List.drop_append_of_le_length hle, List.map_append, List.sum_append]
  have h0 : 0 ≤ ((l.drop ((l ++ [(x, m)]).length - 64)).map fun y => (y.2 : Int)).sum := by
    refine List.sum_nonneg fun z hz => ?_
    obtain ⟨y, -, rfl⟩ := List.mem_map.1 hz
    exact Int.natCast_nonneg _
  simp only [List.map_cons, List.map_nil, List.sum_cons, List.sum_nil]
  omega

/-- The trim is the list's corrections over its periods in 0.01 ppm, to the nearest, limited. -/
theorem trimOf_spec {p : Nat} (hp : 0 < p) {l : List (Int × Nat)}
    (hl : 0 < (l.map fun y => (y.2 : Int)).sum) : ∃ q,
      Nearest q (100000000 * (l.map Prod.fst).sum) (p * (l.map fun x => (x.2 : Int)).sum) ∧
      trimOf p l = max (-5000) (min 5000 q) :=
  ⟨_, nearest_roundDiv _ (Int.mul_pos (Int.natCast_pos.2 hp) hl), clamp_eq (by decide) _⟩

/-! ### Edges that belong and edges that do not (R25) -/

/-- An edge at the source's input, with the label frame it carries. -/
def EdgeAt (r : RefSettings) (i : EdgeInput) (lab : Option Nat) : Prop :=
  (r.source = .housePulse ∧ i = .housePulse ∧ lab = none) ∨
    (r.source = .ltcIn ∧ ∃ l, i = .timecode l ∧
      lab = if labelOk r.rate l then some (frameOf r.rate l) else none)

/-- The state's rule for an edge at its source's input. -/
def State.edgeRule (s : State) (label : Option Nat) : State :=
  match s.ref.state with
  | .free | .holdover => s.startAcquiring label
  | .acquiring => s.acquireEdge label
  | .locked => s.lockedEdge label

theorem exec_edge {s : State} {i : EdgeInput} {lab : Option Nat} (h : EdgeAt s.ref.set i lab) :
    exec (.referenceEdge i) s = finish (s.edgeRule lab) := by
  show finish (if edgeBelongs s.ref.set.source i then s.edgeRule (edgeLabel s.ref.set.rate i) else s) = _
  rcases h with ⟨hs, rfl, rfl⟩ | ⟨hs, l, rfl, rfl⟩ <;> rw [hs] <;> rfl

theorem exec_edge_ignored {s : State} {i : EdgeInput}
    (h : edgeBelongs s.ref.set.source i = false) : exec (.referenceEdge i) s = finish s := by
  show finish (if edgeBelongs s.ref.set.source i then s.edgeRule (edgeLabel s.ref.set.rate i) else s) = _
  rw [h]
  rfl

theorem State.edgeRule_locked {s : State} (h : s.ref.state = .locked) (lab : Option Nat) :
    s.edgeRule lab = s.lockedEdge lab := by rw [State.edgeRule, h]

theorem State.edgeRule_acquiring {s : State} (h : s.ref.state = .acquiring) (lab : Option Nat) :
    s.edgeRule lab = s.acquireEdge lab := by rw [State.edgeRule, h]

theorem State.edgeRule_free {s : State} (h : s.ref.state = .free ∨ s.ref.state = .holdover)
    (lab : Option Nat) : s.edgeRule lab = s.startAcquiring lab := by
  rcases h with h | h <;> rw [State.edgeRule, h]

/-! ### Used edges (R31, R32, R40) -/

section
variable {s : State} {prev label : Option Nat} {m : Nat} {c : Int}

/-- No origin is taken from timecode. -/
def State.KeepsOrigin (s : State) : Prop :=
  s.ref.set.source ≠ .ltcIn ∨ s.ref.pendingOrigin = false ∨ s.anyTakeOpen = true

theorem State.takeLtcOrigin_none (h : s.KeepsOrigin) : s.takeLtcOrigin prev label m c = s := by
  unfold State.takeLtcOrigin
  split
  · refine if_neg fun hc => ?_
    obtain ⟨hs, hp, -, ht⟩ := hc
    rcases h with h | h | h
    · exact h hs
    · rw [h] at hp; cases hp
    · rw [h] at ht; cases ht
  · rfl

theorem State.useEdge_slewed (hs : s.slews s.edgeError = true) (h : s.KeepsOrigin) :
    s.useEdge prev label m = s.slewEdge s.edgeError label := by
  unfold State.useEdge State.correctEdge
  dsimp only
  rw [if_pos hs]
  exact State.takeLtcOrigin_none h

/-- An edge used in LOCKED. -/
theorem State.lockedEdge_used {u : UsedEdge} (hu : s.ref.lastUsed = some u)
    (hm : regularCount s.ref.period (s.clock.counter - u.counter) = some m) (label : Option Nat) :
    s.lockedEdge label = ({ s with ref := s.ref.closePeriod m }).useEdge u.label label m := by
  unfold State.lockedEdge
  simp only [hu, hm]

theorem State.lockedEdge_ignored {u : UsedEdge} (hu : s.ref.lastUsed = some u)
    (hm : regularCount s.ref.period (s.clock.counter - u.counter) = none) (label : Option Nat) :
    s.lockedEdge label = s := by
  unfold State.lockedEdge
  simp only [hu, hm]

theorem State.slews_iff (s : State) (e : Int) : s.slews e = true ↔
    e.natAbs ≤ s.ref.set.threshold ∨ s.anyTakeOpen = true := by
  simp [State.slews]

end

theorem finish_quiet {s u : State} (h : u = s) : ∃ t, finish u = .next t ∧ t.inner = s.inner ∧
    NoReply s t ∧ Silent s t := by
  subst h
  exact ⟨_, rfl, State.inner_pump _, noReply_pump _, silent_pump _⟩

/-- An update of the reference unit that says nothing. -/
theorem finish_ref {s : State} {r : RefUnit} : ∃ t, finish { s with ref := r } = .next t ∧ t.ref = r ∧
    t.inner = { s with ref := r }.inner ∧ NoReply s t ∧ Silent s t := by
  obtain ⟨hn, hs⟩ := quiet_pump (s := s) (u := { s with ref := r }) (.of_eq rfl rfl)
    (.of_eq rfl rfl rfl)
  exact ⟨_, rfl, by simp, State.inner_pump _, hn, hs⟩

/-- Settles O11: an edge off the period is ignored; a used one closes its periods and is slewed. -/
theorem lockedEdgeSlews : Obligations.LockedEdgeSlews := by
  intro u i lab s hat hstate hu h1 h17 hle
  obtain ⟨hp, -⟩ := periodOf_bounds s.ref.set.rate
  have hexec : exec (.referenceEdge i) s = finish (s.lockedEdge lab) := by
    rw [exec_edge hat, State.edgeRule_locked hstate]
  refine ⟨fun hoff => ?_, fun m e l hm1 hm3 hreg he hslews hkeeps hl => ?_⟩
  · rw [hexec]
    exact finish_quiet (State.lockedEdge_ignored hu (regularCount_none hoff) lab)
  · have hclose := RefUnit.closePeriod_eq hl
    obtain ⟨v, hv⟩ : ∃ v : State, v = { s with ref := s.ref.closePeriod m } := ⟨_, rfl⟩
    have hset : v.ref.set = { s.ref.set with
        trim := trimOf s.ref.period (l.drop (l.length - 64)) } := by rw [hv, hclose]
    have herr : v.edgeError = e := by rw [he, hv]; rfl
    have hvs : v.slews e = true := by
      rw [State.slews_iff, hset]
      exact hslews.imp_right fun h => by rw [hv]; exact h
    have hvk : v.KeepsOrigin := by
      rw [State.KeepsOrigin, hset, hv]
      rcases hkeeps with h | h | h
      · exact .inl (by rw [h]; nofun)
      · exact .inr (.inr h)
      · exact .inr (.inl h)
    have hrule : s.lockedEdge lab = v.slewEdge e lab := by
      rw [State.lockedEdge_used hu (regularCount_some hp hm1 hm3 hreg), ← hv, ← herr]
      exact State.useEdge_slewed (by rw [herr]; exact hvs) hvk
    have hsum : 0 < ((l.drop (l.length - 64)).map fun y => (y.2 : Int)).sum := by
      rw [hl]
      exact periods_pos _ _ hm1
    obtain ⟨q, hq, htrim⟩ := trimOf_spec (periodOf_pos s.ref.set.rate) hsum
    obtain ⟨hc1, hc2, hc3⟩ := s.ref.set.slewOf_spec e
    have hnew : v.slewEdge e lab = { s with ref := { s.ref with
        set := { s.ref.set with trim := max (-5000) (min 5000 q) }
        lastUsed := some ⟨s.clock.counter, lab, e⟩
        correction := some ⟨s.ref.set.slewOf e, periodOf s.ref.set.rate, periodOf s.ref.set.rate⟩
        begun := s.ref.set.slewOf e
        list := l.drop (l.length - 64)
        pendingStep := decide (s.ref.set.threshold < e.natAbs) } } := by
      rw [← htrim, hv, hclose]
      rfl
    obtain ⟨t, ht, href, hinner, hno, hsil⟩ := finish_ref (s := s) (r := { s.ref with
        set := { s.ref.set with trim := max (-5000) (min 5000 q) }
        lastUsed := some ⟨s.clock.counter, lab, e⟩
        correction := some ⟨s.ref.set.slewOf e, periodOf s.ref.set.rate, periodOf s.ref.set.rate⟩
        begun := s.ref.set.slewOf e
        list := l.drop (l.length - 64)
        pendingStep := decide (s.ref.set.threshold < e.natAbs) })
    have hlist : t.ref.list = l.drop (l.length - 64) := by rw [href]
    refine ⟨t, s.ref.set.slewOf e, q, by rw [hexec, hrule, hnew, ht], hc1, hc2, hc3, hlist, ?_,
      by rw [hlist]; exact hq, by rw [hlist]; exact href, by rw [href]; exact hinner, hno, hsil⟩
    rw [hlist, List.length_drop]
    omega

end Sys2Proof.Machine
end

section
/-!
SUPPORT. A used edge that steps the counter, the edges of an acquisition run, and the origin taken at
an edge or a boundary.
-/

namespace Sys2Proof.Machine

/-! ### Steps (R32, R33) -/

/-- What a step of the counter by `a` ticks at a used edge leaves. -/
structure Stepped (s u : State) (label : Option Nat) (a : Nat) : Prop where
  counter  : u.clock.counter = s.clock.counter + a
  short    : a < periodOf s.ref.set.rate
  start    : (s.houseTime + a) % periodOf s.ref.set.rate = 0
  origin   : u.origin = s.origin
  house    : u.house = s.house
  ref      : u.ref = { s.ref with
    lastUsed := some ⟨u.clock.counter, label, 0⟩
    correction := none
    begun := 0
    pendingStep := false }
  marks    : u.marks = 0
  closed   : u.radio.opened = false ∧ u.radio.flight = none
  dev      : ∀ i, u.dev i = (s.dev i).map fun d => d.moved a
  drift    : ∀ i d, s.dev i = some d → d.rejamsAtChange = true →
    ∃ x ∈ u.radio.requests, x.cls = .drift ∧ x.slot = i
  units    : u.units = s.units
  takes    : u.takes = s.takes
  store    : u.store = s.store
  flash    : u.flash = s.flash
  profiles : u.profiles = s.profiles
  noReply  : NoReply s u
  raised   : Raised s u 0x43 ([fTick a, fTick s.clock.counter, fTick u.clock.counter,
    fTick u.houseTime] ++ fLabel (houseLabel s.house u.houseTime) ++ [fFlag s.ref.pendingStep])

/-- A step goes forward by the negated error modulo the period: to a frame start. -/
theorem step_to_start {p : Nat} (hp : 0 < p) {t : Nat} {e : Int} (he : e = reduceError p t) :
    (((-e) % p).toNat : Int) < p ∧ (t + ((-e) % p).toNat) % p = 0 := by
  obtain ⟨⟨k, hk⟩, -, -⟩ := reduceError_spec hp (t : Int)
  have h0 := Int.emod_nonneg (-e) (b := p) (by omega)
  have h1 := Int.emod_lt_of_pos (-e) (b := p) (by omega)
  have h2 := Int.mul_ediv_add_emod (-e) p
  refine ⟨by omega, ?_⟩
  have hdvd : (p : Int) ∣ ((t + ((-e) % p).toNat : Nat) : Int) := by
    refine ⟨k - (-e) / p, ?_⟩
    rw [Int.mul_sub, Int.mul_comm (p : Int) k]
    push_cast
    omega
  exact Nat.mod_eq_zero_of_dvd (Int.natCast_dvd_natCast.1 hdvd)

theorem State.stepCounter_eq {s : State} {a : Nat} (h : s.clock.counter + a ≤ maxCounter)
    (held : Bool) : ∃ f : Nat, s.stepCounter a held =
      (({ s with clock := ⟨s.clock.counter + a, f⟩ }).timeChange a).notify 0x43
        ([fTick a, fTick s.clock.counter, fTick (s.clock.counter + a : Nat),
          fTick (s.clock.counter + a + s.origin : Nat)] ++
          fLabel (houseLabel s.house (s.clock.counter + a + s.origin : Nat)) ++ [fFlag held]) := by
  refine ⟨if s.clock.counter + a = maxCounter then 0 else s.clock.frac, ?_⟩
  have hsub : s.clock.counter + a - s.clock.counter = a := by omega
  unfold State.stepCounter
  simp only [Nat.min_eq_left h, hsub, State.houseTime, State.timeChange_clock,
    State.timeChange_origin]

theorem State.stepEdge_stepped {s : State} {label : Option Nat} {p : Nat}
    (hp : p = periodOf s.ref.set.rate) (hmax : s.clock.counter + p ≤ maxCounter) :
    Stepped s (s.stepEdge s.edgeError label) label ((-s.edgeError) % p).toNat := by
  subst hp
  obtain ⟨a, ha⟩ : ∃ a, ((-s.edgeError) % periodOf s.ref.set.rate).toNat = a := ⟨_, rfl⟩
  obtain ⟨hshort, hstart⟩ := step_to_start (periodOf_pos s.ref.set.rate) (t := s.houseTime)
    (e := s.edgeError) rfl
  rw [ha] at hshort hstart ⊢
  obtain ⟨f, hf⟩ := State.stepCounter_eq (s := s) (a := a) (by omega) s.ref.pendingStep
  obtain ⟨v, hv⟩ : ∃ v : State, v = { s with clock := ⟨s.clock.counter + a, f⟩ } := ⟨_, rfl⟩
  obtain ⟨w, hw⟩ : ∃ w : State, w = s.stepCounter a s.ref.pendingStep := ⟨_, rfl⟩
  have hstep : s.stepEdge s.edgeError label = { w with ref := { w.ref with
      lastUsed := some ⟨w.clock.counter, label, 0⟩
      correction := none
      begun := 0
      pendingStep := false } } := by
    rw [hw, ← ha]
    rfl
  have hclock : w.clock.counter = s.clock.counter + a := by rw [hw, hf]; simp
  have horigin : w.origin = s.origin := by rw [hw, hf]; simp
  have href : w.ref = s.ref := by rw [hw, hf]; simp
  rw [hf, ← hv] at hw
  rw [hstep]
  exact {
    counter := hclock
    short := by omega
    start := hstart
    origin := horigin
    house := by show w.house = _; rw [hw, hv]; simp
    ref := by rw [href]
    marks := by show w.marks = _; rw [hw, State.notify_marks, State.timeChange_marks]
    closed := by show w.radio.opened = _ ∧ w.radio.flight = _; rw [hw]; simpa using v.timeChange_closed a
    dev := fun i => by
      show w.dev i = _
      rw [State.dev_congr (s := v.timeChange a) (by rw [hw]; simp), State.timeChange_dev, hv]
      rfl
    drift := fun i d hd h => by
      show ∃ x ∈ w.radio.requests, _
      rw [hw, State.notify_radio]
      exact State.timeChange_drift v a (by rw [hv]; exact hd) h
    units := by show w.units = _; rw [hw, hv]; simp
    takes := by show w.takes = _; rw [hw, hv]; simp
    store := by show w.store = _; rw [hw, hv]; simp
    flash := by show w.flash = _; rw [hw, hv]; simp
    profiles := by show w.profiles = _; rw [hw, hv]; simp
    noReply := by
      have h1 : NoReply s v := .of_eq (by rw [hv]) (by rw [hv])
      have h2 : NoReply s w := by
        rw [hw]
        exact (h1.trans (v.timeChange_noReply a)).trans (noReply_notify _ _ _)
      exact h2.trans (.of_eq rfl rfl)
    raised := by
      have h1 : Mum s v := .of_eq (by rw [hv]) (by rw [hv]) (by rw [hv])
      have h2 := (h1.trans (v.timeChange_mum a)).raised (State.raised_notify _ 0x43
        ([fTick a, fTick s.clock.counter, fTick (s.clock.counter + a : Nat),
          fTick (s.clock.counter + a + s.origin : Nat)] ++
          fLabel (houseLabel s.house (s.clock.counter + a + s.origin : Nat)) ++
          [fFlag s.ref.pendingStep]))
      rw [← hw] at h2
      have htime : w.houseTime = s.clock.counter + a + s.origin := by
        rw [State.houseTime, hclock, horigin]
      have h3 := h2.silent (u := { w with ref := { w.ref with
        lastUsed := some ⟨w.clock.counter, label, 0⟩
        correction := none
        begun := 0
        pendingStep := false } }) ⟨State.announced_congr rfl rfl, rfl⟩
      rw [← hclock, ← horigin] at h3
      exact h3 }

theorem State.takeLtcOrigin_after_step {s u : State} {label prev : Option Nat} {a m : Nat} {c : Int}
    (h : Stepped s u label a) (hk : s.KeepsOrigin) : u.takeLtcOrigin prev label m c = u := by
  refine State.takeLtcOrigin_none ?_
  rw [State.KeepsOrigin, h.ref, State.anyTakeOpen_congr h.units]
  exact hk

theorem State.useEdge_stepped {s : State} {prev label : Option Nat} {m : Nat}
    (hs : s.slews s.edgeError = false) (hk : s.KeepsOrigin)
    (hmax : s.clock.counter + periodOf s.ref.set.rate ≤ maxCounter) :
    s.useEdge prev label m = s.stepEdge s.edgeError label ∧
      Stepped s (s.useEdge prev label m) label ((-s.edgeError) % periodOf s.ref.set.rate).toNat := by
  have hst := State.stepEdge_stepped (s := s) (label := label) rfl hmax
  have huse : s.useEdge prev label m = s.stepEdge s.edgeError label := by
    unfold State.useEdge State.correctEdge
    dsimp only
    rw [if_neg (by rw [hs]; nofun)]
    exact State.takeLtcOrigin_after_step hst hk
  exact ⟨huse, huse ▸ hst⟩

/-- The state of the transmitters apart, a step leaves the same after their choice. -/
theorem Stepped.pump {s u : State} {label : Option Nat} {a : Nat} (h : Stepped s u label a) :
    Stepped s u.pump label a := by
  have htime : u.pump.houseTime = u.houseTime := by
    rw [State.houseTime, State.pump_clock, State.pump_origin]; rfl
  exact {
    counter := by rw [State.pump_clock]; exact h.counter
    short := h.short
    start := h.start
    origin := by rw [State.pump_origin]; exact h.origin
    house := by rw [State.pump_house]; exact h.house
    ref := by rw [State.pump_ref, State.pump_clock]; exact h.ref
    marks := by rw [State.pump_marks]; exact h.marks
    closed := by rw [State.pump_radio]; exact h.closed
    dev := fun i => by rw [State.dev_congr u.pump_slots]; exact h.dev i
    drift := by rw [State.pump_radio]; exact h.drift
    units := by rw [State.pump_units]; exact h.units
    takes := by rw [State.pump_takes]; exact h.takes
    store := by rw [State.pump_store]; exact h.store
    flash := by rw [State.pump_flash]; exact h.flash
    profiles := by rw [State.pump_profiles]; exact h.profiles
    noReply := h.noReply.trans (noReply_pump u)
    raised := by
      rw [State.pump_clock, htime]
      exact h.raised.silent (silent_pump u) }

theorem Stepped.houseTime {s u : State} {label : Option Nat} {a : Nat} (h : Stepped s u label a) :
    u.houseTime = s.houseTime + a := by
  rw [State.houseTime, h.counter, h.origin, State.houseTime]
  omega

theorem rejamsAtChange_of {d : Device} (hr : d.isRadio = true) (hj : d.live.jam ≠ none)
    (hst : d.live.state = .tracked ∨ d.live.state = .drifting ∨ d.live.state = .outOfRange ∨
      d.live.state = .jamPending) : d.rejamsAtChange = true := by
  simp [Device.rejamsAtChange, hr, Option.isSome_iff_ne_none, hj, hst]

/-- Settles O12: the used edge closes its periods, and its negated error modulo the period is the
step. -/
theorem lockedEdgeSteps : Obligations.LockedEdgeSteps := by
  intro u i lab m e l s hat hstate hu h1 h17 hle hm1 hm3 hreg he hthr hopen hmax hl
  obtain ⟨hp, -⟩ := periodOf_bounds s.ref.set.rate
  have hedge : EdgeAt s.ref.set i lab := hat.imp_right fun ⟨hsrc, _, hlab⟩ => ⟨hsrc, hlab⟩
  have hclose := RefUnit.closePeriod_eq hl
  have hsum : 0 < ((l.drop (l.length - 64)).map fun y => (y.2 : Int)).sum := by
    rw [hl]
    exact periods_pos _ _ hm1
  obtain ⟨q, hq, htrim⟩ := trimOf_spec (periodOf_pos s.ref.set.rate) hsum
  obtain ⟨v, hv⟩ : ∃ v : State, v = { s with ref := s.ref.closePeriod m } := ⟨_, rfl⟩
  have href : v.ref = { s.ref with
      list := l.drop (l.length - 64)
      set := { s.ref.set with trim := max (-5000) (min 5000 q) } } := by
    rw [← htrim, hv, hclose]
    rfl
  have hrate : v.ref.set.rate = s.ref.set.rate := by rw [href]
  have herr : v.edgeError = e := by rw [he, hv]; rfl
  have hslews : v.slews v.edgeError = false := by
    have hno : ¬ (v.edgeError.natAbs ≤ v.ref.set.threshold ∨ v.anyTakeOpen = true) := by
      have hv1 : v.ref.set.threshold = s.ref.set.threshold := by rw [href]
      have hv2 : v.anyTakeOpen = false := by rw [hv]; exact hopen
      rw [herr, hv1, hv2]
      rintro (h | h)
      · omega
      · cases h
    rw [← Bool.not_eq_true, State.slews_iff]
    exact hno
  have hkeeps : v.KeepsOrigin := by
    rw [State.KeepsOrigin, href]
    rcases hat with ⟨h, -⟩ | ⟨-, h, -⟩
    · exact .inl (by rw [h]; nofun)
    · exact .inr (.inl h)
  have hclock : v.clock = s.clock := by rw [hv]
  obtain ⟨-, hstep⟩ := State.useEdge_stepped (prev := u.label) (label := lab) (m := m) hslews hkeeps
    (by rw [hrate, hclock]; exact hmax)
  obtain ⟨w, hw⟩ : ∃ w, v.useEdge u.label lab m = w := ⟨_, rfl⟩
  obtain ⟨a, ha⟩ : ∃ a, ((-v.edgeError) % periodOf v.ref.set.rate).toNat = a := ⟨_, rfl⟩
  have hexec : exec (.referenceEdge i) s = .next w.pump := by
    rw [exec_edge hedge, State.edgeRule_locked hstate,
      State.lockedEdge_used hu (regularCount_some hp hm1 hm3 hreg), ← hv, hw]
    rfl
  rw [hw, ha] at hstep
  have ht := hstep.pump
  have hcounter : w.pump.clock.counter = s.clock.counter + a := by rw [ht.counter, hclock]
  have hsub : w.pump.clock.counter - s.clock.counter = a := by omega
  have htime : v.houseTime = s.houseTime := by rw [hv]; rfl
  have hshort := ht.short
  rw [hrate] at hshort
  have hnoReply : NoReply s v := .of_eq (by rw [hv]) (by rw [hv])
  have hmum : Mum s v := .of_eq (by rw [hv]) (by rw [hv]) (by rw [hv])
  have hdevs : ∀ i, v.dev i = s.dev i := fun i => State.dev_congr (by rw [hv]) i
  have hlist : w.pump.ref.list = l.drop (l.length - 64) := by rw [ht.ref, href]
  refine ⟨w.pump, q, hexec, by omega, by omega, ?_, ?_, ?_, ?_, ht.marks, ?_, ?_, ht.closed.1,
    ht.closed.2, fun i d hd => ?_, ?_, ?_, ?_, ?_, ?_, hnoReply.trans ht.noReply, ?_⟩
  · rw [ht.houseTime, ← hrate]
    exact ht.start
  · rw [ht.origin, hv]
  · rw [ht.ref]
  · rw [ht.ref]
  · rw [hlist]
    exact hq
  · have hr := ht.ref
    rw [href] at hr
    exact hr
  · rw [← hdevs] at hd
    obtain ⟨k1, k2, k3, k4, k5, k6⟩ := d.moved_kept a
    refine ⟨d.moved a, by rw [ht.dev, hd]; rfl, k1, k2, k3, k4, k5, fun hr => ?_, fun hr hj hst =>
      ht.drift i d hd (rejamsAtChange_of hr hj hst)⟩
    rw [hsub]
    exact k6 hr
  · rw [ht.units, hv]
  · rw [ht.takes, hv]
  · rw [ht.store, hv]
  · rw [ht.flash, hv]
  · rw [ht.profiles, hv]
  · have hpend : v.ref.pendingStep = s.ref.pendingStep := by rw [href]
    have hhouse : v.house = s.house := by rw [hv]
    have hr := hmum.raised ht.raised
    rw [hclock, hpend, hhouse] at hr
    rw [hsub]
    exact hr

end Sys2Proof.Machine
end

section
/-!
SUPPORT. The edges of an acquisition run (R28, R29), and the origins that a boundary and a timecode
edge set (R38, R40).
-/

namespace Sys2Proof.Machine

/-! ### Acquisition (R28, R29) -/

section
variable {s : State} {lab : Option Nat} {r : Run}

/-- A run of one edge, taken now. -/
def State.freshRun (s : State) (lab : Option Nat) : Run := ⟨1, s.edgeError, s.clock.counter, lab⟩

theorem State.acquireEdge_first (h : s.ref.run = none) :
    s.acquireEdge lab = { s with ref := { s.ref with run := some (s.freshRun lab) } } := by
  unfold State.acquireEdge
  simp only [h]
  rfl

theorem State.acquireEdge_anew (h : s.ref.run = some r) (hj : s.joinsRun r = false) :
    s.acquireEdge lab = { s with ref := { s.ref with run := some (s.freshRun lab) } } := by
  unfold State.acquireEdge
  simp only [h, hj]
  rfl

theorem State.acquireEdge_joined (h : s.ref.run = some r) (hj : s.joinsRun r = true)
    (h7 : r.edges ≠ 7) : s.acquireEdge lab = { s with ref := { s.ref with
      run := some { r with edges := r.edges + 1, last := s.clock.counter, label := lab } } } := by
  unfold State.acquireEdge
  simp only [h, hj, if_true, if_neg h7]

theorem State.acquireEdge_eighth (h : s.ref.run = some r) (hj : s.joinsRun r = true)
    (h7 : r.edges = 7) : s.acquireEdge lab = s.enterLocked r.label lab := by
  unfold State.acquireEdge
  simp only [h, hj, if_true, if_pos h7]

theorem State.joinsRun_iff : s.joinsRun r = true ↔
    ((s.clock.counter - r.last : Nat) - (periodOf s.ref.set.rate : Int)).natAbs ≤
        periodOf s.ref.set.rate / 100 ∧
      (reduceError (periodOf s.ref.set.rate) (s.edgeError - r.firstErr)).natAbs ≤ 2 := by
  have hreg := regular_iff (p := periodOf s.ref.set.rate) (m := 1) (d := s.clock.counter - r.last)
  rw [Int.ofNat_one, Int.one_mul] at hreg
  rw [State.joinsRun, Bool.and_eq_true, decide_eq_true_eq, RefUnit.period, hreg]

/-- The reference unit as a run of eight edges has entered LOCKED, its eighth edge not yet used. -/
def State.justLocked (s : State) : State := { s with ref := { s.ref with
  state := .locked
  run := none
  list := []
  pendingOrigin := s.ref.pendingOrigin ||
    (decide (s.ref.set.source = Source.ltcIn) && s.ref.set.ltcOrigin) } }

theorem State.enterLocked_eq (s : State) (prev lab : Option Nat) : s.enterLocked prev lab =
    (s.justLocked.noteRef .acquiring).useEdge prev lab 1 := rfl

end

/-- A notice of the reference unit's state after a change of it. -/
theorem noteRef_sent {s u : State} {old : RefState} (href : u = { s with ref := u.ref }) :
    NoReply s (u.noteRef old) ∧ Raised s (u.noteRef old) 0x42 [fByte old.code, fByte u.ref.state.code,
      fByte u.ref.set.source.code, fTick s.clock.counter, fTick s.houseTime] ∧
      (u.noteRef old).inner = u.inner := by
  have hn : NoReply s u := .of_eq (by rw [href]) (by rw [href])
  have hm : Mum s u := .of_eq (by rw [href]) (by rw [href]) (by rw [href])
  have hc : u.clock = s.clock := by rw [href]
  have ho : u.origin = s.origin := by rw [href]
  have hnote : u.noteRef old = u.notify 0x42 [fByte old.code, fByte u.ref.state.code,
      fByte u.ref.set.source.code, fTick s.clock.counter, fTick s.houseTime] := by
    rw [State.noteRef, State.houseTime, State.houseTime, hc, ho]
  rw [hnote]
  exact ⟨hn.trans (noReply_notify _ _ _), hm.raised (u.raised_notify _ _), State.inner_notify _ _ _⟩

theorem slewOf_exists (r : RefSettings) (e : Int) : ∃ c, c = r.slewOf e ∧
    (e.natAbs ≤ r.slew → c = -e) ∧
    (r.slew < e.natAbs → c = if e < 0 then (r.slew : Int) else -(r.slew : Int)) := by
  obtain ⟨-, h1, h2⟩ := r.slewOf_spec e
  exact ⟨_, rfl, h1, h2⟩

/-- The eighth edge slewed: what LOCKED begins with. -/
theorem eighth_slewed {s : State} {prev lab : Option Nat}
    (hs : s.edgeError.natAbs ≤ s.ref.set.threshold ∨ s.anyTakeOpen = true)
    (hk : s.ref.set.source = .housePulse ∨ s.anyTakeOpen = true ∨
      (s.ref.pendingOrigin = false ∧ s.ref.set.ltcOrigin = false)) :
    ∃ u, u = s.enterLocked prev lab ∧
      u.ref = { s.ref with
        state := .locked
        run := none
        list := []
        lastUsed := some ⟨s.clock.counter, lab, s.edgeError⟩
        correction := some ⟨s.ref.set.slewOf s.edgeError, periodOf s.ref.set.rate,
          periodOf s.ref.set.rate⟩
        begun := s.ref.set.slewOf s.edgeError
        pendingStep := decide (s.ref.set.threshold < s.edgeError.natAbs)
        pendingOrigin := s.ref.pendingOrigin ||
          (decide (s.ref.set.source = .ltcIn) && s.ref.set.ltcOrigin) } ∧
      u.inner = { s with ref := u.ref }.inner ∧ NoReply s u ∧
      Raised s u 0x42 [fByte 1, fByte 2, fByte s.ref.set.source.code, fTick s.clock.counter,
        fTick s.houseTime] := by
  obtain ⟨v, hv⟩ : ∃ v, v = s.justLocked.noteRef .acquiring := ⟨_, rfl⟩
  obtain ⟨hno, hraised, hinner⟩ := noteRef_sent (s := s) (u := s.justLocked) (old := .acquiring) rfl
  rw [← hv] at hno hraised hinner
  have hvref : v.ref = s.justLocked.ref := by rw [hv, State.noteRef, State.notify_ref]
  have hvclock : v.clock = s.clock := by rw [hv, State.noteRef, State.notify_clock]; rfl
  have hvorigin : v.origin = s.origin := by rw [hv, State.noteRef, State.notify_origin]; rfl
  have hvopen : v.anyTakeOpen = s.anyTakeOpen :=
    State.anyTakeOpen_congr (by rw [hv, State.noteRef, State.notify_units]; rfl)
  have herr : v.edgeError = s.edgeError := by
    rw [State.edgeError, State.edgeError, State.houseTime, State.houseTime, hvclock, hvorigin, hvref]
    rfl
  have hslews : v.slews v.edgeError = true := by
    rw [State.slews_iff, herr, hvopen, hvref]
    exact hs
  have hkeeps : v.KeepsOrigin := by
    rw [State.KeepsOrigin, hvopen, hvref]
    rcases hk with h | h | ⟨h1, h2⟩
    · exact .inl (by show s.ref.set.source ≠ _; rw [h]; nofun)
    · exact .inr (.inr h)
    · exact .inr (.inl (by simp [State.justLocked, h1, h2]))
  refine ⟨v.slewEdge s.edgeError lab, ?_, ?_, ?_, hno.trans (.of_eq rfl rfl), hraised.silent
    ⟨State.announced_congr rfl rfl, rfl⟩⟩
  · rw [State.enterLocked_eq, ← hv, State.useEdge_slewed hslews hkeeps, herr]
  · simp only [State.slewEdge, hvref, hvclock]
    rfl
  · have h := congrArg (fun w : State => { w with ref := (v.slewEdge s.edgeError lab).ref }) hinner
    exact h

/-- Two notices raised one after the other while there is room for both. -/
theorem Raised.twice {s u t : State} {k1 k2 : Nat} {b1 b2 : List Field} (h1 : Raised s u k1 b1)
    (h2 : Raised u t k2 b2) (hu : u.notices.length < 16) (hs : s.notices.length < 16) :
    ∃ m1 m2, t.announced = s.announced ++ [m1, m2] ∧ m1.kind = k1 ∧ m2.kind = k2 := by
  obtain ⟨ha1, -⟩ := h1.1 hs
  obtain ⟨ha2, -⟩ := h2.1 hu
  exact ⟨_, _, by rw [ha2, ha1, List.append_assoc]; rfl, rfl, rfl⟩

/-- The eighth edge stepped. -/
theorem eighth_stepped {s : State} {prev lab : Option Nat}
    (hs : s.ref.set.threshold < s.edgeError.natAbs) (hopen : s.anyTakeOpen = false)
    (hk : s.ref.set.source = .housePulse)
    (hmax : s.clock.counter + periodOf s.ref.set.rate ≤ maxCounter) :
    ∃ v a, v.ref = s.justLocked.ref ∧ v.clock = s.clock ∧ v.origin = s.origin ∧ v.units = s.units ∧
      v.takes = s.takes ∧ v.store = s.store ∧ NoReply s v ∧
      (∃ b, Raised s v 0x42 b) ∧ v.notices.length ≤ s.notices.length + 1 ∧
      Stepped v (s.enterLocked prev lab) lab a := by
  obtain ⟨v, hv⟩ : ∃ v, v = s.justLocked.noteRef .acquiring := ⟨_, rfl⟩
  obtain ⟨hno, hraised, -⟩ := noteRef_sent (s := s) (u := s.justLocked) (old := .acquiring) rfl
  rw [← hv] at hno hraised
  have hvref : v.ref = s.justLocked.ref := by rw [hv, State.noteRef, State.notify_ref]
  have hvclock : v.clock = s.clock := by rw [hv, State.noteRef, State.notify_clock]; rfl
  have hvorigin : v.origin = s.origin := by rw [hv, State.noteRef, State.notify_origin]; rfl
  have hvunits : v.units = s.units := by rw [hv, State.noteRef, State.notify_units]; rfl
  have herr : v.edgeError = s.edgeError := by
    rw [State.edgeError, State.edgeError, State.houseTime, State.houseTime, hvclock, hvorigin, hvref]
    rfl
  have hslews : v.slews v.edgeError = false := by
    rw [← Bool.not_eq_true, State.slews_iff, herr, State.anyTakeOpen_congr hvunits, hopen, hvref]
    rintro (h | h)
    · exact Nat.not_le.2 hs h
    · cases h
  have hkeeps : v.KeepsOrigin := .inl (by rw [hvref]; show s.ref.set.source ≠ _; rw [hk]; nofun)
  obtain ⟨-, hstep⟩ := State.useEdge_stepped (prev := prev) (label := lab) (m := 1) hslews hkeeps
    (by rw [hvclock, hvref]; exact hmax)
  have hlen : v.notices.length ≤ s.notices.length + 1 := by
    rw [hv, State.noteRef, State.notify]
    split
    · simp [State.justLocked]
    · simp [State.justLocked]
  refine ⟨v, ((-v.edgeError) % periodOf v.ref.set.rate).toNat, hvref, hvclock, hvorigin, hvunits, ?_, ?_, hno, ⟨_, hraised⟩, hlen, ?_⟩
  · rw [hv, State.noteRef, State.notify_takes]; rfl
  · rw [hv, State.noteRef, State.notify_store]; rfl
  · rw [State.enterLocked_eq, ← hv]
    exact hstep

/-- Settles O10: the state's rule for each edge of a run, and the eighth edge slewed or stepped. -/
theorem edgeBeginsAcquisition : Obligations.EdgeBeginsAcquisition := by
  intro e lab err s
  refine ⟨fun hat h1 h17 herr => ?_, fun hno => ?_⟩
  · have hp := periodOf_pos s.ref.set.rate
    have hee : s.edgeError = err := by rw [herr]; rfl
    have hexec := exec_edge (s := s) hat
    have hfresh : s.freshRun lab = ⟨1, err, s.clock.counter, lab⟩ := by rw [← hee]; rfl
    have hacq : ∀ r : Run, s.ref.state = .acquiring →
        s.acquireEdge lab = { s with ref := { s.ref with run := some r } } →
        ∃ t, exec (.referenceEdge e) s = .next t ∧
          t.inner = { s with ref := { s.ref with run := some r } }.inner ∧ NoReply s t ∧
          Silent s t := by
      intro r hst hrule
      obtain ⟨t, ht, -, hinner, hn, hs⟩ := finish_ref (s := s) (r := { s.ref with run := some r })
      exact ⟨t, by rw [hexec, State.edgeRule_acquiring hst, hrule, ht], hinner, hn, hs⟩
    refine ⟨fun hst => ?_, fun hst hrun => ?_, fun r hst hrun _ hoff => ?_,
      fun r hst hrun _ hreg hnear => ?_⟩
    · obtain ⟨hk, hlo, hhi⟩ := reduceError_spec hp (s.houseTime : Int)
      rw [← herr] at hk hlo hhi
      obtain ⟨v, hv⟩ : ∃ v : State, v = { s with ref := { s.ref with
          state := .acquiring
          holdoverStart := none
          run := some ⟨1, err, s.clock.counter, lab⟩ } } := ⟨_, rfl⟩
      obtain ⟨hn, hr, hi⟩ := noteRef_sent (s := s) (u := v) (old := s.ref.state) (by rw [hv])
      have hvs : v.ref.state = .acquiring ∧ v.ref.set = s.ref.set := by rw [hv]; exact ⟨rfl, rfl⟩
      have hrule : s.edgeRule lab = v.noteRef s.ref.state := by
        rw [State.edgeRule_free hst, hv, ← hee]
        rfl
      have href : (v.noteRef s.ref.state).pump.ref = v.ref := by simp [State.noteRef]
      rw [hvs.1, hvs.2] at hr
      refine ⟨(v.noteRef s.ref.state).pump, by rw [hexec, hrule]; rfl, by rw [href, hv], hk, hlo, hhi,
        ?_, hn.trans (noReply_pump _), hr.silent (silent_pump _)⟩
      rw [State.inner_pump, hi, href, hv]
    · refine hacq _ hst ?_
      rw [State.acquireEdge_first hrun, hfresh]
    · refine hacq _ hst ?_
      rw [State.acquireEdge_anew hrun, hfresh]
      rw [← Bool.not_eq_true, State.joinsRun_iff, hee]
      omega
    · have hj : s.joinsRun r = true := by
        rw [State.joinsRun_iff, hee]
        exact ⟨hreg, hnear⟩
      refine ⟨fun h7 => ?_, fun h7 hs hk => ?_, fun h7 hsrc hthr hopen hmax => ?_⟩
      · exact hacq _ hst (State.acquireEdge_joined hrun hj (by omega))
      · rw [← hee] at hs
        obtain ⟨u, hu, href, hinner, hn, hr⟩ := eighth_slewed (prev := r.label) (lab := lab) hs hk
        obtain ⟨c, hc, hc1, hc2⟩ := slewOf_exists s.ref.set err
        refine ⟨u.pump, c, ?_, hc1, hc2, ?_, ?_, hn.trans (noReply_pump _), hr.silent (silent_pump _)⟩
        · rw [hexec, State.edgeRule_acquiring hst, State.acquireEdge_eighth hrun hj h7, ← hu]
          rfl
        · rw [State.pump_ref, href, hee, ← hc]
        · rw [State.inner_pump, hinner, State.pump_ref]
      · rw [← hee] at hthr
        have hnone : lab = none := by
          rcases hat with ⟨-, -, h⟩ | ⟨h, -⟩
          · exact h
          · rw [hsrc] at h; cases h
        obtain ⟨v, a, hvref, hvclock, hvorigin, hvunits, hvtakes, hvstore, hn, ⟨b, hr⟩, hlen, hstep⟩ :=
          eighth_stepped (prev := r.label) (lab := lab) hthr hopen hsrc hmax
        have ht := hstep.pump
        have hrate : v.ref.set.rate = s.ref.set.rate := by rw [hvref]; rfl
        have hshort := ht.short
        have hcount := ht.counter
        rw [hrate] at hshort
        rw [hvclock] at hcount
        refine ⟨(s.enterLocked r.label lab).pump, ?_, by omega, by omega, ?_, ?_, ?_, ?_, ?_, ?_,
          hn.trans ht.noReply, fun hroom => ?_⟩
        · rw [hexec, State.edgeRule_acquiring hst, State.acquireEdge_eighth hrun hj h7]
          rfl
        · rw [ht.houseTime, ← hrate]
          exact ht.start
        · rw [ht.origin, hvorigin]
        · rw [ht.ref, hvref, hnone]
          simp [State.justLocked, hsrc]
        · rw [ht.units, hvunits]
        · rw [ht.takes, hvtakes]
        · rw [ht.store, hvstore]
        · exact hr.twice ht.raised (by omega) (by omega)
  · have hb : edgeBelongs s.ref.set.source e = false := by
      rcases hno with h | ⟨h, he⟩ | ⟨h, rfl⟩
      · rw [h]; rfl
      · cases e with
        | housePulse => exact absurd rfl he
        | timecode l => rw [h]; rfl
      · rw [h]; rfl
    rw [exec_edge_ignored hb]
    exact finish_quiet rfl

/-! ### Origins at a boundary and at an edge (R38, R40) -/

/-- An accepted origin changes nothing but what a change of origin does. -/
theorem setOriginAt_unchanged {s : State} {o : Nat} (h : o = s.origin) (c : Int) (cause : Nat) :
    s.setOriginAt o c cause = s := by
  subst h
  exact s.setOriginAt_same c cause

theorem exec_originBoundary {s : State} {w : WaitingOrigin} (hw : s.ref.waiting = some w)
    (hb : w.boundary ≤ s.clock.counter) : exec .originBoundary s = finish (s.settleOrigin w) := by
  have hdue : s.originDue = true := by simp [State.originDue, hw, hb]
  show execOriginBoundary s = _
  unfold execOriginBoundary
  simp only [hw, hdue, if_true]

/-- A waiting SET_ORIGIN answered with nothing but itself changed. -/
theorem settle_refused {s : State} {w : WaitingOrigin} (st : Status) :
    ∃ t, finish (({ s with ref := { s.ref with waiting := none } }).reply w.port 0x04 w.tag st) =
      .next t ∧ t.inner = { s with ref := { s.ref with waiting := none } }.inner ∧ Silent s t ∧
      t.outgoing w.port = s.outgoing w.port ++ [⟨replyMessage 0x04 w.tag st [], true, false⟩] := by
  obtain ⟨v, hv⟩ : ∃ v : State, v = { s with ref := { s.ref with waiting := none } } := ⟨_, rfl⟩
  have hm : Mum s v := .of_eq (by rw [hv]) (by rw [hv]) (by rw [hv])
  have hn : NoReply s v := .of_eq (by rw [hv]) (by rw [hv])
  rw [← hv]
  refine ⟨_, rfl, by simp, (hm.trans (mum_reply v _ _ _ _ _)).silent.trans (silent_pump _), ?_⟩
  rw [State.outgoing_pump, State.outgoing_reply, hn]

theorem settle_applied {s : State} {w : WaitingOrigin} {o : Nat} (hw : s.ref.waiting = some w)
    (hb : w.boundary ≤ s.clock.counter) (hopen : s.anyTakeOpen = false)
    (ho : originFor w.rate w.frame s.clock.counter s.origin = some o) :
    ∃ t, exec .originBoundary s = .next t ∧ t.origin = o ∧ t.clock = s.clock ∧
      t.ref = { s.ref with waiting := none, pendingOrigin := false } ∧
      t.outgoing w.port = s.outgoing w.port ++
        [⟨replyMessage 0x04 w.tag .ok [fTick s.origin, fTick o, fTick s.clock.counter],
          true, false⟩] ∧
      (o ≠ s.origin → t.marks = 0 ∧ t.radio.opened = false ∧ t.radio.flight = none ∧
        Raised s t 0x44 ([fTick s.origin, fTick o, fByte 0, fTick s.clock.counter] ++
          fLabel (houseLabel s.house (s.clock.counter + o : Nat)))) ∧
      (o = s.origin → t.inner = { s with ref := t.ref }.inner ∧ Silent s t) ∧
      t.units = s.units ∧ t.takes = s.takes ∧ t.store = s.store ∧ t.flash = s.flash ∧
      t.profiles = s.profiles := by
  obtain ⟨v, hv⟩ : ∃ v : State, v = { s with ref :=
      { s.ref with waiting := none, pendingOrigin := false } } := ⟨_, rfl⟩
  have hm : Mum s v := .of_eq (by rw [hv]) (by rw [hv]) (by rw [hv])
  have hn : NoReply s v := .of_eq (by rw [hv]) (by rw [hv])
  obtain ⟨x, hx⟩ : ∃ x, v.setOriginAt o s.clock.counter 0 = x := ⟨_, rfl⟩
  obtain ⟨h1, h2, h3, h4, h5, h6, h7, h8, h9⟩ := v.setOriginAt_spec o s.clock.counter 0
  have hexec : exec .originBoundary s = finish (x.reply w.port 0x04 w.tag .ok
      [fTick s.origin, fTick o, fTick s.clock.counter]) := by
    rw [exec_originBoundary hw hb, ← hx, hv]
    unfold State.settleOrigin
    simp only [hopen, ho]
    rfl
  have hvo : v.origin = s.origin := by rw [hv]
  rw [hx] at h1 h2 h3 h4 h5 h6 h7 h8 h9
  refine ⟨_, hexec, by simpa using h1, ?_, ?_, ?_, fun hne => ?_, fun heq => ?_, ?_, ?_, ?_, ?_, ?_⟩
  · rw [State.pump_clock, State.reply_clock, h2, hv]
  · rw [State.pump_ref, State.reply_ref, h3, hv]
  · rw [State.outgoing_pump, State.outgoing_reply, h9, hn]
  · obtain ⟨g1, g2, g3, g4⟩ := State.setOriginAt_changed (s := v) (by rw [hvo]; exact hne)
      s.clock.counter 0
    rw [hx] at g1 g2 g3 g4
    have hr := (hm.raised g4).silent
      ((mum_reply x w.port 0x04 w.tag .ok [fTick s.origin, fTick o, fTick s.clock.counter]).silent.trans
        (silent_pump _))
    have hhouse : v.house = s.house := by rw [hv]
    rw [hvo, hhouse] at hr
    exact ⟨by rw [State.pump_marks, State.reply_marks, g1],
      by rw [State.pump_radio, State.reply_radio, g2],
      by rw [State.pump_radio, State.reply_radio, g3], hr⟩
  · have hxv : x = v := by rw [← hx, setOriginAt_unchanged (by rw [hvo]; exact heq)]
    subst hxv
    refine ⟨?_, (hm.trans (mum_reply x _ _ _ _ _)).silent.trans (silent_pump _)⟩
    rw [State.inner_pump, State.inner_reply, State.pump_ref, State.reply_ref, hv]
  · rw [State.pump_units, State.reply_units, h4, hv]
  · rw [State.pump_takes, State.reply_takes, h5, hv]
  · rw [State.pump_store, State.reply_store, h6, hv]
  · rw [State.pump_flash, State.reply_flash, h7, hv]
  · rw [State.pump_profiles, State.reply_profiles, h8, hv]

/-- A used timecode edge that is slewed and carries the label after the one before it, the
pending-origin mark set: the origin it gives is taken at its nominal time. -/
theorem State.useEdge_ltcOrigin {s : State} {p n o : Nat} {e : Int} (he : s.edgeError = e)
    (hs : s.slews e = true) (hsrc : s.ref.set.source = .ltcIn) (hpend : s.ref.pendingOrigin = true)
    (hopen : s.anyTakeOpen = false) (hn : n = (p + 1) % dayOf s.ref.set.rate)
    (ho : originFor s.ref.set.rate n (s.clock.counter - e) s.origin = some o) :
    s.useEdge (some p) (some n) 1 =
      ({ s with ref := { (s.slewEdge e (some n)).ref with pendingOrigin := false } }).setOriginAt o
        (s.clock.counter - e) 1 := by
  have hcond : (s.slewEdge e (some n)).ref.set.source = .ltcIn ∧
      (s.slewEdge e (some n)).ref.pendingOrigin = true ∧
      n = (p + 1) % dayOf (s.slewEdge e (some n)).ref.set.rate ∧
      (!(s.slewEdge e (some n)).anyTakeOpen) = true :=
    ⟨hsrc, hpend, hn, by rw [show (s.slewEdge e (some n)).anyTakeOpen = false from hopen]; rfl⟩
  have hfor : originFor (s.slewEdge e (some n)).ref.set.rate n (s.clock.counter - e)
      (s.slewEdge e (some n)).origin = some o := ho
  unfold State.useEdge State.correctEdge
  dsimp only
  rw [he, if_pos hs, if_pos hs]
  unfold State.takeLtcOrigin
  dsimp only
  rw [if_pos hcond]
  simp only [hfor]
  rfl

/-- Settles O9: the boundary's three outcomes, and the origin a timecode edge gives. -/
theorem originBoundaryApplies : Obligations.OriginBoundaryApplies := by
  refine ⟨fun w s hw hb => ⟨fun o hopen ho => settle_applied hw hb hopen ho, fun hopen ho => ?_,
    fun hopen => ?_⟩, fun u p o l e s hsrc hst hu hul h1 h6 hcount hok hframe he hthr hopen hpend ho => ?_⟩
  · have hrule : s.settleOrigin w =
        ({ s with ref := { s.ref with waiting := none } }).reply w.port 0x04 w.tag .outOfRange := by
      unfold State.settleOrigin
      simp only [hopen, ho]
      rfl
    rw [exec_originBoundary hw hb, hrule]
    exact settle_refused _
  · have hrule : s.settleOrigin w =
        ({ s with ref := { s.ref with waiting := none } }).reply w.port 0x04 w.tag .takeOpen := by
      unfold State.settleOrigin
      simp only [hopen, if_true]
    rw [exec_originBoundary hw hb, hrule]
    exact settle_refused _
  · obtain ⟨hp, -⟩ := periodOf_bounds s.ref.set.rate
    obtain ⟨n, hn⟩ : ∃ n, frameOf s.ref.set.rate l = n := ⟨_, rfl⟩
    obtain ⟨v, hv⟩ : ∃ v : State, v = { s with ref := s.ref.closePeriod 1 } := ⟨_, rfl⟩
    have hat : EdgeAt s.ref.set (.timecode l) (some n) :=
      .inr ⟨hsrc, l, rfl, by rw [if_pos hok, hn]⟩
    have herr : v.edgeError = e := by rw [he, hv]; rfl
    have hvs : v.slews e = true := by
      rw [State.slews_iff, hv]
      exact .inl hthr
    obtain ⟨x, hx⟩ : ∃ x : State, x = { v with ref :=
        { (v.slewEdge e (some n)).ref with pendingOrigin := false } } := ⟨_, rfl⟩
    have huse := State.useEdge_ltcOrigin (s := v) (p := p) (n := n) (o := o) herr hvs
      (by rw [hv]; exact hsrc) (by rw [hv]; exact hpend) (by rw [hv]; exact hopen)
      (by rw [← hn, hframe, hv]; rfl) (by rw [← hn, hv]; exact ho)
    obtain ⟨y, hy⟩ : ∃ y, x.setOriginAt o (s.clock.counter - e) 1 = y := ⟨_, rfl⟩
    have hvc : v.clock = s.clock := by rw [hv]
    have hsub : s.clock.counter - u.counter = periodOf s.ref.set.rate := by omega
    have hreg : (((s.clock.counter - u.counter : Nat) : Int) -
        (1 : Nat) * periodOf s.ref.set.rate).natAbs ≤ periodOf s.ref.set.rate / 100 := by
      rw [hsub]
      simp
    have hexec : exec (.referenceEdge (.timecode l)) s = .next y.pump := by
      rw [exec_edge hat, State.edgeRule_locked hst, State.lockedEdge_used hu
        (regularCount_some hp le_rfl (by decide) hreg), ← hv,
        hul, huse, ← hx, hvc, hy]
      rfl
    obtain ⟨h1, h2, h3, h4, h5, h6, h7, h8, h9⟩ := x.setOriginAt_spec o (s.clock.counter - e) 1
    rw [hy] at h1 h2 h3 h4 h5 h6 h7 h8 h9
    have hxs : x = { s with ref := x.ref } := by rw [hx, hv]
    have hxref : x.ref.pendingOrigin = false ∧ x.ref.state = .locked ∧
        x.ref.waiting = s.ref.waiting ∧ x.ref.lastUsed = some ⟨s.clock.counter, some n, e⟩ := by
      rw [hx, hv]
      exact ⟨rfl, hst, rfl, rfl⟩
    have hm : Mum s x := .of_eq (by rw [hxs]) (by rw [hxs]) (by rw [hxs])
    have hno : NoReply s x := .of_eq (by rw [hxs]) (by rw [hxs])
    have hxo : x.origin = s.origin := by rw [hxs]
    refine ⟨y.pump, hexec, by rw [State.pump_origin, h1], by rw [State.pump_clock, h2, hxs],
      by rw [State.pump_ref, h3, hxref.1], by rw [State.pump_ref, h3, hxref.2.1],
      by rw [State.pump_ref, h3, hxref.2.2.1], by rw [State.pump_ref, h3, hxref.2.2.2, hn],
      fun hne => ?_, fun heq => ?_, by rw [State.pump_units, h4, hxs], by rw [State.pump_takes, h5, hxs],
      by rw [State.pump_store, h6, hxs], by rw [State.pump_flash, h7, hxs],
      by rw [State.pump_profiles, h8, hxs], (hno.trans h9).trans (noReply_pump y)⟩
    · obtain ⟨g1, g2, g3, g4⟩ := State.setOriginAt_changed (s := x) (by rw [hxo]; exact hne)
        (s.clock.counter - e) 1
      rw [hy] at g1 g2 g3 g4
      have hr := (hm.raised g4).silent (silent_pump y)
      have hhouse : x.house = s.house := by rw [hxs]
      rw [hxo, hhouse] at hr
      exact ⟨by rw [State.pump_marks, g1], by rw [State.pump_radio, g2],
        by rw [State.pump_radio, g3], hr⟩
    · have hyx : y = x := by rw [← hy, setOriginAt_unchanged (by rw [hxo]; exact heq)]
      subst hyx
      refine ⟨?_, hm.silent.trans (silent_pump y)⟩
      rw [State.inner_pump, State.pump_ref, ← hxs]

end Sys2Proof.Machine
end

section
/-!
SUPPORT. What is read of the state past the operations that only touch the ports, and the requests on
profiles, slate info and the radio setting.
-/

namespace Sys2Proof.Machine

/-! ### Reading past the ports -/

section
variable {s t : State}

theorem State.line_congr (h : t.lines = s.lines) (n : Nat) : t.line n = s.line n := by
  simp [State.line, h]

theorem State.unit_congr (h : t.units = s.units) (u : Nat) : t.unit u = s.unit u := by
  simp [State.unit, h]

theorem State.profile_congr (h : t.profiles = s.profiles) (n : Nat) : t.profile n = s.profile n := by
  simp [State.profile, h]

theorem State.houseTime_congr (hc : t.clock = s.clock) (ho : t.origin = s.origin) :
    t.houseTime = s.houseTime := by
  simp [State.houseTime, hc, ho]

end

section
variable (s : State) (q : Req) (k : Nat) (x : Option Query)

@[simp] theorem State.enlist_dev (i : Nat) : (s.enlist q k x).dev i = s.dev i :=
  State.dev_congr (s.enlist_slots q k x) i

@[simp] theorem State.enlist_line (n : Nat) : (s.enlist q k x).line n = s.line n :=
  State.line_congr (s.enlist_lines q k x) n

@[simp] theorem State.enlist_unit (u : Nat) : (s.enlist q k x).unit u = s.unit u :=
  State.unit_congr (s.enlist_units q k x) u

@[simp] theorem State.enlist_profile (n : Nat) : (s.enlist q k x).profile n = s.profile n :=
  State.profile_congr (s.enlist_profiles q k x) n

@[simp] theorem State.enlist_houseTime : (s.enlist q k x).houseTime = s.houseTime :=
  State.houseTime_congr (s.enlist_clock q k x) (s.enlist_origin q k x)

/-- A reading of the state that looks at no port is the same with a request listed. -/
theorem State.reads_enlist {α : Type} (f : State → α)
    (hc : ∀ s p, f { s with control := p } = f s) (hs : ∀ s p, f { s with suite := p } = f s) :
    f (s.enlist q k x) = f s := by
  obtain ⟨p, tag, more⟩ := q
  cases p
  · exact hc _ _
  · exact hs _ _

end

section
variable (s : State) (p : Port) (k n : Nat) (st : Status) (l : List Field)

/-- What a request that is answered leaves of a slot, a line, a unit and a profile. -/
@[simp] theorem State.sent_dev (i : Nat) : (s.reply p k n st l).pump.dev i = s.dev i :=
  State.dev_congr (by simp) i

@[simp] theorem State.sent_line (i : Nat) : (s.reply p k n st l).pump.line i = s.line i :=
  State.line_congr (by simp) i

@[simp] theorem State.sent_unit (i : Nat) : (s.reply p k n st l).pump.unit i = s.unit i :=
  State.unit_congr (by simp) i

@[simp] theorem State.sent_profile (i : Nat) : (s.reply p k n st l).pump.profile i = s.profile i :=
  State.profile_congr (by simp) i

end

/-- A request answered with nothing changed. -/
theorem answered_only {s : State} {q : Req} {k : Nat} {st : Status} {l : List Field} :
    ∃ t, finish ((s.enlist q k).reply q.port k q.tag st l) = .next t ∧ t.inner = s.inner ∧
      Silent s t ∧ Answered s t q k st l := by
  obtain ⟨ha, hs⟩ := answered_silent (q := q) (k := k) (st := st) (l := l) (noReply_enlist s q k none)
    (mum_enlist s q k none)
  exact ⟨_, rfl, by simp, hs, ha⟩

/-- A status request is answered with what its owner reads. -/
theorem ask_answered {s : State} {q : Req} (h : Taken s q) {k : Nat} {layout : Bool} {l : List Field}
    {answer : State → Answer} (hl : layout = true) (ha : answer (s.enlist q k) = (.ok, l)) :
    ∃ t, finish (s.ask q k layout answer) = .next t ∧ t.inner = s.inner ∧ Silent s t ∧
      Answered s t q k .ok l := by
  have hexec : finish (s.ask q k layout answer) =
      finish ((s.enlist q k).reply q.port k q.tag .ok l) := by
    refine (finish_taken h rfl hl).trans ?_
    rw [ha]
    rfl
  rw [hexec]
  exact answered_only

theorem holds_byte {n : Nat} (h : n < 256) : holds 1 n = true := decide_eq_true h

/-! ### Status requests -/

/-- The house label of a house time that is no negative number. -/
theorem houseLabel_nat (code t : Nat) :
    houseLabel code t = labelOf code (t / periodOf code % dayOf code) := by
  rw [houseLabel_eq]
  exact congrArg (labelOf code) (by rw [← Int.natCast_div, ← Int.natCast_mod, Int.toNat_natCast])

theorem houseSub_nat (code t : Nat) :
    houseSub code t = 100 * (t % periodOf code) / periodOf code := by
  simp only [houseSub, wiredSub, Int.natCast_zero, Int.add_zero]
  rw [← Int.natCast_mod, show (100 : Int) = ((100 : Nat) : Int) from rfl, ← Int.natCast_mul,
    ← Int.natCast_div, Int.toNat_natCast]

/-- Settles O24: each owner's answer looks at no port. -/
theorem statusRequestsOnlyReport : Obligations.StatusRequestsOnlyReport := by
  intro q n s h
  refine ⟨?_, fun hn => ?_, fun hn => ?_, fun hn => ?_, ?_, ?_, ?_⟩
  · refine ask_answered h rfl ?_
    rw [State.reads_enlist s q 0x01 none State.timeNowFields (fun _ _ => rfl) fun _ _ => rfl]
    rw [← houseLabel_nat, ← houseSub_nat]
    rfl
  · have hread : (s.enlist q 0x0D).profileReadAnswer n = (.ok, [fByte (s.profile n).state.code,
        fByte (s.profile n).count, fByte (biasCode (s.profile n).bias),
        fByte (s.profile n).points.length] ++
        (((s.profile n).points.flatMap fun x => [fByte x.1, fLevel x.2]) ++
          (((agedPoints 0 (s.profile n).points).map fun x => fLong x.1) ++
            [fCount (s.profile n).crc]))) := by
      simp [State.profileReadAnswer, Nat.not_lt.2 (Nat.le_of_lt_succ hn), profileFields]
    obtain ⟨t, ht, hi, hs, ha⟩ := ask_answered h (holds_byte (n := n) (by omega)) (answer := fun s => s.profileReadAnswer n) hread
    exact ⟨t, _, ht, hi, hs, ha⟩
  · obtain ⟨fs, hfs, hnone⟩ : ∃ fs, (s.enlist q 0x08).deviceAnswer n = (.ok, [fByte n,
        fByte (devStateCode ((s.dev n).map fun d => d.live.state))] ++ fs) ∧
        (s.dev n = none → fs = []) := by
      rw [State.deviceAnswer, if_neg (Nat.not_lt.2 (Nat.le_of_lt_succ hn)), State.enlist_dev]
      cases hd : s.dev n with
      | none => exact ⟨[], rfl, fun _ => rfl⟩
      | some d => exact ⟨_, by simp only [List.append_assoc]; rfl, nofun⟩
    obtain ⟨t, ht, hi, hs, ha⟩ := ask_answered h (holds_byte (n := n) (by omega)) (answer := fun s => s.deviceAnswer n) hfs
    exact ⟨t, fs, ht, hi, hs, ha, hnone⟩
  · have hread : (if 3 < n then ((.outOfRange, []) : Answer)
        else (.ok, (s.enlist q 0x11).unitFields n)) = (.ok, [fByte (if (s.unit n).rolling then 1 else 0)] ++
        fText (s.unit n).info.scene ++ [fCount (s.unit n).info.takeNo] ++
        (fList (fun x => fByte x.1 :: fText x.2) (s.unit n).info.rolls ++
          ((s.unit n).current.fields ++ ([fByte (openerField (s.unit n).opener)] ++
            (s.slotList n ++ s.rollingFields n))))) := by
      rw [if_neg (Nat.not_lt.2 (Nat.le_of_lt_succ hn)),
        State.reads_enlist s q 0x11 none (fun s => s.unitFields n) (fun _ _ => rfl) fun _ _ => rfl]
      simp [State.unitFields, SlateInfo.fields]
    obtain ⟨t, ht, hi, hs, ha⟩ := ask_answered h (answer := fun s =>
      if 3 < n then (.outOfRange, []) else (.ok, s.unitFields n)) (holds_byte (n := n) (by omega)) hread
    exact ⟨t, _, ht, hi, hs, ha⟩
  · obtain ⟨t, ht, hi, hs, ha⟩ := ask_answered (k := 0x0F) h rfl (answer := fun s => (.ok, s.radioFields))
      (l := s.radioFields) (by
        rw [State.reads_enlist s q 0x0F none State.radioFields (fun _ _ => rfl) fun _ _ => rfl])
    simp only [State.radioFields, List.append_assoc] at ha
    exact ⟨t, _, ht, hi, hs, ha⟩
  · obtain ⟨t, ht, hi, hs, ha⟩ := ask_answered (k := 0x15) h rfl (answer := fun s => (.ok, s.tableFields))
      (l := s.tableFields) (by
        rw [State.reads_enlist s q 0x15 none State.tableFields (fun _ _ => rfl) fun _ _ => rfl])
    exact ⟨t, _, ht, hi, hs, ha⟩
  · refine ask_answered h rfl ?_
    rw [State.reads_enlist s q 0x1A none State.storeFields (fun _ _ => rfl) fun _ _ => rfl]
    rfl

/-! ### Profiles (R69, R71) -/

theorem State.profile_setProfile {s : State} {n : Nat} (hn : n < 8) (p : Profile) :
    (s.setProfile n p).profile n = p := by
  simp [State.profile, State.setProfile, hn]

theorem biasFits_of {b : Int} (h1 : -8 ≤ b) (h2 : b ≤ 7) : biasFits b = true :=
  decide_eq_true (by omega)

/-- The bytes of a level lie in their form. -/
theorem holdsInt_level {x : Int} (h1 : -127 ≤ x) (h2 : x ≤ 127) : holdsInt 1 x = true :=
  decide_eq_true ⟨le_trans (show -((128 : Nat) : Int) ≤ -127 by decide) h1,
    lt_of_le_of_lt h2 (show (127 : Int) < (128 : Nat) by decide)⟩

theorem profileBegin_loaded {q : Req} {n : Nat} {s : State} (htaken : Taken s q)
    (hp : q.port = .control) (happ : s.store.applied = true) (hn : n < 8) {count : Nat} {bias : Int}
    (h1 : 1 ≤ count) (h2 : count ≤ 12) (h3 : -8 ≤ bias) (h4 : bias ≤ 7) :
    ∃ t, exec (.profileBegin q n count bias) s = .next t ∧
      t.profile n = .make .loading count bias [] ∧
      t.inner = (s.setProfile n (.make .loading count bias [])).inner ∧ Silent s t ∧
      Answered s t q 0x0B .ok [fByte n, fByte 1, fByte 0, fCount (t.profile n).crc] := by
  obtain ⟨p, hpr⟩ : ∃ p, p = Profile.make .loading count bias [] := ⟨_, rfl⟩
  obtain ⟨u, hu⟩ : ∃ u, u = (s.enlist q 0x0B).setProfile n p := ⟨_, rfl⟩
  have hprof : u.profile n = p := by rw [hu, State.profile_setProfile hn]
  have hexec : exec (.profileBegin q n count bias) s =
      .next (u.reply q.port 0x0B q.tag .ok (u.profileReply n)).pump := by
    refine (finish_taken htaken (Class.admits_control hp)
      (by simp [holds, biasFits_of h3 h4]; omega)).trans ?_
    rw [if_neg (by simp [happ]), if_neg (by omega), ← hpr, ← hu]
  have hreply : u.profileReply n = [fByte n, fByte 1, fByte 0, fCount p.crc] := by
    rw [State.profileReply, hprof, hpr]
    rfl
  obtain ⟨ha, hs⟩ := answered_silent (q := q) (k := 0x0B) (st := .ok) (l := u.profileReply n)
    ((noReply_enlist s q 0x0B none).trans (.of_eq (t := u) (by rw [hu]; rfl) (by rw [hu]; rfl)))
    ((mum_enlist s q 0x0B none).trans (.of_eq (t := u) (by rw [hu]; rfl) (by rw [hu]; rfl)
      (by rw [hu]; rfl)))
  have hsent : (u.reply q.port 0x0B q.tag .ok (u.profileReply n)).pump.profile n = p := by
    rw [State.sent_profile, hprof]
  refine ⟨_, hexec, by rw [hsent, hpr], ?_, hs, ?_⟩
  · rw [← hpr]
    exact State.inner_ext (by simp [hu, State.setProfile])
  · rw [hsent, ← hreply]
    exact ha

/-- The points of a request in their ranges fit their forms. -/
theorem pointsFit_of {l : List (Nat × Int)} (hl : l.length ≤ 4)
    (h : ∀ x ∈ l, x.1 ≤ 15 ∧ -127 ≤ x.2 ∧ x.2 ≤ 127) : pointsFit l = true := by
  rw [pointsFit, Bool.and_eq_true, List.all_eq_true]
  refine ⟨holds_byte (by omega), fun x hx => ?_⟩
  obtain ⟨h1, h2, h3⟩ := h x hx
  rw [holds_byte (by omega), holdsInt_level h2 h3]
  rfl

/-- A profile with points added. -/
def Profile.added (f : Profile) (points : List (Nat × Int)) : Profile :=
  .make (if (f.points ++ points).length = f.count then .complete else .loading) f.count f.bias
    (f.points ++ points)

theorem State.storePoints_eq (s : State) (n : Nat) (points : List (Nat × Int)) :
    s.storePoints n points =
      if ((s.profile n).points ++ points).length = (s.profile n).count then
        (s.setProfile n ((s.profile n).added points)).notify 0x4C [fByte n, fByte (s.profile n).count,
          fByte (biasCode (s.profile n).bias), fCount ((s.profile n).added points).crc,
          fTick s.houseTime]
      else s.setProfile n ((s.profile n).added points) := by
  simp only [State.storePoints, Profile.added, decide_eq_true_eq]

theorem exec_profilePoints {q : Req} {n : Nat} {s : State} (htaken : Taken s q)
    (hp : q.port = .control) (happ : s.store.applied = true) (hn : n < 8)
    {points : List (Nat × Int)} (h1 : 1 ≤ points.length) (h4 : points.length ≤ 4)
    (hst : (s.profile n).state = .loading)
    (hroom : (s.profile n).points.length + points.length ≤ (s.profile n).count)
    (hpts : ∀ x ∈ points, x.1 ≤ 15 ∧ -127 ≤ x.2 ∧ x.2 ≤ 127) :
    exec (.profilePoints q n points) s =
      .next ((((s.enlist q 0x0C).storePoints n points).reply q.port 0x0C q.tag .ok
        (((s.enlist q 0x0C).storePoints n points).profileReply n)).pump) := by
  refine (finish_taken htaken (Class.admits_control hp)
    (by rw [holds_byte (by omega), pointsFit_of h4 hpts]; rfl)).trans ?_
  have hany : ¬ (points.any fun x => decide (15 < x.1 ∨ x.2 < -127 ∨ 127 < x.2)) = true := by
    rw [List.any_eq_true]
    rintro ⟨x, hx, hbad⟩
    obtain ⟨a1, a2, a3⟩ := hpts x hx
    have := of_decide_eq_true hbad
    omega
  dsimp only
  rw [if_neg (by simp [happ]), if_neg (by omega), if_neg (by omega),
    if_neg (by rw [State.enlist_profile, hst]; exact not_not.2 rfl),
    if_neg (by rw [State.enlist_profile]; omega), if_neg hany]

theorem profilePoints_loaded {q : Req} {n : Nat} {s : State} (htaken : Taken s q)
    (hp : q.port = .control) (happ : s.store.applied = true) (hn : n < 8)
    {points : List (Nat × Int)} (h1 : 1 ≤ points.length) (h4 : points.length ≤ 4)
    (hst : (s.profile n).state = .loading)
    (hroom : (s.profile n).points.length + points.length ≤ (s.profile n).count)
    (hpts : ∀ x ∈ points, x.1 ≤ 15 ∧ -127 ≤ x.2 ∧ x.2 ≤ 127) :
    ∃ t p, p = (s.profile n).added points ∧ exec (.profilePoints q n points) s = .next t ∧
      t.profile n = p ∧ t.inner = (s.setProfile n p).inner ∧
      Answered s t q 0x0C .ok [fByte n, fByte p.state.code, fByte p.points.length, fCount p.crc] ∧
      (p.state = .loading → Silent s t) ∧
      (p.state = .complete → Raised s t 0x4C [fByte n, fByte p.count, fByte (biasCode p.bias),
        fCount p.crc, fTick s.houseTime]) := by
  obtain ⟨p, hpr⟩ : ∃ p, p = (s.profile n).added points := ⟨_, rfl⟩
  obtain ⟨u, hu⟩ : ∃ u, u = (s.enlist q 0x0C).setProfile n p := ⟨_, rfl⟩
  have hexec := exec_profilePoints htaken hp happ hn h1 h4 hst hroom hpts
  have hno : NoReply s u := (noReply_enlist s q 0x0C none).trans
    (.of_eq (by rw [hu]; rfl) (by rw [hu]; rfl))
  have hmum : Mum s u := (mum_enlist s q 0x0C none).trans
    (.of_eq (by rw [hu]; rfl) (by rw [hu]; rfl) (by rw [hu]; rfl))
  have hinner : u.inner = (s.setProfile n p).inner :=
    State.inner_ext (by simp [hu, State.setProfile])
  have hprof : u.profile n = p := by rw [hu, State.profile_setProfile hn]
  rw [State.storePoints_eq] at hexec
  simp only [State.enlist_profile, State.enlist_houseTime, ← hpr, ← hu] at hexec
  refine ⟨_, p, hpr, hexec, ?_⟩
  by_cases hfull : ((s.profile n).points ++ points).length = (s.profile n).count
  · have hstate : p.state = .complete := by rw [hpr, Profile.added, if_pos hfull]; rfl
    rw [if_pos hfull]
    obtain ⟨w, hw⟩ : ∃ w, w = u.notify 0x4C [fByte n, fByte (s.profile n).count,
      fByte (biasCode (s.profile n).bias), fCount p.crc, fTick s.houseTime] := ⟨_, rfl⟩
    obtain ⟨ha, hr⟩ := answered_raised (q := q) (k := 0x0C) (st := .ok) (n := 0x4C)
      (l := w.profileReply n) (b := [fByte n, fByte (s.profile n).count,
      fByte (biasCode (s.profile n).bias), fCount p.crc, fTick s.houseTime]) hno hmum
    rw [← hw] at ha hr ⊢
    have hwprof : w.profile n = p := by rw [hw, State.profile_congr (State.notify_profiles _ _ _), hprof]
    have hreply : w.profileReply n = [fByte n, fByte p.state.code, fByte p.points.length,
      fCount p.crc] := by simp only [State.profileReply, hwprof]
    refine ⟨by rw [State.sent_profile, hwprof], ?_, by rw [← hreply]; exact ha, ?_, fun _ => ?_⟩
    · rw [State.inner_pump, State.inner_reply, hw, State.inner_notify, hinner]
    · rw [hstate]; exact nofun
    · have hcount : p.count = (s.profile n).count ∧ p.bias = (s.profile n).bias := by
        rw [hpr]; exact ⟨rfl, rfl⟩
      rw [hcount.1, hcount.2]
      exact hr
  · have hstate : p.state = .loading := by rw [hpr, Profile.added, if_neg hfull]; rfl
    rw [if_neg hfull]
    obtain ⟨ha, hs⟩ := answered_silent (q := q) (k := 0x0C) (st := .ok) (l := u.profileReply n)
      hno hmum
    have hreply : u.profileReply n = [fByte n, fByte p.state.code, fByte p.points.length,
      fCount p.crc] := by simp only [State.profileReply, hprof]
    refine ⟨by rw [State.sent_profile, hprof], ?_, by rw [← hreply]; exact ha, fun _ => hs, ?_⟩
    · rw [State.inner_pump, State.inner_reply, hinner]
    · rw [hstate]; exact nofun

/-- Settles O23: each request replaces one profile, and the CRC is made with it. -/
theorem profileLoaded : Obligations.ProfileLoaded := by
  intro q n s htaken hp happ hn
  refine ⟨fun count bias h1 h2 h3 h4 => ?_, fun points h1 h4 hst hroom hpts => ?_⟩
  · obtain ⟨t, ht, hprof, hinner, hs, ha⟩ := profileBegin_loaded htaken hp happ hn h1 h2 h3 h4
    refine ⟨t, ht, ?_⟩
    rw [hprof] at ha ⊢
    exact ⟨rfl, rfl, rfl, rfl, rfl, hinner, hs, ha⟩
  · obtain ⟨t, p, hpr, ht, hprof, hinner, ha, hs, hr⟩ :=
      profilePoints_loaded htaken hp happ hn h1 h4 hst hroom hpts
    have hcontent : p.points = (s.profile n).points ++ points ∧ p.count = (s.profile n).count ∧
        p.bias = (s.profile n).bias := by rw [hpr]; exact ⟨rfl, rfl, rfl⟩
    obtain ⟨hpoints, hcount, hbias⟩ := hcontent
    have hcrc : p.crc = crc16 (encodeFields ([fByte (s.profile n).count,
        fByte (biasCode (s.profile n).bias), fByte p.points.length] ++
        p.points.flatMap fun x => [fByte x.1, fLevel x.2])) := by rw [hpr]; rfl
    have hstate : p.state = if p.points.length = p.count then .complete else .loading := by
      rw [hpr]; rfl
    refine ⟨t, ht, ?_⟩
    rw [hprof]
    refine ⟨hpoints, hcount, hbias, hcrc, ?_, ?_, hinner, ha, hs, hr⟩
    · rw [hstate]; split <;> simp_all
    · rw [hstate]; split
      · exact .inl rfl
      · exact .inr rfl

/-! ### Slate info (R118) -/

/-- A pair is in the list after one is set when it was there for another slot, or is the one set. -/
theorem mem_setRoll {l : List (Nat × Text)} {p y : Nat × Text} :
    y ∈ setRoll l p ↔ (y ∈ l ∧ y.1 ≠ p.1) ∨ (y = p ∧ p.2 ≠ []) := by
  unfold setRoll
  split
  · rename_i hp
    simp [hp]
  · rename_i hp
    split
    · rename_i hany
      obtain ⟨z, hz, hzp⟩ := List.any_eq_true.1 hany
      have hzp : z.1 = p.1 := by simpa using hzp
      rw [List.mem_map]
      constructor
      · rintro ⟨x, hx, rfl⟩
        split
        · exact .inr ⟨rfl, hp⟩
        · rename_i hne
          exact .inl ⟨hx, hne⟩
      · rintro (⟨hy, hne⟩ | ⟨rfl, -⟩)
        · exact ⟨y, hy, if_neg hne⟩
        · exact ⟨z, hz, if_pos hzp⟩
    · rename_i hany
      have hno : ∀ x ∈ l, x.1 ≠ p.1 := fun x hx he =>
        hany (List.any_eq_true.2 ⟨x, hx, decide_eq_true he⟩)
      rw [List.mem_append, List.mem_singleton]
      exact or_congr (iff_self_and.2 (hno y)) (iff_self_and.2 fun _ => hp)

/-- Pairs set one after the other, no slot named twice. -/
theorem mem_setRolls {ps l : List (Nat × Text)} {y : Nat × Text} (hn : (ps.map Prod.fst).Nodup) :
    y ∈ ps.foldl setRoll l ↔ (y ∈ l ∧ ∀ x ∈ ps, x.1 ≠ y.1) ∨ (y ∈ ps ∧ y.2 ≠ []) := by
  induction ps generalizing l with
  | nil => simp
  | cons p ps ih =>
    obtain ⟨hp, hps⟩ := List.nodup_cons.1 hn
    have hother : ∀ x ∈ ps, x.1 ≠ p.1 := fun x hx he => hp (he ▸ List.mem_map_of_mem hx)
    rw [List.foldl_cons, ih hps, mem_setRoll, List.forall_mem_cons, List.mem_cons]
    constructor
    · rintro (⟨⟨hy, hne⟩ | ⟨rfl, hp2⟩, hall⟩ | ⟨hy, hy2⟩)
      · exact .inl ⟨hy, Ne.symm hne, hall⟩
      · exact .inr ⟨.inl rfl, hp2⟩
      · exact .inr ⟨.inr hy, hy2⟩
    · rintro (⟨hy, hne, hall⟩ | ⟨rfl | hy, hy2⟩)
      · exact .inl ⟨.inl ⟨hy, Ne.symm hne⟩, hall⟩
      · exact .inl ⟨.inr ⟨rfl, hy2⟩, hother⟩
      · exact .inr ⟨hy, hy2⟩

theorem State.unit_modUnit {s : State} {u : Nat} (hu : u < 4) (f : UnitRec → UnitRec) :
    (s.modUnit u f).unit u = f (s.unit u) := by
  simp [State.unit, State.modUnit, hu]

/-- Settles O34: the change of the slate info, and the pairs set one after the other. -/
theorem slateSet : Obligations.SlateSet := by
  intro q a s htaken hp hfit hu hidle hok
  obtain ⟨i, hi⟩ : ∃ i, i = (s.unit a.unit).info.change a := ⟨_, rfl⟩
  obtain ⟨u, huu⟩ : ∃ u, u = (s.enlist q 0x10).modUnit a.unit fun x => { x with info := i } := ⟨_, rfl⟩
  have hunit : u.unit a.unit = { s.unit a.unit with info := i } := by
    rw [huu, State.unit_modUnit hu, State.enlist_unit]
  have hroll : ((s.enlist q 0x10).unit a.unit).rolling = false := by
    rw [State.enlist_unit]
    simp [UnitRec.rolling, hidle]
  have hok' : (s.enlist q 0x10).slateOk a = true := by
    rw [State.reads_enlist s q 0x10 none (fun s => s.slateOk a) (fun _ _ => rfl) fun _ _ => rfl, hok]
  have hmod : ((s.enlist q 0x10).modUnit a.unit fun x => { x with info := x.info.change a }) = u := by
    rw [huu, hi]
    simp only [State.modUnit, State.enlist_unit]
  have hexec : exec (.setSlate q a) s = .next (u.reply q.port 0x10 q.tag .ok i.fields).pump := by
    refine (finish_taken htaken (Class.admits_control hp) hfit).trans ?_
    dsimp only
    rw [if_neg (by omega), if_neg (by rw [hroll]; nofun), if_neg (by rw [hok']; nofun), hmod, hunit]
  obtain ⟨ha, hs⟩ := answered_silent (q := q) (k := 0x10) (st := .ok) (l := i.fields)
    ((noReply_enlist s q 0x10 none).trans (.of_eq (t := u) (by rw [huu]; rfl) (by rw [huu]; rfl)))
    ((mum_enlist s q 0x10 none).trans (.of_eq (t := u) (by rw [huu]; rfl) (by rw [huu]; rfl)
      (by rw [huu]; rfl)))
  have hnodup : (a.rolls.map Prod.fst).Nodup := by
    simp only [State.slateOk, namedOnce, Bool.and_eq_true, decide_eq_true_eq] at hok
    exact hok.2
  have hrolls : ∀ y, y ∈ i.rolls ↔ (y ∈ (s.unit a.unit).info.rolls ∧ ∀ x ∈ a.rolls, x.1 ≠ y.1) ∨
      (y ∈ a.rolls ∧ y.2 ≠ []) := fun y => by rw [hi]; exact mem_setRolls hnodup
  have htake : i.takeNo = a.takeNo.getD
      (if i.scene = (s.unit a.unit).info.scene then (s.unit a.unit).info.takeNo else 1) := by
    rw [hi]; rfl
  refine ⟨_, i, hexec, by rw [State.sent_unit, hunit], by rw [hi]; rfl, fun n hn => ?_,
    fun hn hne => ?_, fun hn he => ?_, fun x hx hx2 => (hrolls x).2 (.inr ⟨hx, hx2⟩),
    fun x hx hx2 y hy => ?_, fun y hy hall => (hrolls y).2 (.inl ⟨hy, hall⟩), ?_, hs, ha⟩
  · rw [htake, hn]; rfl
  · rw [htake, hn, if_neg hne]; rfl
  · rw [htake, hn, if_pos he]; rfl
  · rcases (hrolls y).1 hy with ⟨-, hall⟩ | ⟨hya, hy2⟩
    · exact Ne.symm (hall x hx)
    · intro he
      have hxy : y = x := List.inj_on_of_nodup_map hnodup hya hx he
      exact hy2 (hxy ▸ hx2)
  · exact State.inner_ext (by simp [huu, State.modUnit])

/-! ### The radio setting (R93, R89) -/

theorem mem_insertByAge {q y : Request} {l : List Request} :
    y ∈ insertByAge q l ↔ y = q ∨ y ∈ l := by
  induction l with
  | nil => simp [insertByAge]
  | cons x l ih =>
    unfold insertByAge
    split
    · simp
    · rw [List.mem_cons, ih, List.mem_cons]
      tauto

/-- An abandoned request returns with its class, slot and age, and with the label frame of one of its
class posted meanwhile. -/
theorem Radio.restore_spec (r : Radio) (q : Request) :
    r.restore q = { r with requests := (r.restore q).requests } ∧
    ∃ y ∈ (r.restore q).requests, y.cls = q.cls ∧ y.slot = q.slot ∧ y.age = q.age ∧
      ((∀ x ∈ r.requests, ¬ (x.cls = q.cls ∧ x.slot = q.slot)) → y = q) ∧
      (∀ x ∈ r.requests, x.cls = q.cls → x.slot = q.slot →
        (∀ z ∈ r.requests, z.cls = x.cls → z.slot = x.slot → z = x) → y.frame = x.frame) ∧
      (∀ x ∈ (r.restore q).requests, x = y ∨ x ∈ r.requests) ∧
      (∀ x ∈ r.requests, ¬ (x.cls = q.cls ∧ x.slot = q.slot) → x ∈ (r.restore q).requests) := by
  unfold Radio.restore
  cases hf : r.requests.find? fun x => x.cls = q.cls && x.slot = q.slot with
  | none =>
    have hno : ∀ x ∈ r.requests, ¬ (x.cls = q.cls ∧ x.slot = q.slot) := by
      simpa using List.find?_eq_none.1 hf
    refine ⟨rfl, q, mem_insertByAge.2 (.inl rfl), rfl, rfl, rfl, fun _ => rfl,
      fun x hx hc hs _ => absurd ⟨hc, hs⟩ (hno x hx), fun x hx => mem_insertByAge.1 hx,
      fun x hx _ => mem_insertByAge.2 (.inr hx)⟩
  | some z =>
    have hz : z.cls = q.cls ∧ z.slot = q.slot := by simpa using List.find?_some hf
    have hzm := List.mem_of_find?_eq_some hf
    refine ⟨rfl, { q with frame := z.frame }, mem_insertByAge.2 (.inl rfl), rfl, rfl, rfl,
      fun hno => absurd hz (hno z hzm), fun x hx hc hs huniq => ?_, fun x hx => ?_,
      fun x hx hne => ?_⟩
    · rw [huniq z hzm (hz.1.trans hc.symm) (hz.2.trans hs.symm)]
    · rcases mem_insertByAge.1 hx with h | h
      · exact .inl h
      · exact .inr (List.mem_filter.1 h).1
    · exact mem_insertByAge.2 (.inr (List.mem_filter.2 ⟨hx, by
        rw [Bool.not_eq_true', Bool.and_eq_false_iff, decide_eq_false_iff_not, decide_eq_false_iff_not]
        exact not_and_or.1 hne⟩))

/-- The radio setting changed, and the request answered. -/
theorem radioEnable_taken {q : Req} {s : State} (htaken : Taken s q) (hp : q.port = .control)
    (happ : s.store.applied = true) (on : Bool) {r : Radio} (hr : s.radio.setEnabled on = r) :
    ∃ t, exec (.radioEnable q on) s = .next t ∧ t.radio = r ∧
      t.inner = { s with radio := r }.inner ∧ Silent s t ∧ Answered s t q 0x0E .ok [fFlag on] := by
  obtain ⟨u, hu⟩ : ∃ u : State, u = { s.enlist q 0x0E with radio := r } := ⟨_, rfl⟩
  have hexec : exec (.radioEnable q on) s =
      .next (u.reply q.port 0x0E q.tag .ok [fFlag on]).pump := by
    refine (finish_taken htaken (Class.admits_control hp) rfl).trans ?_
    rw [if_neg (by simp [happ]), State.enlist_radio, hr, ← hu]
  obtain ⟨ha, hs⟩ := answered_silent (q := q) (k := 0x0E) (st := .ok) (l := [fFlag on])
    ((noReply_enlist s q 0x0E none).trans (.of_eq (t := u) (by rw [hu]) (by rw [hu])))
    ((mum_enlist s q 0x0E none).trans (.of_eq (t := u) (by rw [hu]) (by rw [hu]) (by rw [hu])))
  exact ⟨_, hexec, by simp [hu], State.inner_ext (by simp [hu]), hs, ha⟩

/-- Settles O25: the setting changed, and off ends the transaction, whose request returns. -/
theorem radioEnabled : Obligations.RadioEnabled := by
  intro q s htaken hp happ
  refine ⟨?_, fun hoff => ?_, fun hon => ?_⟩
  · obtain ⟨t, ht, -, hi, hs, ha⟩ := radioEnable_taken htaken hp happ s.radio.enabled
      (r := s.radio) (if_pos rfl)
    exact ⟨t, ht, hi, hs, ha⟩
  · obtain ⟨t, ht, -, hi, hs, ha⟩ := radioEnable_taken htaken hp happ true
      (r := { s.radio with enabled := true }) (by simp [Radio.setEnabled, hoff])
    exact ⟨t, ht, hi, hs, ha⟩
  · obtain ⟨t, ht, hr, hi, hs, ha⟩ := radioEnable_taken htaken hp happ false
      (r := { s.radio.abandon with enabled := false }) (by simp [Radio.setEnabled, hon])
    obtain ⟨r0, hr0⟩ : ∃ r0 : Radio, r0 = { s.radio with
      opened := false, slotDue := none, flight := none } := ⟨_, rfl⟩
    have hquiet : (s.radio.flight = none ∨ ∃ f, s.radio.flight = some f ∧
        (f.request.cls = .display ∨ f.dropped = true)) → s.radio.abandon = r0 := by
      rw [hr0]
      rintro (h | ⟨f, h, hd⟩)
      · simp [Radio.abandon, h]
      · simp [Radio.abandon, h, hd]
    have hback : ∀ f, s.radio.flight = some f → f.request.cls ≠ .display → f.dropped = false →
        s.radio.abandon = r0.restore f.request := by
      intro f h hc hd
      rw [hr0]
      simp [Radio.abandon, h, hc, hd]
    have hshape : s.radio.abandon = { r0 with requests := s.radio.abandon.requests } := by
      cases h : s.radio.flight with
      | none => rw [hquiet (.inl h)]
      | some f =>
        by_cases hd : f.request.cls = .display ∨ f.dropped = true
        · rw [hquiet (.inr ⟨f, h, hd⟩)]
        · obtain ⟨hc, hd⟩ := not_or.1 hd
          rw [hback f h hc (by simpa using hd)]
          exact (r0.restore_spec f.request).1
    have hreq : t.radio.requests = s.radio.abandon.requests := by rw [hr]
    refine ⟨t, ht, ?_, fun h => ?_, fun f h hc hd => ?_, hs, ha⟩
    · rw [hi, hreq]
      have hset : ({ s.radio.abandon with enabled := false } : Radio) = { s.radio with
          enabled := false, opened := false, slotDue := none, flight := none
          requests := s.radio.abandon.requests } := by
        rw [hshape, hr0]
      rw [hset]
    · rw [hreq, hquiet h, hr0]
    · rw [hreq, hback f h hc hd]
      have hspec := (r0.restore_spec f.request).2
      have hrr : r0.requests = s.radio.requests := by rw [hr0]
      rw [hrr] at hspec
      exact hspec

end Sys2Proof.Machine
end

section
/-!
SUPPORT. The opening of a take: the entry it gets, the record it forms, the unit and devices it sets.
-/

namespace Sys2Proof.Machine

/-! ### Assigned devices -/

theorem State.mem_assigned {s : State} {u : Nat} {x : Nat × Device} :
    x ∈ s.assigned u ↔ s.dev x.1 = some x.2 ∧ x.2.set.unit = some u := by
  rw [State.assigned, List.mem_filter, State.mem_declared, decide_eq_true_eq]

theorem State.declared_congr {s t : State} (h : t.slots = s.slots) : t.declared = s.declared := by
  simp [State.declared, State.dev_congr h]

theorem State.assigned_congr {s t : State} (h : t.slots = s.slots) (u : Nat) :
    t.assigned u = s.assigned u := by rw [State.assigned, State.declared_congr h]; rfl

/-- The declared slots come once each. -/
theorem State.declared_nodup (s : State) : (s.declared.map Prod.fst).Nodup := by
  have hsub : (s.declared.map Prod.fst).Sublist (List.range 32) := by
    unfold State.declared
    generalize List.range 32 = l
    induction l with
    | nil => exact .slnil
    | cons i l ih =>
      cases hd : s.dev i with
      | none => simpa [hd] using ih.cons i
      | some d => simpa [hd] using ih.cons_cons i
  exact hsub.nodup List.nodup_range

theorem State.assigned_nodup (s : State) (u : Nat) : ((s.assigned u).map Prod.fst).Nodup :=
  (List.filter_sublist.map Prod.fst).nodup s.declared_nodup

/-! ### One change of each of a list of devices -/

/-- A change of the live state of each of a list of devices. -/
def State.modAll (s : State) (f : Live → Live) (l : List (Nat × Device)) : State :=
  l.foldl (fun t x => t.modLive x.1 f) s

section
variable (s : State) (f : Live → Live) (l : List (Nat × Device))

theorem State.modLive_eq (i : Nat) : s.modLive i f = { s with slots := (s.modLive i f).slots } := by
  unfold State.modLive
  split <;> rfl

theorem State.modAll_slots : ∃ x, s.modAll f l = { s with slots := x } := by
  induction l generalizing s with
  | nil => exact ⟨_, rfl⟩
  | cons z l ih =>
    obtain ⟨y, hy⟩ : ∃ y, s.modLive z.1 f = { s with slots := y } := ⟨_, s.modLive_eq f z.1⟩
    obtain ⟨x, hx⟩ := ih (s.modLive z.1 f)
    refine ⟨x, ?_⟩
    show (s.modLive z.1 f).modAll f l = _
    rw [hx, hy]

theorem State.modAll_eq : s.modAll f l = { s with slots := (s.modAll f l).slots } := by
  obtain ⟨x, hx⟩ := s.modAll_slots f l
  rw [hx]

theorem State.dev_modAll (hn : (l.map Prod.fst).Nodup) (i : Nat) : (s.modAll f l).dev i =
    if i ∈ l.map Prod.fst then (s.dev i).map fun d => { d with live := f d.live } else s.dev i := by
  induction l generalizing s with
  | nil => simp [State.modAll]
  | cons x l ih =>
    obtain ⟨hx, hl⟩ := List.nodup_cons.1 hn
    show ((s.modLive x.1 f).modAll f l).dev i = _
    rw [ih _ hl, State.dev_modLive]
    by_cases hi : i = x.1
    · subst hi
      rw [if_neg hx, if_pos rfl, if_pos (List.mem_map_of_mem List.mem_cons_self)]
    · rw [if_neg hi]
      refine if_congr ?_ rfl rfl
      rw [List.map_cons, List.mem_cons]
      exact (or_iff_right hi).symm

end

/-! ### The entry an opening gets (R124) -/

theorem evictable_iff {o : Option Entry} {n : Nat} : evictable o = some n ↔
    ∃ e, o = some e ∧ e.copy.state = .committed ∧ e.order.getD 0 = n := by
  cases o with
  | none => simp [evictable]
  | some e => simp [evictable]

/-- The lowest order is one of an entry of the list, and no other is lower. -/
theorem lowestOrder_spec (l : List (Option Entry × Nat)) :
    (∀ n k, lowestOrder l = some (n, k) → (∃ o, (o, k) ∈ l ∧ evictable o = some n) ∧
      ∀ x ∈ l, ∀ m, evictable x.1 = some m → n ≤ m) ∧
    (lowestOrder l = none → ∀ x ∈ l, evictable x.1 = none) := by
  induction l with
  | nil => simp [lowestOrder]
  | cons x l ih =>
    obtain ⟨e, i⟩ := x
    obtain ⟨ih1, ih2⟩ := ih
    unfold lowestOrder
    cases he : evictable e with
    | none =>
      cases hl : lowestOrder l with
      | none => simpa [he] using ih2 hl
      | some y =>
        obtain ⟨m, j⟩ := y
        obtain ⟨⟨o, ho, hom⟩, hmin⟩ := ih1 m j hl
        refine ⟨fun n k h => ?_, nofun⟩
        obtain ⟨rfl, rfl⟩ := Prod.mk.inj (Option.some.inj h)
        refine ⟨⟨o, List.mem_cons_of_mem _ ho, hom⟩, List.forall_mem_cons.2 ⟨fun p hp => ?_, hmin⟩⟩
        rw [he] at hp
        cases hp
    | some a =>
      cases hl : lowestOrder l with
      | none =>
        refine ⟨fun n k h => ?_, nofun⟩
        obtain ⟨rfl, rfl⟩ := Prod.mk.inj (Option.some.inj h)
        refine ⟨⟨e, List.mem_cons_self, he⟩, List.forall_mem_cons.2 ⟨fun p hp => ?_, fun z hz p hp => ?_⟩⟩
        · exact (Option.some.inj (he.symm.trans hp)).le
        · rw [ih2 hl z hz] at hp
          cases hp
      | some y =>
        obtain ⟨m, j⟩ := y
        obtain ⟨⟨o, ho, hom⟩, hmin⟩ := ih1 m j hl
        dsimp only
        split
        · rename_i hlt
          refine ⟨fun n k h => ?_, nofun⟩
          obtain ⟨rfl, rfl⟩ := Prod.mk.inj (Option.some.inj h)
          refine ⟨⟨e, List.mem_cons_self, he⟩, List.forall_mem_cons.2 ⟨fun p hp => ?_, fun z hz p hp => ?_⟩⟩
          · exact (Option.some.inj (he.symm.trans hp)).le
          · exact (hmin z hz p hp).trans' (Nat.le_of_lt hlt)
        · rename_i hge
          refine ⟨fun n k h => ?_, nofun⟩
          obtain ⟨rfl, rfl⟩ := Prod.mk.inj (Option.some.inj h)
          refine ⟨⟨o, List.mem_cons_of_mem _ ho, hom⟩,
            List.forall_mem_cons.2 ⟨fun p hp => ?_, hmin⟩⟩
          have := Option.some.inj (he.symm.trans hp)
          omega

theorem mem_zipIdx_entries {t : TakeTable} {o : Option Entry} {k : Nat} :
    (o, k) ∈ t.entries.toList.zipIdx ↔ ∃ h : k < 64, t.entries[k] = o := by
  rw [List.mem_zipIdx_iff_getElem?, List.getElem?_eq_some_iff]
  simp

/-- The entry an opening gets: a free one when there is one, else the one committed earliest. -/
theorem TakeTable.place_some {t : TakeTable} {k : Nat} (h : t.place = some k) :
    ∃ hk : k < 64, ((∃ j : Fin 64, t.entries[j] = none) → t.entries[k] = none) ∧
      ∀ x, t.entries[k] = some x → x.copy.state = .committed ∧
        ∀ (j : Fin 64) y, t.entries[j] = some y → y.copy.state = .committed →
          x.order.getD 0 ≤ y.order.getD 0 := by
  unfold TakeTable.place at h
  cases hf : t.entries.toList.zipIdx.find? fun x => x.1.isNone with
  | some z =>
    simp only [hf, Option.some.injEq] at h
    obtain ⟨o, j⟩ := z
    obtain rfl : j = k := h
    obtain ⟨hk, hz⟩ := mem_zipIdx_entries.1 (List.mem_of_find?_eq_some hf)
    have hnone : t.entries[j] = none := by simpa [hz] using List.find?_some hf
    exact ⟨hk, fun _ => hnone, fun x hx => by rw [hnone] at hx; cases hx⟩
  | none =>
    simp only [hf] at h
    obtain ⟨⟨n, j⟩, hl, rfl⟩ := Option.map_eq_some_iff.1 h
    obtain ⟨⟨o, ho, hon⟩, hmin⟩ := (lowestOrder_spec _).1 n j hl
    obtain ⟨hk, hz⟩ := mem_zipIdx_entries.1 ho
    have hfull := List.find?_eq_none.1 hf
    refine ⟨hk, fun ⟨i, hi⟩ => ?_, fun x hx => ?_⟩
    · have := hfull (none, i.1) (mem_zipIdx_entries.2 ⟨i.2, hi⟩)
      exact absurd rfl this
    · obtain ⟨e, rfl, hst, hord⟩ := evictable_iff.1 hon
      obtain rfl : e = x := Option.some.inj (hz.symm.trans hx)
      refine ⟨hst, fun i y hy hyst => ?_⟩
      rw [hord]
      exact hmin (some y, i.1) (mem_zipIdx_entries.2 ⟨i.2, hy⟩) _
        (evictable_iff.2 ⟨y, rfl, hyst, rfl⟩)

/-- An entry that is free or COMMITTED is enough to get one. -/
theorem TakeTable.place_none {t : TakeTable} (h : t.place = none) (k : Fin 64) :
    ∃ e, t.entries[k] = some e ∧ e.copy.state ≠ .committed := by
  unfold TakeTable.place at h
  cases hf : t.entries.toList.zipIdx.find? fun x => x.1.isNone with
  | some z =>
    simp only [hf] at h
    cases h
  | none =>
    simp only [hf, Option.map_eq_none_iff] at h
    have hm : (t.entries[k], k.1) ∈ t.entries.toList.zipIdx := mem_zipIdx_entries.2 ⟨k.2, rfl⟩
    have hsome := List.find?_eq_none.1 hf _ hm
    have hno := (lowestOrder_spec _).2 h _ hm
    cases hk : t.entries[k] with
    | none => rw [hk] at hsome; exact absurd rfl hsome
    | some e =>
      refine ⟨e, rfl, fun hst => ?_⟩
      rw [hk, evictable_iff.2 ⟨e, rfl, hst, rfl⟩] at hno
      cases hno

/-! ### Rolling (R122, R125) -/

theorem State.unit_modUnit_ne {s : State} {u v : Nat} (h : v ≠ u) (f : UnitRec → UnitRec) :
    (s.modUnit u f).unit v = s.unit v := by
  simp [State.unit, State.modUnit, Ne.symm h]

theorem State.startRolling_eq (s : State) (u : Nat) (o : Opener) (c : CurrentTake) :
    s.startRolling u o c = { s with
      slots := (s.startRolling u o c).slots, units := (s.startRolling u o c).units } := by
  obtain ⟨x, hx⟩ := (s.modUnit u fun x => { x with
    current := c, opener := some o, start := s.houseTime }).modAll_slots
      (fun l => { l with current := c }) (s.assigned u)
  have h : s.startRolling u o c = { s with
      slots := x
      units := (s.modUnit u fun y => { y with
        current := c, opener := some o, start := s.houseTime }).units } := hx
  rw [h]

theorem State.startRolling_rolls (s : State) {u : Nat} (hu : u < 4) (o : Opener) (c : CurrentTake) :
    UnitRolls s (s.startRolling u o c) u o c := by
  obtain ⟨v, hv⟩ : ∃ v, v = s.modUnit u fun x => { x with
    current := c, opener := some o, start := s.houseTime } := ⟨_, rfl⟩
  have heq : s.startRolling u o c = v.modAll (fun l => { l with current := c }) (s.assigned u) := by
    rw [hv]; rfl
  have hunits : (s.startRolling u o c).units = v.units := by rw [heq, State.modAll_eq]
  have hdev : ∀ i, (s.startRolling u o c).dev i = if i ∈ (s.assigned u).map Prod.fst then
      (s.dev i).map fun d => { d with live := { d.live with current := c } } else s.dev i := by
    intro i
    rw [heq, State.dev_modAll _ _ _ (s.assigned_nodup u), State.dev_congr (s := s) (by rw [hv]; rfl)]
  have hmem : ∀ i d, s.dev i = some d → (i ∈ (s.assigned u).map Prod.fst ↔ d.set.unit = some u) := by
    intro i d hd
    rw [List.mem_map]
    constructor
    · rintro ⟨⟨j, e⟩, hx, rfl⟩
      obtain ⟨he, hset⟩ := State.mem_assigned.1 hx
      rw [hd] at he
      cases he
      exact hset
    · exact fun h => ⟨(i, d), State.mem_assigned.2 ⟨hd, h⟩, rfl⟩
  refine ⟨?_, fun w hw => ?_, fun i d hd => ?_, fun i hd => ?_⟩
  · rw [State.unit_congr hunits, hv, State.unit_modUnit hu]
  · rw [State.unit_congr hunits, hv, State.unit_modUnit_ne hw]
  · rw [hdev, hd, if_congr (hmem i d hd) rfl rfl]
    split <;> rfl
  · rw [hdev, hd]
    split <;> rfl

/-- What rolling says is read of units, slots and the house time alone. -/
theorem UnitRolls.congr {s s' t t' : State} {u : Nat} {o : Opener} {c : CurrentTake}
    (h : UnitRolls s t u o c) (hu : s.units = s'.units) (hs : s.slots = s'.slots)
    (ht : s.houseTime = s'.houseTime) (hu' : t'.units = t.units) (hs' : t'.slots = t.slots) :
    UnitRolls s' t' u o c := by
  obtain ⟨h1, h2, h3, h4⟩ := h
  simp only [State.unit_congr hu, State.dev_congr hs, ht] at h1 h2 h3 h4
  refine ⟨?_, fun v hv => ?_, fun i d hd => ?_, fun i hd => ?_⟩
  · rw [State.unit_congr hu']; exact h1
  · rw [State.unit_congr hu']; exact h2 v hv
  · rw [State.dev_congr hs']; exact h3 i d hd
  · rw [State.dev_congr hs']; exact h4 i hd

/-! ### The two openings -/

/-- What an opening leaves, and what it says. -/
structure Opens (s t : State) (u : Nat) (o : Opener) (c : CurrentTake) (kind : Nat)
    (body : List Field) : Prop where
  rolls   : UnitRolls s t u o c
  inner   : t.inner = { s with slots := t.slots, units := t.units, takes := t.takes }.inner
  noReply : NoReply s t
  raised  : Raised s t kind body

theorem State.openUnlogged_opens {s : State} {u : Nat} (hu : u < 4) (o : Opener)
    (hp : s.takes.place = none) : s.openTake u o = s.openUnlogged u o ∧
      (s.openTake u o).takes = s.takes ∧
      Opens s (s.openTake u o) u o (.unlogged u) 0x4A ([fByte u] ++ fText (s.unit u).info.scene ++
        [fCount (s.unit u).info.takeNo, fByte o.code, fTick s.houseTime] ++ s.slotList u) := by
  have hopen : s.openTake u o = s.openUnlogged u o := by
    unfold State.openTake
    simp only [hp]
  obtain ⟨v, hv⟩ : ∃ v, v = s.startRolling u o (.unlogged u) := ⟨_, rfl⟩
  have heq : v = { s with slots := v.slots, units := v.units } := by
    rw [hv]; exact s.startRolling_eq u o _
  have hrolls : UnitRolls s v u o (.unlogged u) := by
    rw [hv]; exact s.startRolling_rolls hu o _
  have hnote : s.openTake u o = v.notify 0x4A ([fByte u] ++ fText (s.unit u).info.scene ++
      [fCount (s.unit u).info.takeNo, fByte o.code, fTick s.houseTime] ++ s.slotList u) := by
    rw [hopen, hv]
    rfl
  have hn : NoReply s v := .of_eq (by rw [heq]) (by rw [heq])
  have hm : Mum s v := .of_eq (by rw [heq]) (by rw [heq]) (by rw [heq])
  refine ⟨hopen, by rw [hnote, State.notify_takes, heq], ?_⟩
  rw [hnote]
  exact {
    rolls := hrolls.congr rfl rfl rfl (State.notify_units _ _ _) (State.notify_slots _ _ _)
    inner := by
      rw [State.inner_notify, State.notify_units, State.notify_slots, State.notify_takes]
      exact State.inner_ext (by rw [heq]; simp)
    noReply := hn.trans (noReply_notify _ _ _)
    raised := hm.raised (v.raised_notify _ _) }

theorem State.openLogged_opens {s : State} {u k : Nat} (hu : u < 4) (o : Opener)
    (hp : s.takes.place = some k) : s.openTake u o = s.openLogged u o k ∧
      (s.openTake u o).takes = { s.takes with
        lastIndex := s.takes.lastIndex + 1
        entries := s.takes.entries.setIfInBounds k
          (some ⟨s.newRecord u o (s.takes.lastIndex + 1), none, 0⟩) } ∧
      Opens s (s.openTake u o) u o (.logged s.store.session (s.takes.lastIndex + 1)) 0x47
        ([fByte u, fSession s.store.session, fIndex (s.takes.lastIndex + 1)] ++
          fText (s.unit u).info.scene ++ [fCount (s.unit u).info.takeNo, fByte o.code,
            fTick s.houseTime] ++ fLabel (houseLabel s.house s.houseTime) ++ s.slotList u) := by
  have hopen : s.openTake u o = s.openLogged u o k := by
    unfold State.openTake
    simp only [hp]
  obtain ⟨w, hw⟩ : ∃ w : State, w = { s with takes := { s.takes with
      lastIndex := s.takes.lastIndex + 1
      entries := s.takes.entries.setIfInBounds k
        (some ⟨s.newRecord u o (s.takes.lastIndex + 1), none, 0⟩) } } := ⟨_, rfl⟩
  obtain ⟨v, hv⟩ : ∃ v, v = w.startRolling u o (.logged s.store.session (s.takes.lastIndex + 1)) :=
    ⟨_, rfl⟩
  have heq : v = { w with slots := v.slots, units := v.units } := by
    rw [hv]; exact w.startRolling_eq u o _
  have hrolls : UnitRolls w v u o (.logged s.store.session (s.takes.lastIndex + 1)) := by
    rw [hv]; exact w.startRolling_rolls hu o _
  have hnote : s.openTake u o = v.notify 0x47
      ([fByte u, fSession s.store.session, fIndex (s.takes.lastIndex + 1)] ++
        fText (s.unit u).info.scene ++ [fCount (s.unit u).info.takeNo, fByte o.code,
          fTick s.houseTime] ++ fLabel (houseLabel s.house s.houseTime) ++ s.slotList u) := by
    rw [hopen, hv, hw]
    rfl
  have hn : NoReply s v := .of_eq (by rw [heq, hw]) (by rw [heq, hw])
  have hm : Mum s v := .of_eq (by rw [heq, hw]) (by rw [heq, hw]) (by rw [heq, hw])
  refine ⟨hopen, by rw [hnote, State.notify_takes, heq, hw], ?_⟩
  rw [hnote]
  exact {
    rolls := hrolls.congr (by rw [hw]) (by rw [hw]) (by rw [hw]; rfl) (State.notify_units _ _ _)
      (State.notify_slots _ _ _)
    inner := by
      rw [State.inner_notify, State.notify_units, State.notify_slots, State.notify_takes]
      exact State.inner_ext (by rw [heq, hw]; simp)
    noReply := hn.trans (noReply_notify _ _ _)
    raised := hm.raised (v.raised_notify _ _) }

end Sys2Proof.Machine
end

section
/-!
SUPPORT and THEOREM. START_TAKE (R120, R122, R123): the record found in the table, its participants,
and O35.
-/

namespace Sys2Proof.Machine

/-! ### Finding an entry -/

theorem mem_entries {t : TakeTable} {o : Option Entry} :
    o ∈ t.entries.toList ↔ ∃ k : Fin 64, t.entries[k] = o := by
  rw [List.mem_iff_getElem]
  constructor
  · rintro ⟨k, hk, h⟩
    exact ⟨⟨k, by simpa using hk⟩, by simpa using h⟩
  · rintro ⟨k, h⟩
    exact ⟨k.1, by simp, by simpa using h⟩

theorem mem_heldEntries {t : TakeTable} {e : Entry} :
    e ∈ t.entries.toList.filterMap id ↔ ∃ k : Fin 64, t.entries[k] = some e := by
  rw [List.mem_filterMap, ← mem_entries]
  simp

theorem State.findTake_some {s : State} {ss ix : Nat} {e : Entry} (h : s.findTake ss ix = some e) :
    (∃ k : Fin 64, s.takes.entries[k] = some e) ∧ e.copy.session = ss ∧ e.copy.index = ix := by
  refine ⟨mem_heldEntries.1 (List.mem_of_find?_eq_some h), ?_⟩
  simpa using List.find?_some h

/-- The one entry of a take is found. -/
theorem State.findTake_of_unique {s : State} {ss ix : Nat} {e : Entry}
    (hk : ∃ k : Fin 64, s.takes.entries[k] = some e) (hs : e.copy.session = ss)
    (hi : e.copy.index = ix) (huniq : ∀ (j : Fin 64) x, s.takes.entries[j] = some x →
      x.copy.session = ss → x.copy.index = ix → x = e) : s.findTake ss ix = some e := by
  have hmem := mem_heldEntries.2 hk
  cases hf : s.findTake ss ix with
  | none =>
    have := List.find?_eq_none.1 hf e hmem
    simp [hs, hi] at this
  | some x =>
    obtain ⟨⟨j, hj⟩, hxs, hxi⟩ := State.findTake_some hf
    rw [huniq j x hj hxs hxi]

theorem State.findTake_congr {s t : State} (h : t.takes.entries = s.takes.entries) (ss ix : Nat) :
    t.findTake ss ix = s.findTake ss ix := by simp [State.findTake, h]

/-- A record put in the table with an index above every other of its session is the one found. -/
theorem State.findTake_placed {s t : State} {k : Nat} {e : Entry} (hk : k < 64)
    (ht : t.takes.entries = s.takes.entries.setIfInBounds k (some e))
    (hle : ∀ x, some x ∈ s.takes.entries.toList → x.copy.session = e.copy.session →
      x.copy.index < e.copy.index) :
    t.findTake e.copy.session e.copy.index = some e := by
  refine State.findTake_of_unique ⟨⟨k, hk⟩, by simp [ht]⟩ rfl rfl fun j x hj hs hi => ?_
  by_cases hjk : j.1 = k
  · have : t.takes.entries[j] = some e := by
      simp only [ht, Fin.getElem_fin, hjk]
      simp
    rw [this] at hj
    exact (Option.some.inj hj).symm
  · have hold : s.takes.entries[j] = some x := by
      rw [← hj]
      simp only [ht, Fin.getElem_fin]
      rw [Vector.getElem_setIfInBounds_ne _ (Ne.symm hjk)]
    have := hle x (mem_entries.2 ⟨j, hold⟩) hs
    omega

/-! ### Participants (R123) -/

theorem wiredFrame_nat (code phase origin t : Nat) :
    wiredFrame code phase origin (t : Int) = ((t + phase) / periodOf code + origin) % dayOf code := by
  unfold wiredFrame wiredCount
  norm_cast

theorem State.participants_slots (s : State) (t u : Nat) :
    (s.participants t u).map Participant.slot = (s.assigned u).map Prod.fst := by
  simp [State.participants, State.participant, Function.comp_def]

/-- A participant is the entry of the device of its slot. -/
theorem State.mem_participants {s : State} {t u : Nat} {p : Participant}
    (hp : p ∈ s.participants t u) {d : Device} (hd : s.dev p.slot = some d) :
    p = s.participant t p.slot d := by
  obtain ⟨⟨i, e⟩, hx, rfl⟩ := List.mem_map.1 hp
  obtain ⟨he, -⟩ := State.mem_assigned.1 hx
  have hslot : (s.participant t i e).slot = i := rfl
  rw [hslot] at hd ⊢
  rw [he] at hd
  cases hd
  rfl

/-- The entry of a wired device. -/
theorem State.participant_wired {s : State} {d : Device} {n : Nat} (h : d.set.att = .line n)
    (i : Nat) : (s.participant s.houseTime i d).phase = d.set.phase ∧
      (s.participant s.houseTime i d).origin = d.set.origin ∧
      (s.participant s.houseTime i d).segments = [] ∧
      (s.participant s.houseTime i d).uncertain = false ∧
      (s.participant s.houseTime i d).startFrame =
        some (((s.houseTime + d.set.phase) / periodOf d.set.rate + d.set.origin) % dayOf d.set.rate) ∧
      (s.participant s.houseTime i d).lineFault =
        if (s.line n).state = .active then none else some s.houseTime := by
  have hr : d.isRadio = false := by simp [Device.isRadio, h]
  have hl : d.lineNo = some n := by simp [Device.lineNo, h]
  refine ⟨by simp [State.participant, hr], by simp [State.participant, hr],
    by simp [State.participant, hr], by simp [State.participant, Device.uncertainAtOpen, hr], ?_, ?_⟩
  · exact (d.frameAt_wired _ hr).trans (congrArg some (wiredFrame_nat _ _ _ _))
  · simp only [State.participant, State.lineDown, hl, decide_not, Bool.not_eq_true',
      decide_eq_false_iff_not]
    split <;> simp_all

/-- The entry of a radio device. -/
theorem State.participant_radio {s : State} {d : Device} {a : Nat} (h : d.set.att = .radio a)
    (i : Nat) : (s.participant s.houseTime i d).lineFault = none ∧
      (d.live.jam = none → (s.participant s.houseTime i d).segments = [] ∧
        (s.participant s.houseTime i d).startFrame = none ∧
        (s.participant s.houseTime i d).uncertain = true) ∧
      (∀ j n0, d.live.jam = some (j, n0) →
        (s.participant s.houseTime i d).segments = [⟨j, n0, d.live.rate, d.live.lastResidual⟩] ∧
        (s.participant s.houseTime i d).startFrame =
          some (radioFrame d.set.rate j n0 d.live.rate s.houseTime) ∧
        ((s.participant s.houseTime i d).uncertain = true ↔ d.live.state = .drifting)) := by
  have hr : d.isRadio = true := by simp [Device.isRadio, h]
  have hl : d.lineNo = none := by simp [Device.lineNo, h]
  have hframe : (s.participant s.houseTime i d).startFrame = d.frameAt s.houseTime := rfl
  rw [hframe, d.frameAt_radio _ hr]
  refine ⟨by simp [State.participant, State.lineDown, hl], fun hj => ?_, fun j n0 hj => ?_⟩
  · simp [State.participant, hr, Live.segment, Device.uncertainAtOpen, hj]
  · simp [State.participant, hr, Live.segment, Device.uncertainAtOpen, hj]

/-! ### START_TAKE (R120) -/

/-- The opening of a taken START_TAKE, and its reply. -/
theorem exec_startTake {q : Req} {u : Nat} {s : State} (h : Taken s q) (hp : q.port = .control)
    (hu : u < 4) (hscan : s.store.scanned = true) (hidle : (s.unit u).current = .none)
    (hdev : s.assigned u ≠ []) :
    exec (.startTake q u) s = .next ((((s.enlist q 0x12).openTake u .host).reply q.port 0x12 q.tag .ok
      ((s.enlist q 0x12).startFields ((s.enlist q 0x12).openTake u .host) u)).pump) := by
  have hroll : ((s.enlist q 0x12).unit u).rolling = false := by
    simp [UnitRec.rolling, hidle]
  have hassigned : ((s.enlist q 0x12).assigned u).isEmpty = false := by
    rw [State.assigned_congr (s.enlist_slots q 0x12 none)]
    simpa using hdev
  refine (finish_taken h (Class.admits_control hp) (holds_byte (by omega))).trans ?_
  dsimp only
  rw [if_neg (by omega), if_neg (by simp [hscan]), if_neg (by rw [hroll]; nofun),
    if_neg (by rw [hassigned]; nofun)]

/-- What a taken START_TAKE leaves once its opening is known on the listed request. -/
theorem startTake_sent {q : Req} {u : Nat} {s v : State} {c : CurrentTake} {kind : Nat}
    {body l : List Field} (h : Opens (s.enlist q 0x12) v u .host c kind body) :
    UnitRolls s (v.reply q.port 0x12 q.tag .ok l).pump u .host c ∧
      (v.reply q.port 0x12 q.tag .ok l).pump.inner = { s with
        slots := (v.reply q.port 0x12 q.tag .ok l).pump.slots
        units := (v.reply q.port 0x12 q.tag .ok l).pump.units
        takes := (v.reply q.port 0x12 q.tag .ok l).pump.takes }.inner ∧
      Answered s (v.reply q.port 0x12 q.tag .ok l).pump q 0x12 .ok l ∧
      Raised s (v.reply q.port 0x12 q.tag .ok l).pump kind body := by
  refine ⟨h.rolls.congr (by simp) (by simp) (by simp) (by simp) (by simp), ?_,
    (((noReply_enlist s q 0x12 none).trans h.noReply).answered (answered_reply v q 0x12 .ok l)).noReply
      (noReply_pump _), ((mum_enlist s q 0x12 none).raised h.raised).silent
      ((mum_reply _ _ _ _ _ _).silent.trans (silent_pump _))⟩
  rw [State.inner_pump, State.inner_reply, h.inner]
  exact State.inner_ext (by simp)

/-- A participant of a record formed now, as its device stands. -/
theorem State.newRecord_participant {s : State} {u ix : Nat} {o : Opener} {p : Participant}
    (hp : p ∈ (s.newRecord u o ix).participants) {d : Device} (hd : s.dev p.slot = some d) :
    p = { p with
      kind := d.set.kind
      att := d.set.att
      rate := d.set.rate
      endFrame := none
      rollStart := none
      rollStop := none
      rejammed := false } ∧
    (d.set.kind = .recorder → p.audio = d.set.audio ∧ p.pull = d.set.pull) ∧
    (∀ n, d.set.att = .line n → p.phase = d.set.phase ∧ p.origin = d.set.origin ∧
      p.segments = [] ∧ p.uncertain = false ∧
      p.startFrame = some (((s.houseTime + d.set.phase) / periodOf d.set.rate +
        d.set.origin) % dayOf d.set.rate) ∧
      p.lineFault = if (s.line n).state = .active then none else some s.houseTime) ∧
    (∀ a, d.set.att = .radio a → p.lineFault = none ∧
      (d.live.jam = none → p.segments = [] ∧ p.startFrame = none ∧ p.uncertain = true) ∧
      (∀ j n0, d.live.jam = some (j, n0) →
        p.segments = [⟨j, n0, d.live.rate, d.live.lastResidual⟩] ∧
        p.startFrame = some (radioFrame d.set.rate j n0 d.live.rate s.houseTime) ∧
        (p.uncertain = true ↔ d.live.state = .drifting))) := by
  have heq : p = s.participant s.houseTime p.slot d := State.mem_participants hp hd
  refine ⟨?_, fun hk => ?_, fun n hn => ?_, fun a ha => ?_⟩
  · rw [heq]; rfl
  · rw [heq]; simp [State.participant, hk]
  · rw [heq]; exact State.participant_wired hn _
  · rw [heq]; exact State.participant_radio ha _

/-- Settles O35: the record is formed on the listed request, put in the entry that `place` finds, and
found there since every index of its session in the table is lower. -/
theorem takeOpens : Obligations.TakeOpens := by
  intro q u ix s htaken hp hu hscan hidle hdev hix
  obtain ⟨s', hs'⟩ : ∃ s', s' = s.enlist q 0x12 := ⟨_, rfl⟩
  have hexec := exec_startTake htaken hp hu hscan hidle hdev
  rw [← hs'] at hexec
  have htakes : s'.takes = s.takes := by rw [hs', State.enlist_takes]
  have hstore : s'.store = s.store := by rw [hs', State.enlist_store]
  have hunit : s'.unit u = s.unit u := by rw [hs', State.enlist_unit]
  have hassigned : s'.assigned u = s.assigned u := by
    rw [hs', State.assigned_congr (s.enlist_slots q 0x12 none)]
  have hslots : s'.slotList u = fList (fun x => [fByte x.1]) (s.assigned u) := by
    rw [State.slotList, hassigned]
  have htime : s'.houseTime = s.houseTime := by rw [hs', State.enlist_houseTime]
  have hhouse : s'.house = s.house := by rw [hs', State.enlist_house]
  have hrecord : s'.newRecord u .host ix = s.newRecord u .host ix := by
    rw [hs', State.reads_enlist s q 0x12 none (fun s => s.newRecord u .host ix)
      (fun _ _ => rfl) fun _ _ => rfl]
  constructor
  · intro hle hfree
    have hplace : ∃ k, s.takes.place = some k := by
      cases hpl : s.takes.place with
      | some k => exact ⟨k, rfl⟩
      | none =>
        obtain ⟨k, hk⟩ := hfree
        obtain ⟨e, he, hne⟩ := TakeTable.place_none hpl k
        exact absurd (hk e he) hne
    obtain ⟨k, hpl⟩ := hplace
    obtain ⟨hk, hfirst, hlowest⟩ := TakeTable.place_some hpl
    obtain ⟨-, hnewtakes, hopens⟩ := State.openLogged_opens (s := s') hu .host (htakes ▸ hpl)
    rw [htakes, ← hix, hrecord] at hnewtakes
    rw [htakes, hstore, ← hix, hunit, htime, hhouse, hslots] at hopens
    obtain ⟨v, hv⟩ : ∃ v, v = s'.openTake u .host := ⟨_, rfl⟩
    rw [← hv] at hexec hnewtakes hopens
    have hcurrent : (v.unit u).current = .logged s.store.session ix := by rw [hopens.rolls.1]
    have hfields : s'.startFields v u = [fByte u, fSession s.store.session,
        fCount (s.unit u).info.takeNo, fTick s.houseTime, fCount (s.assigned u).length, fByte 0,
        fIndex ix] := by
      rw [State.startFields, hcurrent, hstore, hunit, htime, hassigned]
      rfl
    rw [hfields] at hexec
    rw [hs'] at hopens
    obtain ⟨hrolls, hinner, hans, hraised⟩ := startTake_sent (l := [fByte u, fSession s.store.session,
        fCount (s.unit u).info.takeNo, fTick s.houseTime, fCount (s.assigned u).length, fByte 0,
        fIndex ix]) hopens
    refine ⟨_, ⟨s.newRecord u .host ix, none, 0⟩, ⟨k, hk⟩, hexec, hfirst, hlowest,
      by simp [hnewtakes], ?_, rfl, rfl, ?_, s.participants_slots _ _,
      fun p hmem d hd => State.newRecord_participant hmem hd, hrolls, hinner, hans, hraised⟩
    · refine State.findTake_placed (s := s) (k := k) (e := ⟨s.newRecord u .host ix, none, 0⟩) hk
        (by simp [hnewtakes]) fun x hx hsess => ?_
      have := hle x hx hsess
      show x.copy.index < ix
      omega
    · simp [State.newRecord]
  · intro hfull
    have hpl : s'.takes.place = none := by
      cases hpl : s'.takes.place with
      | none => rfl
      | some k =>
        rw [htakes] at hpl
        obtain ⟨hk, -, hlowest⟩ := TakeTable.place_some hpl
        obtain ⟨e, he, hne⟩ := hfull ⟨k, hk⟩
        exact absurd (hlowest e he).1 hne
    obtain ⟨-, hnewtakes, hopens⟩ := State.openUnlogged_opens (s := s') hu .host hpl
    rw [hunit, htime, hslots] at hopens
    obtain ⟨v, hv⟩ : ∃ v, v = s'.openTake u .host := ⟨_, rfl⟩
    rw [← hv] at hexec hnewtakes hopens
    have hcurrent : (v.unit u).current = .unlogged u := by rw [hopens.rolls.1]
    have hfields : s'.startFields v u = [fByte u, fSession s.store.session,
        fCount (s.unit u).info.takeNo, fTick s.houseTime, fCount (s.assigned u).length, fByte 1] := by
      rw [State.startFields, hcurrent, hstore, hunit, htime, hassigned]
      rfl
    rw [hfields] at hexec
    rw [hs'] at hopens
    obtain ⟨hrolls, hinner, hans, hraised⟩ := startTake_sent (l := [fByte u, fSession s.store.session,
        fCount (s.unit u).info.takeNo, fTick s.houseTime, fCount (s.assigned u).length, fByte 1]) hopens
    refine ⟨_, hexec, hrolls, ?_, hans, hraised⟩
    rw [hinner]
    exact State.inner_ext (by simp [hnewtakes, htakes])

end Sys2Proof.Machine
end

section
/-!
SUPPORT. The close of a take: the entries changed, the devices freed, the requests posted, and what the
store arbiter and the exporter engine leave alone.
-/

namespace Sys2Proof.Machine

/-! ### Entries changed -/

/-- A change of the entries of one take that keeps session and index is a change of what is found. -/
theorem State.findTake_modTake {s : State} {ss ix : Nat} {f : Entry → Entry}
    (hf : ∀ e, (f e).copy.session = e.copy.session ∧ (f e).copy.index = e.copy.index) (a b : Nat) :
    (s.modTake ss ix f).findTake a b = (s.findTake a b).map fun e =>
      if e.copy.session = ss ∧ e.copy.index = ix then f e else e := by
  obtain ⟨g, hg⟩ : ∃ g : Entry → Entry,
      g = fun e => if e.copy.session = ss ∧ e.copy.index = ix then f e else e := ⟨_, rfl⟩
  have hkey : ∀ e, (g e).copy.session = e.copy.session ∧ (g e).copy.index = e.copy.index := by
    intro e
    rw [hg]
    dsimp only
    split
    · exact hf e
    · exact ⟨rfl, rfl⟩
  have hlist : (s.modTake ss ix f).takes.entries.toList.filterMap id =
      (s.takes.entries.toList.filterMap id).map g := by
    have : (s.modTake ss ix f).takes.entries.toList = s.takes.entries.toList.map (Option.map g) := by
      rw [hg]
      exact Vector.toList_map
    rw [this, List.filterMap_map, List.map_filterMap]
    rfl
  rw [State.findTake, hlist, List.find?_map, ← hg]
  refine congrArg (Option.map g) (congrFun (congrArg List.find? (funext fun e => ?_)) _)
  simp [(hkey e).1, (hkey e).2]

/-- The take changed is found changed. -/
theorem State.findTake_modTake_same {s : State} {ss ix : Nat} {f : Entry → Entry} {e : Entry}
    (hf : ∀ e, (f e).copy.session = e.copy.session ∧ (f e).copy.index = e.copy.index)
    (h : s.findTake ss ix = some e) : (s.modTake ss ix f).findTake ss ix = some (f e) := by
  obtain ⟨-, hs, hi⟩ := State.findTake_some h
  rw [State.findTake_modTake hf, h, Option.map_some, if_pos ⟨hs, hi⟩]

/-! ### Requests of one class for a list of slots -/

/-- One request of a class posted for each of a list of slots. -/
def Radio.postSlots (r : Radio) (c : ReqClass) (l : List Nat) : Radio :=
  l.foldl (fun r i => r.post c i none) r

section
variable (r : Radio) (c : ReqClass) (l : List Nat)

theorem Radio.postSlots_onlyPosted {c1 c2 : ReqClass} (hc : c = c1 ∨ c = c2) :
    OnlyPosted r (r.postSlots c l) c1 c2 := by
  induction l generalizing r with
  | nil => exact .refl _ _ _
  | cons i l ih => exact (Radio.post_onlyPosted r i none hc).trans (ih (r.post c i none))

theorem Radio.mem_postSlots {i : Nat} (hi : i ∈ l) :
    ∃ y ∈ (r.postSlots c l).requests, y.cls = c ∧ y.slot = i := by
  induction l generalizing r with
  | nil => cases hi
  | cons j l ih =>
    rcases List.mem_cons.1 hi with rfl | hi
    · obtain ⟨y, hy, hyc, hys⟩ := r.mem_post c i none
      obtain ⟨w, hw, hwc, hws, -⟩ :=
        ((r.post c i none).postSlots_onlyPosted c l (c1 := c) (c2 := c) (.inl rfl)).kept hy
      exact ⟨w, hw, hwc.trans hyc, hws.trans hys⟩
    · exact ih (r.post c j none) hi

/-- A request after a post was there, or is the one posted. -/
theorem Radio.of_mem_post {r : Radio} {c : ReqClass} {i : Nat} {f : Option Nat} {y : Request}
    (hy : y ∈ (r.post c i f).requests) : y ∈ r.requests ∨ (y.cls = c ∧ y.slot = i) := by
  cases h : r.waits c i with
  | false =>
    rw [Radio.post_fresh h] at hy
    rcases List.mem_append.1 hy with hy | hy
    · exact .inl hy
    · obtain rfl := List.mem_singleton.1 hy
      exact .inr ⟨rfl, rfl⟩
  | true =>
    rw [Radio.post_waiting h] at hy
    obtain ⟨x, hx, rfl⟩ := List.mem_map.1 hy
    split
    · rename_i hm
      exact .inr hm
    · exact .inl hx

theorem Radio.of_mem_postSlots {y : Request} (hy : y ∈ (r.postSlots c l).requests) :
    y ∈ r.requests ∨ (y.cls = c ∧ y.slot ∈ l) := by
  induction l generalizing r with
  | nil => exact .inl hy
  | cons i l ih =>
    rcases ih (r.post c i none) hy with hy | ⟨hyc, hys⟩
    · rcases Radio.of_mem_post hy with hy | ⟨hyc, rfl⟩
      · exact .inl hy
      · exact .inr ⟨hyc, List.mem_cons_self⟩
    · exact .inr ⟨hyc, List.mem_cons_of_mem _ hys⟩

/-- Posts for a list of devices are posts for their slots. -/
theorem State.postAll_radio (s : State) (l : List (Nat × Device)) :
    (s.postAll c l).radio = s.radio.postSlots c (l.map Prod.fst) := by
  induction l generalizing s with
  | nil => rfl
  | cons x l ih => exact ih (s.post c x.1)

end

/-! ### Devices freed (R112, R128) -/

/-- A device that has left a take. -/
def Device.left (c : CurrentTake) (d : Device) : Device :=
  if d.live.current = c then { d with live := { d.live with current := .none, held := false } } else d

/-- A slot whose device leaves a take with a re-jam held. -/
def State.leavesHeld (s : State) (c : CurrentTake) (slot : Nat) : Bool :=
  ((s.dev slot).map fun d => decide (d.live.current = c) && d.live.held).getD false

section
variable {s : State} {c : CurrentTake}

theorem State.leavesHeld_iff {i : Nat} : s.leavesHeld c i = true ↔
    ∃ d, s.dev i = some d ∧ d.live.current = c ∧ d.live.held = true := by
  unfold State.leavesHeld
  cases s.dev i <;> simp

theorem State.endHold_dev {i : Nat} {d : Device} (hd : s.dev i = some d) (j : Nat) :
    (s.endHold i).dev j =
      if j = i then some { d with live := { d.live with held := false } } else s.dev j := by
  have hcase : (s.endHold i).dev j = if d.live.held then
      (s.modLive i fun l => { l with held := false }).dev j else s.dev j := by
    unfold State.endHold
    simp only [hd]
    split <;> rfl
  have hmod := s.dev_modLive i j fun l => { l with held := false }
  rw [hd, Option.map_some] at hmod
  rw [hcase, hmod]
  by_cases hh : d.live.held = true
  · rw [if_pos hh]
  · rw [if_neg hh]
    split
    · rename_i hj
      subst hj
      have : d.live.held = false := by simpa using hh
      rw [hd, ← this]
    · rfl

theorem State.endHold_radio {i : Nat} {d : Device} (hd : s.dev i = some d) : (s.endHold i).radio =
    if d.live.held then s.radio.post .overdue i none else s.radio := by
  unfold State.endHold
  simp only [hd]
  split
  · show (s.modLive i _).radio.post .overdue i none = _
    rw [State.modLive_radio]
  · rfl

theorem State.leaveTake_dev (hc : c ≠ .none) (i j : Nat) : (s.leaveTake c i).dev j =
    if j = i then (s.dev i).map (Device.left c) else s.dev j := by
  unfold State.leaveTake State.currentOf
  cases hd : s.dev i with
  | none =>
    rw [if_neg (Ne.symm hc)]
    split
    · rename_i hj; rw [hj, hd]; rfl
    · rfl
  | some d =>
    dsimp only
    split
    · rename_i hcur
      rw [State.endHold_dev (s.dev_modLive_same hd _), Option.map_some, Device.left, if_pos hcur]
      split
      · rfl
      · rename_i hj
        exact s.dev_modLive_ne hj _
    · rename_i hcur
      rw [Option.map_some, Device.left, if_neg hcur]
      split
      · rename_i hj; rw [hj, hd]
      · rfl

theorem State.leaveTake_radio (hc : c ≠ .none) (i : Nat) : (s.leaveTake c i).radio =
    if s.leavesHeld c i then s.radio.post .overdue i none else s.radio := by
  unfold State.leaveTake State.currentOf State.leavesHeld
  cases hd : s.dev i with
  | none =>
    rw [if_neg (Ne.symm hc)]
    rfl
  | some d =>
    simp only [Option.map_some, Option.getD_some, Bool.and_eq_true, decide_eq_true_eq]
    by_cases hcur : d.live.current = c
    · rw [if_pos hcur, State.endHold_radio (s.dev_modLive_same hd _), State.modLive_radio]
      exact if_congr (by simp [hcur]) rfl rfl
    · rw [if_neg hcur, if_neg fun h => hcur h.1]

theorem State.leaveTake_slots (s : State) (c : CurrentTake) (i : Nat) :
    ∃ x r, s.leaveTake c i = { s with slots := x, radio := r } := by
  unfold State.leaveTake
  split
  · obtain ⟨x, hx⟩ : ∃ x, s.modLive i (fun l => { l with current := .none }) = { s with slots := x } :=
      ⟨_, s.modLive_eq _ i⟩
    rw [hx]
    unfold State.endHold
    split
    · split
      · obtain ⟨y, hy⟩ : ∃ y, State.modLive { s with slots := x } i (fun l => { l with held := false }) =
          { s with slots := y } := ⟨_, State.modLive_eq _ _ i⟩
        rw [hy]
        exact ⟨_, _, rfl⟩
      · exact ⟨_, _, rfl⟩
    · exact ⟨_, _, rfl⟩
  · exact ⟨_, _, rfl⟩

theorem allSlots_nodup : allSlots.Nodup := List.nodup_range

/-- Every slot of a list freed from a take. -/
def State.leaveAll (s : State) (c : CurrentTake) (l : List Nat) : State :=
  l.foldl (fun t i => t.leaveTake c i) s

theorem State.leaveAll_slots (s : State) (l : List Nat) :
    ∃ x r, s.leaveAll c l = { s with slots := x, radio := r } := by
  induction l generalizing s with
  | nil => exact ⟨_, _, rfl⟩
  | cons i l ih =>
    obtain ⟨x, r, h⟩ := ih (s.leaveTake c i)
    obtain ⟨y, w, hy⟩ := s.leaveTake_slots c i
    refine ⟨x, r, ?_⟩
    show (s.leaveTake c i).leaveAll c l = _
    rw [h, hy]

theorem State.leaveAll_eq (s : State) (l : List Nat) : s.leaveAll c l = { s with
    slots := (s.leaveAll c l).slots, radio := (s.leaveAll c l).radio } := by
  obtain ⟨x, r, h⟩ := s.leaveAll_slots (c := c) l
  rw [h]

theorem State.leaveAll_dev (hc : c ≠ .none) {l : List Nat} (hn : l.Nodup) (j : Nat) :
    (s.leaveAll c l).dev j = if j ∈ l then (s.dev j).map (Device.left c) else s.dev j := by
  induction l generalizing s with
  | nil => simp [State.leaveAll]
  | cons i l ih =>
    obtain ⟨hi, hl⟩ := List.nodup_cons.1 hn
    show ((s.leaveTake c i).leaveAll c l).dev j = _
    rw [ih hl, State.leaveTake_dev hc]
    by_cases hj : j = i
    · subst hj
      rw [if_neg hi, if_pos rfl, if_pos List.mem_cons_self]
    · rw [if_neg hj]
      exact if_congr (by simp [hj]) rfl rfl

theorem State.leaveAll_radio (hc : c ≠ .none) {l : List Nat} (hn : l.Nodup) :
    (s.leaveAll c l).radio = s.radio.postSlots .overdue (l.filter fun i => s.leavesHeld c i) := by
  induction l generalizing s with
  | nil => rfl
  | cons i l ih =>
    obtain ⟨hi, hl⟩ := List.nodup_cons.1 hn
    have hrest : (l.filter fun j => (s.leaveTake c i).leavesHeld c j) =
        l.filter fun j => s.leavesHeld c j := by
      refine List.filter_congr fun j hj => ?_
      have hne : j ≠ i := fun h => hi (h ▸ hj)
      rw [State.leavesHeld, State.leavesHeld, State.leaveTake_dev hc, if_neg hne]
    show ((s.leaveTake c i).leaveAll c l).radio = _
    rw [ih hl, hrest, State.leaveTake_radio hc, List.filter_cons]
    split <;> rfl

end

/-! ### A unit that stops rolling (R128, steps 4 to 6) -/

/-- A unit after its take has closed. -/
def UnitRec.stopped (x : UnitRec) : UnitRec := { x with
  current := .none
  opener := none
  info := { x.info with takeNo := nextTakeNo x.info.takeNo } }

section
variable {s : State} {u : Nat} {c : CurrentTake}

theorem State.stopRolling_eq (s : State) (u : Nat) (c : CurrentTake) : s.stopRolling u c = { s with
    slots := (s.stopRolling u c).slots
    units := (s.stopRolling u c).units
    radio := (s.stopRolling u c).radio } := by
  obtain ⟨v, hv⟩ : ∃ v, v = s.leaveAll c allSlots := ⟨_, rfl⟩
  have heq : v = { s with slots := v.slots, radio := v.radio } := by
    rw [hv]; exact s.leaveAll_eq _
  obtain ⟨l, hl⟩ : ∃ l, s.stopRolling u c = (v.modUnit u UnitRec.stopped).postAll .display l := by
    rw [hv]; exact ⟨_, rfl⟩
  rw [hl, State.postAll_eq, heq]
  rfl

theorem State.stopRolling_left (hu : u < 4) (hc : c ≠ .none) : UnitLeft s (s.stopRolling u c) u c := by
  obtain ⟨v, hv⟩ : ∃ v, v = s.leaveAll c allSlots := ⟨_, rfl⟩
  have heq : v = { s with slots := v.slots, radio := v.radio } := by
    rw [hv]; exact s.leaveAll_eq _
  have hdev : ∀ i, v.dev i = (s.dev i).map (Device.left c) := by
    intro i
    rw [hv, State.leaveAll_dev hc allSlots_nodup]
    split
    · rfl
    · rename_i hi
      cases hd : s.dev i with
      | none => rfl
      | some d => exact absurd (List.mem_range.2 (s.dev_lt hd)) hi
  have hradio : v.radio = s.radio.postSlots .overdue (allSlots.filter fun i => s.leavesHeld c i) := by
    rw [hv, State.leaveAll_radio hc allSlots_nodup]
  obtain ⟨w, hw⟩ : ∃ w, w = v.modUnit u UnitRec.stopped := ⟨_, rfl⟩
  have hstop : s.stopRolling u c = w.postAll .display
      ((w.assigned u).filter fun x => x.2.set.kind = .slate) := by rw [hw, hv]; rfl
  obtain ⟨l, hl⟩ : ∃ l, l = (w.assigned u).filter fun x => x.2.set.kind = .slate := ⟨_, rfl⟩
  rw [← hl] at hstop
  have hwdev : ∀ i, w.dev i = (s.dev i).map (Device.left c) := by rw [hw]; exact hdev
  have hslots : (s.stopRolling u c).slots = w.slots := by rw [hstop, State.postAll_eq]
  have hunits : (s.stopRolling u c).units = w.units := by rw [hstop, State.postAll_eq]
  have hset : ∀ d : Device, (d.left c).set = d.set := by
    intro d; unfold Device.left; split <;> rfl
  have hslate : ∀ i, i ∈ l.map Prod.fst ↔
      ∃ d, s.dev i = some d ∧ d.set.kind = .slate ∧ d.set.unit = some u := by
    intro i
    rw [hl, List.mem_map]
    constructor
    · rintro ⟨⟨j, e⟩, hx, rfl⟩
      obtain ⟨hx, hk⟩ := List.mem_filter.1 hx
      obtain ⟨he, hset'⟩ := State.mem_assigned.1 hx
      rw [hwdev] at he
      obtain ⟨d, hd, rfl⟩ := Option.map_eq_some_iff.1 he
      rw [hset] at hset'
      exact ⟨d, hd, by simpa [hset] using hk, hset'⟩
    · rintro ⟨d, hd, hk, hun⟩
      refine ⟨(i, d.left c), List.mem_filter.2 ⟨State.mem_assigned.2 ⟨?_, ?_⟩, ?_⟩, rfl⟩
      · rw [hwdev, hd]; rfl
      · rw [hset]; exact hun
      · simpa [hset] using hk
  have hposted : (s.stopRolling u c).radio =
      (s.radio.postSlots .overdue (allSlots.filter fun i => s.leavesHeld c i)).postSlots .display
        (l.map Prod.fst) := by
    rw [hstop, State.postAll_radio, ← hradio, hw]; rfl
  have hfirst := s.radio.postSlots_onlyPosted .overdue (allSlots.filter fun i => s.leavesHeld c i)
    (c1 := .overdue) (c2 := .display) (.inl rfl)
  have hsecond := (s.radio.postSlots .overdue
    (allSlots.filter fun i => s.leavesHeld c i)).postSlots_onlyPosted .display (l.map Prod.fst)
      (c1 := .overdue) (c2 := .display) (.inr rfl)
  refine ⟨?_, fun x hx => ?_, fun i d hd => ?_, fun i hd => ?_, ?_, fun i d hd hcur hheld => ?_,
    fun i d hd hk hun => ?_, fun y hy => ?_⟩
  · rw [State.unit_congr hunits, hw, State.unit_modUnit hu, State.unit_congr (s := s) (by rw [heq])]
    rfl
  · rw [State.unit_congr hunits, hw, State.unit_modUnit_ne hx,
      State.unit_congr (s := s) (by rw [heq])]
  · rw [State.dev_congr hslots, hwdev, hd]
    rfl
  · rw [State.dev_congr hslots, hwdev, hd]
    rfl
  · rw [hposted]
    exact hfirst.trans hsecond
  · have hmem : i ∈ allSlots.filter fun i => s.leavesHeld c i :=
      List.mem_filter.2 ⟨List.mem_range.2 (s.dev_lt hd), State.leavesHeld_iff.2 ⟨d, hd, hcur, hheld⟩⟩
    obtain ⟨x, hx, hxc, hxs⟩ := s.radio.mem_postSlots .overdue _ hmem
    obtain ⟨y, hy, hyc, hys, -⟩ := hsecond.kept hx
    rw [hposted]
    exact ⟨y, hy, hyc.trans hxc, hys.trans hxs⟩
  · rw [hposted]
    exact Radio.mem_postSlots _ _ _ ((hslate i).2 ⟨d, hd, hk, hun⟩)
  · rw [hposted] at hy
    rcases Radio.of_mem_postSlots _ _ _ hy with hy | ⟨hyc, hys⟩
    · rcases Radio.of_mem_postSlots _ _ _ hy with hy | ⟨hyc, hys⟩
      · exact .inl hy
      · obtain ⟨d, hd, hcur, hheld⟩ := State.leavesHeld_iff.1 (List.mem_filter.1 hys).2
        exact .inr ⟨d, hd, .inl ⟨hyc, hcur, hheld⟩⟩
    · obtain ⟨d, hd, hk, hun⟩ := (hslate _).1 hys
      exact .inr ⟨d, hd, .inr ⟨hyc, hk, hun⟩⟩

/-- What leaving says is read of units, slots and the radio alone. -/
theorem UnitLeft.congr {s s' t t' : State} (h : UnitLeft s t u c) (hu : s.units = s'.units)
    (hs : s.slots = s'.slots) (hr : s.radio = s'.radio) (hu' : t'.units = t.units)
    (hs' : t'.slots = t.slots) (hr' : t'.radio = t.radio) : UnitLeft s' t' u c := by
  unfold UnitLeft at h ⊢
  simp only [State.unit_congr hu, State.dev_congr hs, hr] at h
  simp only [State.unit_congr hu', State.dev_congr hs', hr']
  exact h

end

end Sys2Proof.Machine
end

section
/-!
SUPPORT and THEOREM. The close of a take on a free flash and an idle exporter, and END_TAKE: O36.
-/

namespace Sys2Proof.Machine

/-! ### The exporter engine at rest -/

theorem exportMoves_of_none {s : State} (h : s.exportMove = none) (n : Nat) : exportMoves n s = s := by
  cases n with
  | zero => rfl
  | succ n => rw [exportMoves, h]

theorem State.exportRun_of_none {s : State} (h : s.exportMove = none) : s.exportRun = s :=
  exportMoves_of_none h _

theorem State.exportRun_idle {s : State} (h : s.exporter.phase = .idle) : s.exportRun = s :=
  State.exportRun_of_none (if_pos (.inl h))

/-- What the exporter engine changes: its context, and the reads that wait. -/
theorem State.exportMove_eq {s t : State} (h : s.exportMove = some t) :
    ∃ x r, t = { s with exporter := x, store := { s.store with reads := r } } := by
  have hask : ∀ i, ∃ x r, s.askExport i =
      { s with exporter := x, store := { s.store with reads := r } } := fun i => ⟨_, _, rfl⟩
  have hkeep : ∀ x, ∃ y r, { s with exporter := x } =
      { s with exporter := y, store := { s.store with reads := r } } := fun x => ⟨x, s.store.reads, rfl⟩
  unfold State.exportMove at h
  dsimp only at h
  split at h
  · cases h
  split at h
  · cases h; exact hkeep _
  · cases h; exact hkeep _
  · split at h
    · cases h
    split at h
    · cases h
      unfold State.examine
      split
      · split <;> exact hkeep _
      · split
        · exact hask _
        · exact hkeep _
    · cases h; exact hkeep _
    · cases h
      unfold State.followHead
      split
      · exact hkeep _
      · split
        · exact hask _
        · exact hkeep _
    · cases h

theorem exportMoves_eq (n : Nat) (s : State) :
    ∃ x r, exportMoves n s = { s with exporter := x, store := { s.store with reads := r } } := by
  induction n generalizing s with
  | zero => exact ⟨s.exporter, s.store.reads, rfl⟩
  | succ n ih =>
    unfold exportMoves
    split
    · rename_i t ht
      obtain ⟨x, r, rfl⟩ := State.exportMove_eq ht
      obtain ⟨y, w, h⟩ := ih { s with exporter := x, store := { s.store with reads := r } }
      exact ⟨y, w, h⟩
    · exact ⟨s.exporter, s.store.reads, rfl⟩

theorem State.exportRun_eq (s : State) :
    ∃ x r, s.exportRun = { s with exporter := x, store := { s.store with reads := r } } :=
  exportMoves_eq _ s

/-! ### The store arbiter with no write to begin -/

/-- With no write that can begin, the store arbiter begins at most a read. -/
theorem State.arbitrate_reads {s : State} (h : s.store.op ≠ .idle ∨
    (s.store.save = none ∧ s.store.clear = none ∧ s.beginWrite = s)) :
    ∃ x, s.arbitrate = { s with store := x } := by
  have hread : ∃ x, s.beginRead = { s with store := x } := by
    unfold State.beginRead
    split
    · exact ⟨_, rfl⟩
    · exact ⟨s.store, rfl⟩
  unfold State.arbitrate
  split
  · exact ⟨s.store, rfl⟩
  rename_i hop
  obtain ⟨hsave, hclear, hwrite⟩ := h.resolve_left hop
  rw [if_neg (by simp [hsave, hclear]), hwrite]
  split <;> exact hread

theorem State.arbitrate_nothing {s : State} (hw : s.beginWrite = s) (hsave : s.store.save = none)
    (hclear : s.store.clear = none) (hreads : s.store.reads = []) : s.arbitrate = s := by
  unfold State.arbitrate
  split
  · rfl
  rw [if_neg (by simp [hsave, hclear]), if_neg (by simp [hreads]), hw]
  unfold State.beginRead
  rw [hreads]
  split
  · rename_i heq; cases heq
  · rfl

/-- No log write begins while the only closed take has closed at this instant. -/
theorem State.beginWrite_none {s : State} (h : s.store.state ≠ .ready ∨
    (s.store.amendments = [] ∧ s.eligibleHead = none)) : s.beginWrite = s := by
  unfold State.beginWrite
  rcases h with hst | ⟨ha, hhead⟩
  · rw [if_pos hst]
  · simp [State.writable, ha, hhead]

/-- A take that closes now is not eligible on its own. -/
theorem State.delayOut_now {s : State} {ix : Nat} (h : ∀ e,
    s.findTake s.store.session ix = some e → e.closeCounter = s.clock.counter) :
    s.delayOut ix = false := by
  unfold State.delayOut
  cases hf : s.findTake s.store.session ix with
  | none => simp
  | some e =>
    have := h e hf
    by_cases hd : 1 ≤ s.store.delay
    · have : 0 < s.store.delay * ticksPerSecond := Nat.mul_pos hd (by decide)
      have hlt : ¬ e.closeCounter + s.store.delay * ticksPerSecond ≤ s.clock.counter := by omega
      simp [hlt]
    · simp [hd]

/-! ### The close of a logged take (R128) -/

/-- An entry closed at a house time and a counter value. -/
def Entry.closeAt (e : Entry) (t c : Nat) : Entry :=
  { e.mod (fun r => r.freeze t) with closeCounter := c }

/-- The table once a record is frozen and queued. -/
def State.frozen (s : State) (ss ix : Nat) : State :=
  let t := s.modTake ss ix fun e => e.closeAt s.houseTime s.clock.counter
  { t with takes := { t.takes with queue := t.takes.queue ++ [ix] } }

section
variable (s : State) (ss ix : Nat)

theorem State.frozen_eq : s.frozen ss ix = { s with takes := (s.frozen ss ix).takes } := rfl

theorem State.frozen_queue : (s.frozen ss ix).takes.queue = s.takes.queue ++ [ix] := rfl

theorem State.frozen_kept : EntriesKept s (s.frozen ss ix) ss ix :=
  s.modTake_kept ss ix _

theorem State.findTake_frozen (a b : Nat) : (s.frozen ss ix).findTake a b =
    (s.findTake a b).map fun e => if e.copy.session = ss ∧ e.copy.index = ix then
      e.closeAt s.houseTime s.clock.counter else e :=
  State.findTake_modTake (s := s) (f := fun e => e.closeAt s.houseTime s.clock.counter)
    (fun _ => ⟨rfl, rfl⟩) a b

theorem State.freezeTake_eq : s.freezeTake ss ix =
    ({ s.frozen ss ix with exporter := s.exporter.closed ss ix }).exportRun := rfl

variable {s ss ix}

theorem State.freezeTake_idle (h : s.exporter.phase = .idle) : s.freezeTake ss ix = s.frozen ss ix := by
  have hx : s.exporter.closed ss ix = s.exporter := if_pos (.inl h)
  rw [State.freezeTake_eq, hx]
  exact State.exportRun_idle (s := s.frozen ss ix) h

/-- After the close of a take on a settled store no write can begin. -/
theorem State.settled_after_close {t : State} (hset : s.settled) (hss : ss = s.store.session)
    (hstore : ∃ r, t.store = { s.store with reads := r }) (hclock : t.clock = s.clock)
    (htakes : t.takes = (s.frozen ss ix).takes) :
    t.store.op ≠ .idle ∨ (t.store.save = none ∧ t.store.clear = none ∧ t.beginWrite = t) := by
  obtain ⟨r, hr⟩ := hstore
  rcases hset with hop | ⟨hsave, hclear, -, hwrite⟩
  · exact .inl (by rw [hr]; exact hop)
  refine .inr ⟨by rw [hr]; exact hsave, by rw [hr]; exact hclear, State.beginWrite_none ?_⟩
  rcases hwrite with hst | ⟨ham, hfl, hq⟩
  · exact .inl (by rw [hr]; exact hst)
  refine .inr ⟨by rw [hr]; exact ham, ?_⟩
  have hdelay : t.delayOut ix = false := by
    refine State.delayOut_now fun e he => ?_
    rw [State.findTake_congr (s := s.frozen ss ix) (by rw [htakes]), State.findTake_frozen, hr] at he
    obtain ⟨e0, he0, rfl⟩ := Option.map_eq_some_iff.1 he
    obtain ⟨-, h1, h2⟩ := State.findTake_some he0
    rw [if_pos ⟨h1.trans hss.symm, h2⟩, hclock]
    rfl
  unfold State.eligibleHead
  rw [htakes, State.frozen_queue, hq]
  simp [State.eligible, hdelay, hr, hfl]

end

/-- What a close leaves, and what it says. -/
structure Closes (s t : State) (u : Nat) (c : CurrentTake) (body : List Field) : Prop where
  left    : UnitLeft s t u c
  inner   : t.inner = { s with
    slots := t.slots, units := t.units, takes := t.takes, radio := t.radio }.inner
  noReply : NoReply s t
  raised  : Raised s t 0x48 body

/-- The body of a TAKE_CLOSED notice. -/
def State.closedBody (s : State) (c : Closing) : List Field :=
  [fByte c.unit, fSession c.session] ++ fOpt1 fIndex c.index ++
    [fCount c.takeNo, fTick c.start, fTick c.fin] ++ fLabel (houseLabel s.house c.fin) ++
    fOpt1 fByte c.marks ++ fOpt1 fCount c.claps ++ [fFlag c.index.isNone]

/-- A unit stopped over a table `v` and announced. -/
theorem State.stopped_closes {s v : State} {u : Nat} {c : CurrentTake} (hu : u < 4) (hc : c ≠ .none)
    (hv : v = { s with takes := v.takes }) (x : Closing) :
    ((v.stopRolling u c).noteClosed x).takes = v.takes ∧
      ((v.stopRolling u c).noteClosed x).store = s.store ∧
      ((v.stopRolling u c).noteClosed x).clock = s.clock ∧
      Closes s ((v.stopRolling u c).noteClosed x) u c (s.closedBody x) := by
  obtain ⟨w, hw⟩ : ∃ w, w = v.stopRolling u c := ⟨_, rfl⟩
  have hleft : UnitLeft v w u c := by rw [hw]; exact State.stopRolling_left hu hc
  have heq : w = { v with slots := w.slots, units := w.units, radio := w.radio } := by
    rw [hw]; exact State.stopRolling_eq v u c
  have hnote : (v.stopRolling u c).noteClosed x = w.notify 0x48 (s.closedBody x) := by
    have hhouse : (v.stopRolling u c).house = s.house := by rw [← hw, heq, hv]
    rw [State.noteClosed, hhouse, ← hw]
    rfl
  rw [hnote]
  have hm : Mum s w := .of_eq (by rw [heq, hv]) (by rw [heq, hv]) (by rw [heq, hv])
  have hn : NoReply s w := .of_eq (by rw [heq, hv]) (by rw [heq, hv])
  refine ⟨by rw [State.notify_takes, heq], by rw [State.notify_store, heq, hv],
    by rw [State.notify_clock, heq, hv], ?_⟩
  exact {
    left := hleft.congr (by rw [hv]) (by rw [hv]) (by rw [hv]) (State.notify_units _ _ _)
      (State.notify_slots _ _ _) (State.notify_radio _ _ _)
    inner := by
      rw [State.inner_notify, State.notify_units, State.notify_slots, State.notify_takes,
        State.notify_radio]
      exact State.inner_ext (by rw [heq, hv]; simp)
    noReply := hn.trans (noReply_notify _ _ _)
    raised := hm.raised (w.raised_notify _ _) }

/-- The close of a logged take on a settled store, with no exporter. -/
theorem State.closeTake_logged {s : State} {u ss ix : Nat} (hu : u < 4)
    (hcur : (s.unit u).current = .logged ss ix) (hss : ss = s.store.session) (hset : s.settled)
    (hidle : s.exporter.phase = .idle) : (s.closeTake u).takes = (s.frozen ss ix).takes ∧
      Closes s (s.closeTake u) u (.logged ss ix) (s.closedBody (s.closing u)) := by
  have hclose : s.closeTake u =
      (((s.frozen ss ix).stopRolling u (.logged ss ix)).noteClosed (s.closing u)).arbitrate := by
    unfold State.closeTake
    simp only [hcur, State.freezeTake_idle hidle]
  obtain ⟨htakes, hstore, hclock, h⟩ := State.stopped_closes hu (c := .logged ss ix) nofun
    (s.frozen_eq ss ix) (s.closing u)
  obtain ⟨v, hv⟩ : ∃ v, v = ((s.frozen ss ix).stopRolling u (.logged ss ix)).noteClosed (s.closing u) :=
    ⟨_, rfl⟩
  rw [← hv] at hclose htakes hstore hclock h
  have harb : v.arbitrate = v := by
    rcases State.settled_after_close hset hss ⟨s.store.reads, hstore⟩ hclock htakes with
      hop | ⟨hsave, hclear, hwrite⟩
    · exact State.arbitrate_settled (.inl hop)
    rcases hset with hop | ⟨-, -, hreads, -⟩
    · exact State.arbitrate_settled (.inl (by rw [hstore]; exact hop))
    exact State.arbitrate_nothing hwrite hsave hclear (by rw [hstore]; exact hreads)
  rw [hclose, harb]
  exact ⟨htakes, h⟩

/-- The close of an UNLOGGED take on a settled store. -/
theorem State.closeTake_unlogged {s : State} {u v : Nat} (hu : u < 4)
    (hcur : (s.unit u).current = .unlogged v) (hset : s.settled) : (s.closeTake u).takes = s.takes ∧
      Closes s (s.closeTake u) u (.unlogged v) (s.closedBody (s.closing u)) := by
  have hclose : s.closeTake u = ((s.stopRolling u (.unlogged v)).noteClosed (s.closing u)).arbitrate := by
    unfold State.closeTake
    simp only [hcur]
  obtain ⟨htakes, hstore, -, h⟩ := State.stopped_closes (s := s) (v := s) hu (c := .unlogged v) nofun
    rfl (s.closing u)
  obtain ⟨w, hw⟩ : ∃ w, w = (s.stopRolling u (.unlogged v)).noteClosed (s.closing u) := ⟨_, rfl⟩
  rw [← hw] at hclose htakes hstore h
  have hset' : w.settled := by
    unfold State.settled State.nothingToWrite
    rw [hstore, htakes]
    exact hset
  rw [hclose, State.arbitrate_settled hset']
  exact ⟨htakes, h⟩

/-! ### END_TAKE (R126) -/

theorem State.settled_enlist {s : State} (q : Req) (k : Nat) (x : Option Query) (h : s.settled) :
    (s.enlist q k x).settled := by
  unfold State.settled State.nothingToWrite
  rw [State.enlist_store, State.enlist_takes]
  exact h

theorem exec_endTake {q : Req} {u : Nat} {s : State} (h : Taken s q) (hp : q.port = .control)
    (hu : u < 4) (hroll : (s.unit u).current ≠ .none) :
    exec (.endTake q u) s = .next ((((s.enlist q 0x13).closeTake u).reply q.port 0x13 q.tag .ok
      ((s.enlist q 0x13).closing u).fields)).pump := by
  have hrolling : ((s.enlist q 0x13).unit u).rolling = true := by
    simp [UnitRec.rolling, hroll]
  refine (finish_taken h (Class.admits_control hp) (holds_byte (by omega))).trans ?_
  rw [if_neg (by omega), if_neg (by rw [hrolling]; nofun)]

/-- What a taken END_TAKE leaves once its close is known on the listed request. -/
theorem endTake_sent {q : Req} {u : Nat} {s v : State} {c : CurrentTake} {body l : List Field}
    (h : Closes (s.enlist q 0x13) v u c body) :
    UnitLeft s (v.reply q.port 0x13 q.tag .ok l).pump u c ∧
      (v.reply q.port 0x13 q.tag .ok l).pump.inner = { s with
        slots := (v.reply q.port 0x13 q.tag .ok l).pump.slots
        units := (v.reply q.port 0x13 q.tag .ok l).pump.units
        takes := (v.reply q.port 0x13 q.tag .ok l).pump.takes
        radio := (v.reply q.port 0x13 q.tag .ok l).pump.radio }.inner ∧
      Answered s (v.reply q.port 0x13 q.tag .ok l).pump q 0x13 .ok l ∧
      Raised s (v.reply q.port 0x13 q.tag .ok l).pump 0x48 body := by
  refine ⟨h.left.congr (by simp) (by simp) (by simp) (by simp) (by simp) (by simp), ?_,
    (((noReply_enlist s q 0x13 none).trans h.noReply).answered (answered_reply v q 0x13 .ok l)).noReply
      (noReply_pump _), ((mum_enlist s q 0x13 none).raised h.raised).silent
      ((mum_reply _ _ _ _ _ _).silent.trans (silent_pump _))⟩
  rw [State.inner_pump, State.inner_reply, h.inner]
  exact State.inner_ext (by simp)

/-- Settles O36: the close is worked on the listed request, where the store arbiter begins nothing and
the exporter engine has nothing to do. -/
theorem takeCloses : Obligations.TakeCloses := by
  intro q u ss s htaken hp hu hss hset
  obtain ⟨s', hs'⟩ : ∃ s', s' = s.enlist q 0x13 := ⟨_, rfl⟩
  have hunit : s'.unit u = s.unit u := by rw [hs', State.enlist_unit]
  have htime : s'.houseTime = s.houseTime := by rw [hs', State.enlist_houseTime]
  have hhouse : s'.house = s.house := by rw [hs', State.enlist_house]
  have hstore : s'.store = s.store := by rw [hs', State.enlist_store]
  have hset' : s'.settled := by rw [hs']; exact State.settled_enlist q 0x13 none hset
  constructor
  · intro ix e hcur hfind hopen hidle
    have hexec := exec_endTake htaken hp hu (by rw [hcur]; nofun)
    have hcur' : (s'.unit u).current = .logged ss ix := by rw [hunit, hcur]
    have hfind' : s'.findTake ss ix = some e := by
      rw [← hfind]; exact State.findTake_congr (by rw [hs', State.enlist_takes]) ss ix
    obtain ⟨htakes, hcloses⟩ := State.closeTake_logged hu hcur' (by rw [hstore]; exact hss) hset'
      (by rw [hs', State.enlist_exporter]; exact hidle)
    have hclosing : s'.closing u = ⟨u, ss, some ix, e.copy.takeNo, (s.unit u).start, s.houseTime,
        some e.copy.marks, some e.copy.clapTotal⟩ := by
      unfold State.closing
      simp only [hunit, hcur, hfind', htime, Option.map_some, Option.getD_some]
    rw [← hs'] at hexec
    obtain ⟨v, hv⟩ : ∃ v, v = s'.closeTake u := ⟨_, rfl⟩
    rw [← hv] at hexec htakes hcloses
    rw [hclosing] at hexec hcloses
    rw [hs'] at hcloses
    obtain ⟨hleft, hinner, hans, hraised⟩ := endTake_sent (l := Closing.fields ⟨u, ss, some ix,
      e.copy.takeNo, (s.unit u).start, s.houseTime, some e.copy.marks, some e.copy.clapTotal⟩) hcloses
    rw [State.closedBody, State.enlist_house] at hraised
    refine ⟨_, _, hexec, ?_, rfl, ?_, ?_, hleft, hinner, hans, hraised⟩
    · rw [State.findTake_congr (s := s'.frozen ss ix) (by
        rw [State.pump_takes, State.reply_takes, htakes]), State.findTake_frozen, hfind', Option.map_some]
      obtain ⟨-, h1, h2⟩ := State.findTake_some hfind
      rw [if_pos ⟨h1, h2⟩, htime, hs', State.enlist_clock]
      rfl
    · rw [State.pump_takes, State.reply_takes, htakes, State.frozen_queue, hs', State.enlist_takes]
    · have hkept := s'.frozen_kept ss ix
      unfold EntriesKept at hkept ⊢
      rw [State.pump_takes, State.reply_takes, htakes]
      rw [hs', State.enlist_takes] at hkept
      rw [hs']
      exact hkept
  · intro hcur
    have hexec := exec_endTake htaken hp hu (by rw [hcur]; nofun)
    have hcur' : (s'.unit u).current = .unlogged u := by rw [hunit, hcur]
    obtain ⟨htakes, hcloses⟩ := State.closeTake_unlogged hu hcur' hset'
    have hclosing : s'.closing u = ⟨u, ss, none, (s.unit u).info.takeNo, (s.unit u).start, s.houseTime,
        none, none⟩ := by
      unfold State.closing
      simp only [hunit, hcur, htime, hstore, hss]
    rw [← hs'] at hexec
    obtain ⟨v, hv⟩ : ∃ v, v = s'.closeTake u := ⟨_, rfl⟩
    rw [← hv] at hexec htakes hcloses
    rw [hclosing] at hexec hcloses
    rw [hs'] at hcloses
    obtain ⟨hleft, hinner, hans, hraised⟩ := endTake_sent (l := Closing.fields ⟨u, ss, none,
      (s.unit u).info.takeNo, (s.unit u).start, s.houseTime, none, none⟩) hcloses
    rw [State.closedBody, State.enlist_house] at hraised
    refine ⟨_, hexec, hleft, ?_, hans, hraised⟩
    rw [hinner]
    exact State.inner_ext (by simp [htakes, hs'])

end Sys2Proof.Machine
end

section
/-!
SUPPORT and THEOREM. Lines, jams and removals: O17 to O21.
-/

namespace Sys2Proof.Machine

/-! ### What a request leaves once its owner has answered -/

/-- What a taken request leaves over the state `v` its owner makes of the listed request. -/
structure Sent (s v t : State) (q : Req) (k : Nat) (st : Status) (l : List Field) : Prop where
  inner    : t.inner = v.inner
  answered : Answered s t q k st l
  silent   : Mum (s.enlist q k) v → Silent s t
  raised   : ∀ n b, Raised (s.enlist q k) v n b → Raised s t n b

theorem sent_reply {s v : State} {q : Req} {k : Nat} (hn : NoReply (s.enlist q k) v) (st : Status)
    (l : List Field) : Sent s v (v.reply q.port k q.tag st l).pump q k st l where
  inner := by rw [State.inner_pump, State.inner_reply]
  answered := (((noReply_enlist s q k none).trans hn).answered (answered_reply v q k st l)).noReply
    (noReply_pump _)
  silent hm := (((mum_enlist s q k none).trans hm).silent.trans (mum_reply _ _ _ _ _ _).silent).trans
    (silent_pump _)
  raised n b h := ((mum_enlist s q k none).raised h).silent
    ((mum_reply _ _ _ _ _ _).silent.trans (silent_pump _))

/-- The fields of two states that agree but for outstanding requests and what is to be sent. -/
theorem State.inner_fields {s t : State} (h : t.inner = s.inner) : t.pending = s.pending ∧
    t.clock = s.clock ∧ t.ref = s.ref ∧ t.origin = s.origin ∧ t.house = s.house ∧ t.slots = s.slots ∧
    t.lines = s.lines ∧ t.profiles = s.profiles ∧ t.radio = s.radio ∧ t.marks = s.marks ∧
    t.units = s.units ∧ t.takes = s.takes ∧ t.store = s.store ∧ t.flash = s.flash ∧
    t.lineRate = s.lineRate ∧ t.control.still = s.control.still ∧ t.suite.still = s.suite.still ∧
    t.exporter = s.exporter := by
  simpa [State.inner] using h

theorem State.slots_of_inner {s t : State} (h : t.inner = s.inner) : t.slots = s.slots :=
  (State.inner_fields h).2.2.2.2.2.1

theorem State.lines_of_inner {s t : State} (h : t.inner = s.inner) : t.lines = s.lines :=
  (State.inner_fields h).2.2.2.2.2.2.1

theorem State.radio_of_inner {s t : State} (h : t.inner = s.inner) : t.radio = s.radio :=
  (State.inner_fields h).2.2.2.2.2.2.2.2.1

/-! ### Lines changed -/

section
variable {s : State} {n : Nat}

theorem State.line_modLine (hn : n < 16) (f : Line → Line) (k : Nat) :
    (s.modLine n f).line k = if k = n then f (s.line n) else s.line k := by
  by_cases hk : k = n
  · subst hk
    simp [State.line, State.modLine, hn]
  · simp [State.line, State.modLine, hk, Ne.symm hk]

theorem State.line_modLine_ne {k : Nat} (hk : k ≠ n) (f : Line → Line) :
    (s.modLine n f).line k = s.line k := by
  simp [State.line, State.modLine, Ne.symm hk]

theorem State.noteLine_same {old : LineState} (h : (s.line n).state = old) (c : Nat) :
    s.noteLine n old c = s := by
  unfold State.noteLine
  exact if_pos h

theorem State.noteLine_changed {old : LineState} {slot : Nat} (h : (s.line n).state ≠ old)
    (hb : (s.line n).bound = some slot) (c : Nat) : s.noteLine n old c = s.notify 0x46
      [fByte n, fByte 1, fByte slot, fByte old.code, fByte (s.line n).state.code,
        fByte (Sense.code (s.line n).sense), fTick s.houseTime, fByte c] := by
  unfold State.noteLine
  dsimp only
  rw [if_neg h, hb]
  rfl

theorem State.inner_noteLine (old : LineState) (c : Nat) : (s.noteLine n old c).inner = s.inner := by
  unfold State.noteLine
  dsimp only
  split
  · rfl
  · exact State.inner_notify _ _ _

theorem State.noReply_noteLine (old : LineState) (c : Nat) : NoReply s (s.noteLine n old c) := by
  unfold State.noteLine
  dsimp only
  split
  · exact NoReply.refl s
  · exact noReply_notify _ _ _

end

/-! ### Unbinding a line (R59) -/

section
variable (s : State) (att : Attachment)

theorem State.unbindLine_radio (a : Nat) : s.unbindLine (.radio a) = s := rfl

theorem State.unbindLine_line (n : Nat) : s.unbindLine (.line n) = (s.modLine n fun l => { l with
    bound := none, enabled := false, state := .disabled, out := none, edgeDue := none }).noteLine n
      (s.line n).state 2 := rfl

theorem State.unbindLine_inner :
    (s.unbindLine att).inner = { s with lines := (s.unbindLine att).lines }.inner := by
  cases att with
  | radio a => rfl
  | line n =>
    have h : (s.unbindLine (.line n)).inner = (s.modLine n fun l => { l with
        bound := none, enabled := false, state := .disabled, out := none, edgeDue := none }).inner := by
      rw [State.unbindLine_line, State.inner_noteLine]
    rw [h, State.lines_of_inner h]
    rfl

theorem State.unbindLine_noReply : NoReply s (s.unbindLine att) := by
  cases att with
  | radio a => exact NoReply.refl s
  | line n =>
    rw [State.unbindLine_line]
    exact (NoReply.of_eq (s := s) rfl rfl).trans (State.noReply_noteLine _ _)

theorem State.unbindLine_at {n : Nat} (hn : n < 16) : (s.unbindLine (.line n)).line n = { s.line n with
    bound := none, enabled := false, state := .disabled, out := none, edgeDue := none } := by
  have h : (s.unbindLine (.line n)).lines = (s.modLine n fun l => { l with
      bound := none, enabled := false, state := .disabled, out := none, edgeDue := none }).lines := by
    rw [State.unbindLine_line]
    exact State.lines_of_inner (State.inner_noteLine _ _)
  rw [State.line_congr h, State.line_modLine hn, if_pos rfl]

theorem State.unbindLine_other {n : Nat} (hn : att ≠ .line n) : (s.unbindLine att).line n = s.line n := by
  cases att with
  | radio a => rfl
  | line m =>
    have hne : n ≠ m := fun h => hn (by rw [h])
    have h : (s.unbindLine (.line m)).lines = (s.modLine m fun l => { l with
        bound := none, enabled := false, state := .disabled, out := none, edgeDue := none }).lines := by
      rw [State.unbindLine_line]
      exact State.lines_of_inner (State.inner_noteLine _ _)
    rw [State.line_congr h, State.line_modLine_ne hne]

end

theorem Device.isRadio_iff {d : Device} : d.isRadio = true ↔ ∃ a, d.set.att = .radio a := by
  unfold Device.isRadio
  cases d.set.att <;> simp

theorem Device.isRadio_false {d : Device} : d.isRadio = false ↔ ∃ n, d.set.att = .line n := by
  unfold Device.isRadio
  cases d.set.att <;> simp

/-! ### REMOVE_DEVICE (R51) -/

/-- What the removal of a device in no unit leaves. -/
theorem State.removeDev_spec {s : State} {slot : Nat} {d : Device} (hslot : slot < 32)
    (hunit : d.set.unit = none) :
    (s.removeDev slot d).dev slot = none ∧
    (∀ i, i ≠ slot → (s.removeDev slot d).dev i = s.dev i) ∧
    (∀ n, n < 16 → d.set.att = .line n → (s.removeDev slot d).line n = { s.line n with
      bound := none, enabled := false, state := .disabled, out := none, edgeDue := none }) ∧
    (∀ n, d.set.att ≠ .line n → (s.removeDev slot d).line n = s.line n) ∧
    (d.isRadio = true → Dropped s.radio (s.removeDev slot d).radio slot) ∧
    (d.isRadio = false → (s.removeDev slot d).radio = s.radio) ∧
    (s.removeDev slot d).inner = { s with
      slots := (s.removeDev slot d).slots
      lines := (s.removeDev slot d).lines
      radio := (s.removeDev slot d).radio }.inner ∧
    NoReply s (s.removeDev slot d) ∧
    (d.isRadio = true → Raised s (s.removeDev slot d) 0x45 [fByte slot, fByte d.live.state.code,
      fByte (Config.unlistedCode "EMPTY"), fTick s.houseTime, fByte 0, fByte 0, fByte 0, fByte 0]) := by
  obtain ⟨v, hv⟩ : ∃ v, v = (s.setDev slot none).noteDevice slot (some d.live.state) none .host :=
    ⟨_, rfl⟩
  have hvi : v.inner = (s.setDev slot none).inner := by rw [hv]; exact State.inner_notify _ _ _
  have hvn : NoReply s v := by
    rw [hv]
    exact (NoReply.of_eq (s := s) rfl rfl).trans (noReply_notify _ _ _)
  have hvr : Raised s v 0x45 [fByte slot, fByte d.live.state.code,
      fByte (Config.unlistedCode "EMPTY"), fTick s.houseTime, fByte 0, fByte 0, fByte 0, fByte 0] := by
    rw [hv]
    exact (Mum.of_eq (t := s.setDev slot none) rfl rfl rfl).raised (State.raised_notify _ _ _)
  obtain ⟨w, hw⟩ : ∃ w, w = v.unbindLine d.set.att := ⟨_, rfl⟩
  have hwi : w.inner = { v with lines := w.lines }.inner := by rw [hw]; exact v.unbindLine_inner _
  have hrem : s.removeDev slot d = if d.isRadio then w.dropRadio slot else w := by
    rw [hw, hv]
    unfold State.removeDev State.leaveUnit
    simp only [hunit]
  have hslots : (s.removeDev slot d).slots = (s.setDev slot none).slots := by
    have hws : w.slots = (s.setDev slot none).slots :=
      by simp [State.slots_of_inner hwi, State.slots_of_inner hvi]
    rw [hrem]
    split
    · rw [State.dropRadio_slots, hws]
    · exact hws
  have hlines : (s.removeDev slot d).lines = w.lines := by
    rw [hrem]
    split
    · rw [State.dropRadio_lines]
    · rfl
  have hvline : ∀ n, v.line n = s.line n := State.line_congr (State.lines_of_inner (s := s.setDev slot none) hvi)
  have hwr : w.radio = s.radio := by
    simp [State.radio_of_inner hwi, State.radio_of_inner hvi]
  have hwn : NoReply s w := by rw [hw]; exact hvn.trans (v.unbindLine_noReply _)
  refine ⟨?_, fun i hi => ?_, fun n hn hatt => ?_, fun n hatt => ?_, fun hr => ?_, fun hr => ?_, ?_, ?_,
    fun hr => ?_⟩
  · rw [State.dev_congr hslots, State.dev_setDev, if_pos ⟨rfl, hslot⟩]
  · rw [State.dev_congr hslots, State.dev_setDev_ne _ hi]
  · rw [State.line_congr hlines, hw, hatt, v.unbindLine_at hn, hvline]
  · rw [State.line_congr hlines, hw, v.unbindLine_other _ hatt, hvline]
  · rw [hrem, if_pos hr, ← hwr]
    exact Radio.dropSlot_dropped _ _
  · rw [hrem, if_neg (by simp [hr]), hwr]
  · rw [hlines, hslots]
    have hdrop : (s.removeDev slot d).inner = { w with radio := (s.removeDev slot d).radio }.inner := by
      rw [hrem]
      split <;> rfl
    rw [hdrop]
    have hw' := State.inner_fields hwi
    have hv' := State.inner_fields hvi
    dsimp only at hw' hv'
    exact State.inner_ext (by simp [hw', hv'])
  · rw [hrem]
    split
    · exact hwn.trans (.of_eq (by simp) (by simp))
    · exact hwn
  · obtain ⟨a, ha⟩ := Device.isRadio_iff.1 hr
    have hwv : w = v := by rw [hw, ha]; rfl
    rw [hrem, if_pos hr, hwv]
    exact hvr.silent (Mum.of_eq (by simp) (by simp) (by simp)).silent

theorem exec_removeDevice {q : Req} {slot : Nat} {d : Device} {s : State} (h : Taken s q)
    (hp : q.port = .control) (happ : s.store.applied = true) (hslot : slot < 32)
    (hd : s.dev slot = some d) : exec (.removeDevice q slot) s = .next (State.pump
      (if d.live.current ≠ .none then (s.enlist q 0x07).reply q.port 0x07 q.tag .takeOpen
      else ((s.enlist q 0x07).removeDev slot d).reply q.port 0x07 q.tag .ok)) := by
  refine (finish_taken h (Class.admits_control hp) (holds_byte (by omega))).trans ?_
  rw [if_neg (by simp [happ]), if_neg (by omega)]
  simp only [State.enlist_dev, hd]

/-- A SET_DEVICE past the port's and the start-up's checks. -/
theorem exec_setDevice {q : Req} {slot : Nat} {a : DeviceArgs} {s : State} (h : Taken s q)
    (hp : q.port = .control) (happ : s.store.applied = true) (hslot : slot < 32)
    (hfits : a.fits = true) (hk : a.kind = none) :
    (∀ st, s.setCheck slot a = .error st → exec (.setDevice q slot a) s =
      .next ((s.enlist q 0x06).reply q.port 0x06 q.tag st).pump) ∧
    (∀ x d, s.setCheck slot a = .ok (x, d) → exec (.setDevice q slot a) s =
      .next (((s.enlist q 0x06).change slot x d).reply q.port 0x06 q.tag .ok).pump) := by
  have hread : (s.enlist q 0x06).setCheck slot a = s.setCheck slot a :=
    State.reads_enlist s q 0x06 none (fun s => s.setCheck slot a) (fun _ _ => rfl) fun _ _ => rfl
  constructor
  · intro st hst
    refine (finish_taken h (Class.admits_control hp)
      (by simp [holds_byte (n := slot) (by omega), hfits, hk])).trans ?_
    rw [if_neg (by simp [happ]), hread]
    simp only [hst]
  · intro x d hok
    refine (finish_taken h (Class.admits_control hp)
      (by simp [holds_byte (n := slot) (by omega), hfits, hk])).trans ?_
    rw [if_neg (by simp [happ]), hread]
    simp only [hok]

/-- The checks of R46 past the first five, on settings that pass these. -/
theorem State.setCheck_of {s : State} {slot : Nat} {a : DeviceArgs} {x : Device} {d : DeviceSettings}
    (hd : s.dev slot = some x) (hw : x.set.with a = d) (hok : settingsOk a d.rate = true)
    (hsuits : suits d.kind d.att = true) (hauto : autoRollOk a d = true) (hplaced : d.placed = true)
    (hatt : x.set.att ≠ d.att → s.attachmentHeld slot d.att = false)
    (hunit : x.set.unit ≠ d.unit → s.unitFull d.unit = false) : s.setCheck slot a =
      if x.live.current ≠ .none ∧ x.set.disturbs d then .error .takeOpen else .ok (x, d) := by
  have hslot := s.dev_lt hd
  unfold State.setCheck
  rw [if_neg (by omega)]
  simp only [hd, hw]
  rw [if_neg (by simp [hok, hsuits, hauto, hplaced]), if_neg (by rintro ⟨h1, h2⟩; simp [hatt h1] at h2),
    if_neg (by rintro ⟨h1, h2⟩; simp [hunit h1] at h2)]

theorem orNone_lt {u : Nat} (hu : u < 4) : orNone u = some u := if_neg (by omega)

/-- A new unit alone among the settings. -/
theorem DeviceSettings.with_unit {d : DeviceSettings} (u : Nat)
    (hphase : d.att.wired = false → d.phase = 0) :
    d.with { unit := some u } = { d with unit := orNone u } := by
  unfold DeviceSettings.with
  by_cases hw : d.att.wired = true
  · simp [hw]
  · simp [hw, hphase (by simpa using hw)]

/-- Settles O17: a removal empties the slot over the steps of R51; a participant stays. -/
theorem deviceRemovedUnlessInTake : Obligations.DeviceRemovedUnlessInTake := by
  intro q slot d s htaken hp happ hslot hd
  constructor
  · intro hcur hunit
    have hexec := exec_removeDevice htaken hp happ hslot hd
    rw [if_neg (by simp [hcur])] at hexec
    obtain ⟨h1, h2, h3, h4, h5, h6, h7, h8, h9⟩ :=
      State.removeDev_spec (s := s.enlist q 0x07) hslot hunit
    obtain ⟨v, hv⟩ : ∃ v, v = (s.enlist q 0x07).removeDev slot d := ⟨_, rfl⟩
    rw [← hv] at hexec h1 h2 h3 h4 h5 h6 h7 h8 h9
    have hsent := sent_reply h8 .ok []
    have hf := State.inner_fields h7
    simp only [State.enlist_line, State.enlist_dev, State.enlist_radio, State.enlist_houseTime] at *
    refine ⟨_, hexec, by rw [State.sent_dev, h1], fun i hi => by rw [State.sent_dev, h2 i hi],
      fun n hn ha => by rw [State.sent_line, h3 n hn ha], fun n ha => by rw [State.sent_line, h4 n ha],
      fun hr => by rw [State.pump_radio, State.reply_radio]; exact h5 hr,
      fun hr => by rw [State.pump_radio, State.reply_radio]; exact h6 hr, ?_, hsent.answered,
      fun hr => hsent.raised _ _ (h9 hr)⟩
    rw [hsent.inner, h7]
    exact State.inner_ext (by simp)
  · intro hcur
    constructor
    · have hexec := exec_removeDevice htaken hp happ hslot hd
      rw [if_pos hcur] at hexec
      have hsent := sent_reply (k := 0x07) (NoReply.refl (s.enlist q 0x07)) .takeOpen []
      exact ⟨_, hexec, hsent.inner.trans (s.inner_enlist q 0x07 none), hsent.silent (Mum.refl _),
        hsent.answered⟩
    · intro u hu hne hlen hsuits hrate hplaced hphase
      have hw := DeviceSettings.with_unit (d := d.set) u fun h => hphase (by
        cases ha : d.set.att <;> simp_all [Device.isRadio, Attachment.wired])
      have hcheck := State.setCheck_of (a := { unit := some u }) hd hw
        (by simp [settingsOk, carriedOk, hrate]; omega) hsuits rfl hplaced (fun h => absurd rfl h)
        (fun _ => by
          rw [orNone_lt hu]
          exact decide_eq_false (by omega))
      rw [if_pos ⟨hcur, by simp [DeviceSettings.disturbs, orNone_lt hu, hne]⟩] at hcheck
      have hexec := (exec_setDevice (a := { unit := some u }) htaken hp happ hslot
        (by simp [DeviceArgs.fits, holdsOpt, holds_byte (n := u) (by omega)]) rfl).1 _ hcheck
      have hsent := sent_reply (k := 0x06) (NoReply.refl (s.enlist q 0x06)) .takeOpen []
      exact ⟨_, hexec, hsent.inner.trans (s.inner_enlist q 0x06 none), hsent.silent (Mum.refl _),
        hsent.answered⟩

/-! ### JAM_DEVICE (R53, R99) -/

/-- A device that enters another state: the slot is replaced. -/
theorem State.enter_eq {s : State} {i : Nat} {d : Device} {new : DevState} (hd : s.dev i = some d)
    (hne : d.live.state ≠ new) : s.enter i new = s.setDev i (some { d with live := { d.live with
      state := new, pollLeft := s.pollPeriod { d with live := { d.live with state := new } } } }) := by
  unfold State.enter
  simp only [hd]
  rw [if_neg hne]

/-- The poll period of a device that is JAM_PENDING. -/
theorem State.pollPeriod_pending (s : State) (d : Device) (h : d.live.state = .jamPending) :
    ∃ p, s.pollPeriod d = some p ∧
      ((d.set.kind = .slate ∧ ∃ u, d.set.unit = some u ∧ (s.unit u).rolling = true) → p = 1) ∧
      (¬ (d.set.kind = .slate ∧ ∃ u, d.set.unit = some u ∧ (s.unit u).rolling = true) →
        p = d.set.poll) := by
  have hiff : (d.set.kind = .slate ∧ (d.set.unit.map fun u => (s.unit u).rolling) = some true) ↔
      (d.set.kind = .slate ∧ ∃ u, d.set.unit = some u ∧ (s.unit u).rolling = true) := by
    rw [Option.map_eq_some_iff]
  unfold State.pollPeriod
  simp only [h, hiff]
  split
  · rename_i hc
    exact ⟨1, rfl, fun _ => rfl, fun hn => absurd hc hn⟩
  · rename_i hc
    exact ⟨d.set.poll, rfl, fun hn => absurd hn hc, fun _ => rfl⟩

theorem exec_jamDevice {q : Req} {slot : Nat} {label : Option Label} {d : Device} {s : State}
    (h : Taken s q) (hp : q.port = .control) (happ : s.store.applied = true) (hslot : slot < 32)
    (hd : s.dev slot = some d) (hr : d.isRadio = true) (hheld : d.heldBack = false)
    (hlabel : ∀ l, label = some l → labelHolds l = true ∧ labelOk d.set.rate l = true) :
    exec (.jamDevice q slot label) s = .next (((s.enlist q 0x09).hostJam slot d
      (label.map (frameOf d.set.rate))).reply q.port 0x09 q.tag .ok).pump := by
  have hholds : (label.map labelHolds).getD true = true := by
    cases label with
    | none => rfl
    | some l => exact (hlabel l rfl).1
  have hok : (label.map (labelOk d.set.rate)).getD true = true := by
    cases label with
    | none => rfl
    | some l => exact (hlabel l rfl).2
  refine (finish_taken h (Class.admits_control hp)
    (by simp [holds_byte (n := slot) (by omega), hholds])).trans ?_
  rw [if_neg (by simp [happ]), if_neg (by omega)]
  simp only [State.enlist_dev, hd]
  rw [if_neg (by simp [hr]), if_neg (by simp [hok]), if_neg (by simp [hheld])]

/-- Settles O18: the request is posted, and an UNJAMMED device enters JAM_PENDING. -/
theorem hostJamPosted : Obligations.HostJamPosted := by
  intro q slot label d s htaken hp happ hslot hd hr hheld hlabel
  have hexec := exec_jamDevice htaken hp happ hslot hd hr hheld hlabel
  obtain ⟨p, hp1, hp2, hp3⟩ := s.pollPeriod_pending { d with live := { d.live with
    state := .jamPending } } rfl
  obtain ⟨r, hrad⟩ : ∃ r, r = s.radio.post .hostJam slot (label.map (frameOf d.set.rate)) := ⟨_, rfl⟩
  have hposted : Posted s.radio r .hostJam slot (label.map (frameOf d.set.rate)) := by
    rw [hrad]; exact Radio.post_posted _ _ _ _
  obtain ⟨w, hw⟩ : ∃ w : State, w = { s.enlist q 0x09 with radio := r } := ⟨_, rfl⟩
  have hpost : (s.enlist q 0x09).post .hostJam slot (label.map (frameOf d.set.rate)) = w := by
    rw [hw, hrad, State.post, State.enlist_radio]
  have hwdev : w.dev slot = some d := by
    rw [← hd]; exact State.dev_congr (by rw [hw]; simp) slot
  have hwm : Mum (s.enlist q 0x09) w := .of_eq (by rw [hw]) (by rw [hw]) (by rw [hw])
  have hwn : NoReply (s.enlist q 0x09) w := .of_eq (by rw [hw]) (by rw [hw])
  by_cases hun : d.live.state = .unjammed
  · obtain ⟨v, hv⟩ : ∃ v, v = w.setDev slot (some { d with live := { d.live with
        state := .jamPending, pollLeft := some p } }) := ⟨_, rfl⟩
    have hperiod : w.pollPeriod { d with live := { d.live with state := .jamPending } } = some p := by
      rw [← hp1]
      unfold State.pollPeriod
      simp only [State.unit_congr (s := s) (t := w) (by rw [hw]; simp)]
    have hjam : (s.enlist q 0x09).hostJam slot d (label.map (frameOf d.set.rate)) =
        v.noteDevice slot (some .unjammed) (some .jamPending) .host := by
      unfold State.hostJam
      rw [hpost, if_pos hun, State.enter_eq hwdev (by rw [hun]; nofun), hperiod, ← hv]
    rw [hjam] at hexec
    have hnote : Raised (s.enlist q 0x09)
        (v.noteDevice slot (some .unjammed) (some .jamPending) .host) 0x45 [fByte slot, fByte 1, fByte 2,
          fTick s.houseTime, fByte 0, fByte 0, fByte 0, fByte 0] := by
      have htime : v.houseTime = s.houseTime := by
        rw [hv, hw]; exact s.enlist_houseTime q 0x09 none
      rw [← htime]
      exact (hwm.trans (.of_eq (by rw [hv]; rfl) (by rw [hv]; rfl) (by rw [hv]; rfl))).raised
        (v.raised_notify _ _)
    have hn : NoReply (s.enlist q 0x09) (v.noteDevice slot (some .unjammed) (some .jamPending) .host) :=
      (hwn.trans (.of_eq (by rw [hv]; rfl) (by rw [hv]; rfl))).trans (noReply_notify _ _ _)
    have hsent := sent_reply hn .ok []
    have hradio : (v.noteDevice slot (some .unjammed) (some .jamPending) .host).radio = r := by
      rw [State.noteDevice_radio, hv, hw]; rfl
    refine ⟨_, p, hexec, by rw [State.pump_radio, State.reply_radio, hradio]; exact hposted, hp2, hp3,
      fun _ => ⟨?_, hsent.raised _ _ hnote⟩, fun hne => absurd hun hne, hsent.answered⟩
    rw [hsent.inner, State.pump_radio, State.reply_radio, hradio]
    refine (State.inner_notify _ _ _).trans ?_
    rw [hv, hw]
    exact State.inner_ext (by simp [State.setDev])
  · have hjam : (s.enlist q 0x09).hostJam slot d (label.map (frameOf d.set.rate)) = w := by
      unfold State.hostJam
      rw [hpost, if_neg hun]
    rw [hjam] at hexec
    have hsent := sent_reply hwn .ok []
    have hradio : w.radio = r := by rw [hw]
    refine ⟨_, p, hexec, by rw [State.pump_radio, State.reply_radio, hradio]; exact hposted, hp2, hp3,
      fun h => absurd h hun, fun _ => ⟨?_, hsent.silent hwm⟩, hsent.answered⟩
    rw [hsent.inner, State.pump_radio, State.reply_radio, hradio, hw]
    exact State.inner_ext (by simp)

/-! ### LINE_ENABLE (R60) -/

theorem exec_lineEnable {q : Req} {n slot : Nat} {on : Bool} {s : State} (h : Taken s q)
    (hp : q.port = .control) (happ : s.store.applied = true) (hn : n < 16)
    (hb : (s.line n).bound = some slot) : exec (.lineEnable q n on) s =
      .next ((((s.enlist q 0x0A).enableLine n slot on).reply q.port 0x0A q.tag .ok
        [fByte (((s.enlist q 0x0A).enableLine n slot on).line n).state.code])).pump := by
  refine (finish_taken h (Class.admits_control hp) (holds_byte (by omega))).trans ?_
  rw [if_neg (by simp [happ]), if_neg (by omega)]
  simp only [State.enlist_line, hb]

theorem State.writeEntry_free {s : State} {slot : Nat} (h : ∀ ss ix, s.currentOf slot ≠ .logged ss ix)
    (f : Participant → Participant) : s.writeEntry slot f = s := by
  unfold State.writeEntry
  split
  · rename_i ss ix hc
    exact absurd hc (h ss ix)
  · rfl

/-- A LINE notice of a bound line that has changed. -/
theorem State.noteLine_moved {s : State} {n slot : Nat} {f : Line → Line} (hn : n < 16)
    (hb : (f (s.line n)).bound = some slot) (hne : (f (s.line n)).state ≠ (s.line n).state) (c : Nat)
    {v : State} (hv : v = (s.modLine n f).noteLine n (s.line n).state c) :
    NoReply s v ∧ v.inner = (s.modLine n f).inner ∧ v.line n = f (s.line n) ∧
      Raised s v 0x46 [fByte n, fByte 1, fByte slot, fByte (s.line n).state.code,
        fByte (f (s.line n)).state.code, fByte (Sense.code (f (s.line n)).sense), fTick s.houseTime,
        fByte c] := by
  obtain ⟨w, hw⟩ : ∃ w, w = s.modLine n f := ⟨_, rfl⟩
  have hline : w.line n = f (s.line n) := by rw [hw, State.line_modLine hn, if_pos rfl]
  have hnote := State.noteLine_changed (s := w) (n := n) (old := (s.line n).state) (slot := slot)
    (by rw [hline]; exact hne) (by rw [hline]; exact hb) c
  have htime : w.houseTime = s.houseTime := by rw [hw]; rfl
  rw [hline, htime] at hnote
  rw [← hw, hnote] at hv
  rw [hv]
  refine ⟨(NoReply.of_eq (by rw [hw]; rfl) (by rw [hw]; rfl)).trans (noReply_notify _ _ _), ?_, ?_,
    (Mum.of_eq (by rw [hw]; rfl) (by rw [hw]; rfl) (by rw [hw]; rfl)).raised (State.raised_notify _ _ _)⟩
  · rw [State.inner_notify, hw]
  · rw [State.line_congr (State.notify_lines _ _ _), hline]

/-- The same over the listed request. -/
theorem State.noteLine_enlisted {s : State} {q : Req} {k n slot : Nat} {f : Line → Line} (hn : n < 16)
    (hb : (f (s.line n)).bound = some slot) (hne : (f (s.line n)).state ≠ (s.line n).state) (c : Nat)
    {v : State} (hv : v = ((s.enlist q k).modLine n f).noteLine n (s.line n).state c) :
    NoReply (s.enlist q k) v ∧ v.inner = (s.modLine n f).inner ∧ v.line n = f (s.line n) ∧
      Raised (s.enlist q k) v 0x46 [fByte n, fByte 1, fByte slot, fByte (s.line n).state.code,
        fByte (f (s.line n)).state.code, fByte (Sense.code (f (s.line n)).sense), fTick s.houseTime,
        fByte c] := by
  have h := State.noteLine_moved (s := s.enlist q k) (f := f) (slot := slot) (v := v) hn
    (by rw [State.enlist_line]; exact hb) (by rw [State.enlist_line]; exact hne) c
    (by rw [State.enlist_line]; exact hv)
  rw [State.enlist_line, State.enlist_houseTime] at h
  obtain ⟨hnr, hi, hline, hraised⟩ := h
  exact ⟨hnr, hi.trans (State.inner_ext (by simp [State.modLine])), hline, hraised⟩

/-- Settles O19: on gives the state of the sense, off the idle level; a device in no take has no line
fault. -/
theorem lineEnabled : Obligations.LineEnabled := by
  intro q n slot s htaken hp happ hn hb
  constructor
  · intro hoff hdis
    obtain ⟨v, hv⟩ : ∃ v, v = ((s.enlist q 0x0A).modLine n fun l => { l with
      enabled := true, state := Sense.lineState l.sense, out := none, edgeDue := none }).noteLine n
        (s.line n).state 1 := ⟨_, rfl⟩
    have hen : (s.enlist q 0x0A).enableLine n slot true = v := by
      unfold State.enableLine
      dsimp only
      rw [if_neg (by simp [hoff]), if_pos rfl, hv, State.enlist_line]
      rfl
    have hexec := exec_lineEnable (on := true) htaken hp happ hn hb
    rw [hen] at hexec
    obtain ⟨hnr, hi, hline, hraised⟩ := State.noteLine_enlisted (f := fun l => { l with
      enabled := true, state := Sense.lineState l.sense, out := none, edgeDue := none }) hn hb
      (by rw [hdis]; cases (s.line n).sense <;> nofun) 1 hv
    rw [hline] at hexec
    have hsent := sent_reply hnr .ok [fByte (Sense.lineState (s.line n).sense).code]
    rw [hdis] at hraised
    exact ⟨_, hexec, hsent.inner.trans hi, hsent.answered, hsent.raised _ _ hraised⟩
  · intro hon hact hcur
    obtain ⟨v, hv⟩ : ∃ v, v = ((s.enlist q 0x0A).modLine n fun l => { l with
      enabled := false, state := .disabled, out := none, edgeDue := none }).noteLine n
        (s.line n).state 1 := ⟨_, rfl⟩
    obtain ⟨hnr, hi, hline, hraised⟩ := State.noteLine_enlisted (f := fun l => { l with
      enabled := false, state := .disabled, out := none, edgeDue := none }) hn hb
      (by rw [hact]; nofun) 1 hv
    have hvcur : v.currentOf slot = .none := by
      rw [← hcur, State.currentOf, State.currentOf, State.dev_congr (State.slots_of_inner hi)]
      rfl
    have hen : (s.enlist q 0x0A).enableLine n slot false = v := by
      have : (s.enlist q 0x0A).enableLine n slot false = v.lineFault slot := by
        unfold State.enableLine
        dsimp only
        rw [if_neg (by simp [hon]), if_neg nofun, hv, State.enlist_line]
        rfl
      rw [this]
      exact State.writeEntry_free (by rw [hvcur]; nofun) _
    have hexec := exec_lineEnable (on := false) htaken hp happ hn hb
    rw [hen, hline] at hexec
    have hsent := sent_reply hnr .ok [fByte 0]
    rw [hact] at hraised
    exact ⟨_, hexec, hsent.inner.trans hi, hsent.answered, hsent.raised _ _ hraised⟩

end Sys2Proof.Machine
end

section
/-!
SUPPORT and THEOREM. What a line emits, its sense and its run level: O20 to O22.
-/

namespace Sys2Proof.Machine

/-- Settles O20: the frame word is the label of the wired frame that begins at the edge. -/
theorem lineEmitsFrameWord : Obligations.LineEmitsFrameWord := by
  intro n slot edge d s hn hact hb hd hedge _ _ _
  have htake : s.takeableEdge n = some (edge, d) := by
    unfold State.takeableEdge
    simp only [hact, hedge, hb, Option.bind_some, hd]
  have hword : d.frameWord edge = ⟨labelOf d.set.rate (((edge + d.set.phase) / periodOf d.set.rate +
      d.set.origin) % dayOf d.set.rate), d.set.rate == 5 || d.set.rate == 11⟩ := by
    unfold Device.frameWord
    rw [wiredFrame_nat, isDrop, Bool.decide_or]
    rfl
  obtain ⟨v, hv⟩ : ∃ v, v = s.modLine n fun l => { l with
    out := some (d.frameWord edge), edgeDue := none } := ⟨_, rfl⟩
  have hexec : exec (.lineFrameEdge n) s = .next v.pump := by
    show finish _ = _
    rw [htake, hv]
    rfl
  obtain ⟨hr, hs⟩ := quiet_pump (s := s) (u := v) (.of_eq (by rw [hv]; rfl) (by rw [hv]; rfl))
    (.of_eq (by rw [hv]; rfl) (by rw [hv]; rfl) (by rw [hv]; rfl))
  refine ⟨_, hexec, ?_, hr, hs⟩
  rw [State.inner_pump, hv, hword]

/-! ### LINE_SENSE_CHANGE (R58, R61) -/

theorem State.writeEntry_logged {s : State} {slot ss ix : Nat} (h : s.currentOf slot = .logged ss ix)
    (f : Participant → Participant) : s.writeEntry slot f = s.modTake ss ix fun e => e.mod fun r =>
      if r.state = .opened then r.modEntry slot f else r := by
  unfold State.writeEntry
  simp only [h]

/-- A write into a device's entry of its open logged take: the entry of the record found, and no
other. -/
theorem State.writeEntry_found {s : State} {slot ss ix : Nat} {e : Entry}
    (h : s.currentOf slot = .logged ss ix) (hf : s.findTake ss ix = some e)
    (ho : e.copy.state = .opened) (f : Participant → Participant) :
    (s.writeEntry slot f).findTake ss ix = some { e with copy := e.copy.modEntry slot f } := by
  rw [State.writeEntry_logged h, State.findTake_modTake_same (fun e => ?_) hf, Entry.mod, if_pos ho]
  constructor <;> (dsimp only [Entry.mod]; split <;> rfl)

theorem State.writeEntry_kept {s : State} {slot ss ix : Nat} (h : s.currentOf slot = .logged ss ix)
    (f : Participant → Participant) : EntriesKept s (s.writeEntry slot f) ss ix ∧
      (s.writeEntry slot f).takes.queue = s.takes.queue := by
  rw [State.writeEntry_logged h]
  exact ⟨s.modTake_kept ss ix _, rfl⟩

theorem State.writeEntry_eq (s : State) (slot : Nat) (f : Participant → Participant) :
    s.writeEntry slot f = { s with takes := (s.writeEntry slot f).takes } := by
  unfold State.writeEntry
  split <;> rfl

/-- What a line fault leaves: the table alone is touched, in the device's entry of its open logged
take. -/
theorem State.lineFault_spec (s : State) (slot : Nat) :
    (s.currentOf slot = .none → (s.lineFault slot).takes = s.takes) ∧
    (∀ u, s.currentOf slot = .unlogged u → (s.lineFault slot).takes = s.takes) ∧
    (∀ ss ix, s.currentOf slot = .logged ss ix →
      (s.lineFault slot).takes.queue = s.takes.queue ∧ EntriesKept s (s.lineFault slot) ss ix ∧
      (∀ e, s.findTake ss ix = some e → e.copy.state = .opened → ∃ x,
        (s.lineFault slot).findTake ss ix = some { e with copy := { e.copy with
          participants := e.copy.participants.map (fun p =>
            if p.slot = slot then { p with lineFault := some (p.lineFault.getD s.houseTime) }
            else p)
          timeUncertain := x } } ∧
        (x = true ↔ e.copy.timeUncertain = true ∨
          ∃ p ∈ e.copy.participants, p.uncertain = true))) := by
  refine ⟨fun h => ?_, fun u h => ?_, fun ss ix h => ?_⟩
  · rw [State.lineFault, State.writeEntry_free (by rw [h]; nofun)]
  · rw [State.lineFault, State.writeEntry_free (by rw [h]; nofun)]
  · obtain ⟨hk, hq⟩ := State.writeEntry_kept h fun p =>
      { p with lineFault := some (p.lineFault.getD s.houseTime) }
    refine ⟨hq, hk, fun e he ho => ⟨_, State.writeEntry_found h he ho _, ?_⟩⟩
    have hany : ((e.copy.participants.map fun p => if p.slot = slot then
        { p with lineFault := some (p.lineFault.getD s.houseTime) } else p).any
          Participant.uncertain) = e.copy.participants.any Participant.uncertain := by
      rw [List.any_map]
      refine List.any_congr rfl fun p => ?_
      dsimp only [Function.comp_apply]
      split <;> rfl
    rw [hany, Bool.or_eq_true, List.any_eq_true]

theorem exec_lineSenseChange {n : Nat} {sense : Sense} {s : State} (hn : n < 16)
    (hne : (s.line n).sense ≠ sense) : exec (.lineSenseChange n sense) s =
      .next (((s.modLine n fun l => l.sensed sense).noteLine n (s.line n).state 0).faultIfDown n).pump := by
  show finish _ = _
  rw [if_neg (by rintro (h | h); exacts [by omega, hne h])]
  rfl

/-- Settles O21: the sense is recorded, an enabled line takes its state, and a fault is handed to the
table. -/
theorem lineSenseTaken : Obligations.LineSenseTaken := by
  intro n slot sense s hn hsense hb
  have hexec := exec_lineSenseChange hn hsense
  refine ⟨fun hoff hdis => ?_, fun hon hact hfail => ?_, fun hon hfault hpres => ?_⟩
  · obtain ⟨v, hv⟩ : ∃ v, v = s.modLine n fun l => l.sensed sense := ⟨_, rfl⟩
    have hline : v.line n = { s.line n with sense := sense } := by
      rw [hv, State.line_modLine hn, if_pos rfl]
      simp [Line.sensed, hoff]
    have hnote : v.noteLine n (s.line n).state 0 = v := State.noteLine_same (by rw [hline]) 0
    have hdown : v.faultIfDown n = v := by
      unfold State.faultIfDown
      rw [hline]
      simp only [hdis]
    rw [← hv, hnote, hdown] at hexec
    obtain ⟨hr, hs⟩ := quiet_pump (s := s) (u := v) (.of_eq (by rw [hv]; rfl) (by rw [hv]; rfl))
      (.of_eq (by rw [hv]; rfl) (by rw [hv]; rfl) (by rw [hv]; rfl))
    refine ⟨_, hexec, ?_, hr, hs⟩
    rw [State.inner_pump, hv]
    simp [State.modLine, Line.sensed, hoff]
  · obtain ⟨f, hf⟩ : ∃ f : Line → Line, f = fun l => { l with
      sense := sense
      state := if sense = Sense.opened then .faultOpen else .faultShort
      out := none
      edgeDue := none } := ⟨_, rfl⟩
    obtain ⟨v, hv⟩ : ∃ v, v = (s.modLine n f).noteLine n (s.line n).state 0 := ⟨_, rfl⟩
    have hmod : (s.modLine n fun l => l.sensed sense) = s.modLine n f := by
      have : (s.line n).sensed sense = f (s.line n) := by
        rw [hf]
        cases sense with
        | present => exact absurd rfl hfail
        | opened => simp [Line.sensed, hb, hon, Line.put, Sense.lineState]
        | short => simp [Line.sensed, hb, hon, Line.put, Sense.lineState]
      simp only [State.modLine, this]
    obtain ⟨hnr, hi, hline, hraised⟩ := State.noteLine_moved (f := f) (slot := slot) hn
      (by rw [hf]; exact hb) (by rw [hact, hf]; dsimp only; split <;> nofun) 0 hv
    have hdown : v.faultIfDown n = v.lineFault slot := by
      unfold State.faultIfDown
      rw [hline, hf]
      by_cases ho : sense = .opened
      · simp only [ho, if_true, hb]
      · simp only [ho, if_false, hb]
    rw [hmod, ← hv, hdown] at hexec
    obtain ⟨h1, h2, h3⟩ := v.lineFault_spec slot
    have heq := v.writeEntry_eq slot fun p =>
      { p with lineFault := some (p.lineFault.getD v.houseTime) }
    change v.lineFault slot = { v with takes := (v.lineFault slot).takes } at heq
    obtain ⟨w, hw⟩ : ∃ w, w = v.lineFault slot := ⟨_, rfl⟩
    rw [← hw] at hexec h1 h2 h3 heq
    have hfields := State.inner_fields hi
    have hcur : v.currentOf slot = s.currentOf slot := by
      rw [State.currentOf, State.currentOf, State.dev_congr (State.slots_of_inner hi)]
      rfl
    have htakes : v.takes = s.takes := by simp [hfields]
    have htime : v.houseTime = s.houseTime := State.houseTime_congr (by simp [hfields])
      (by simp [hfields])
    rw [hcur] at h1 h2
    simp only [hcur, htakes, htime, EntriesKept, State.findTake_congr (congrArg TakeTable.entries htakes)]
      at h1 h2 h3
    refine ⟨_, hexec, ?_, ?_, fun hc => ?_, fun u hc => ?_, fun ss ix hc => ?_, ?_⟩
    · rw [State.inner_pump, State.pump_takes, ← hf, heq]
      exact State.inner_ext (by simp [hfields])
    · exact (hnr.trans (.of_eq (by rw [heq]) (by rw [heq]))).trans (noReply_pump _)
    · rw [State.pump_takes]; exact h1 hc
    · rw [State.pump_takes]; exact h2 u hc
    · rw [EntriesKept, State.findTake_congr (congrArg TakeTable.entries w.pump_takes), State.pump_takes]
      exact h3 ss ix hc
    · have hsil : Silent v w.pump :=
        (Mum.of_eq (by rw [heq]) (by rw [heq]) (by rw [heq])).silent.trans (silent_pump _)
      rw [hact, hf] at hraised
      have hcode : (if sense = Sense.opened then LineState.faultOpen else .faultShort).code =
          if sense = .opened then 2 else 3 := by split <;> rfl
      rw [← hcode]
      exact hraised.silent hsil
  · obtain ⟨f, hf⟩ : ∃ f : Line → Line, f = fun l => { l with
      sense := sense, state := .active, out := none, edgeDue := none } := ⟨_, rfl⟩
    obtain ⟨v, hv⟩ : ∃ v, v = (s.modLine n f).noteLine n (s.line n).state 0 := ⟨_, rfl⟩
    have hmod : (s.modLine n fun l => l.sensed sense) = s.modLine n f := by
      have : (s.line n).sensed sense = f (s.line n) := by
        rw [hf, hpres]
        simp [Line.sensed, hb, hon, Line.put, Sense.lineState]
      simp only [State.modLine, this]
    obtain ⟨hnr, hi, hline, hraised⟩ := State.noteLine_moved (f := f) (slot := slot) hn
      (by rw [hf]; exact hb) (by rw [hf]; rintro h; rcases hfault with hx | hx <;> rw [hx] at h <;> cases h)
      0 hv
    have hdown : v.faultIfDown n = v := by
      unfold State.faultIfDown
      rw [hline, hf]
    rw [hmod, ← hv, hdown] at hexec
    refine ⟨_, hexec, ?_, hnr.trans (noReply_pump _), ?_⟩
    · rw [State.inner_pump, hi, hf]
    · rw [hf, hpres] at hraised
      exact hraised.silent (silent_pump _)

/-! ### What the store arbiter leaves of units and lines -/

/-- Between `s` and `t`, the units and lines are as they were. -/
structure UnitsKept (s t : State) : Prop where
  units : t.units = s.units
  lines : t.lines = s.lines

section
variable {s t u : State}

theorem UnitsKept.refl (s : State) : UnitsKept s s := ⟨rfl, rfl⟩

theorem UnitsKept.trans (h : UnitsKept s t) (g : UnitsKept t u) : UnitsKept s u :=
  ⟨g.units.trans h.units, g.lines.trans h.lines⟩

variable (s)

theorem unitsKept_failFlushes (st : Status) : UnitsKept s (s.failFlushes st) := by
  unfold State.failFlushes
  dsimp only
  constructor
  · exact foldl_field State.units _ (fun t f => State.reply_units t _ _ _ _ _) _ _
  · exact foldl_field State.lines _ (fun t f => State.reply_lines t _ _ _ _ _) _ _

theorem unitsKept_enterLogFull : UnitsKept s s.enterLogFull := by
  unfold State.enterLogFull
  refine .trans ⟨?_, ?_⟩ (unitsKept_failFlushes _ _)
  · exact State.notify_units _ _ _
  · exact State.notify_lines _ _ _

theorem unitsKept_beginWrite : UnitsKept s s.beginWrite := by
  unfold State.beginWrite
  split
  · exact .refl s
  split
  · unfold State.beginAmend
    split
    · exact unitsKept_enterLogFull s
    · exact ⟨rfl, rfl⟩
  · unfold State.beginCommit
    split
    · exact .refl s
    · dsimp only
      split
      · exact unitsKept_enterLogFull s
      · exact ⟨rfl, rfl⟩
  · exact .refl s

theorem unitsKept_beginRead : UnitsKept s s.beginRead := by
  unfold State.beginRead
  split <;> exact ⟨rfl, rfl⟩

theorem unitsKept_arbitrate : UnitsKept s s.arbitrate := by
  unfold State.arbitrate
  split
  · exact .refl s
  split
  · unfold State.beginPending
    split
    · split <;> exact ⟨rfl, rfl⟩
    · exact ⟨rfl, rfl⟩
    · exact ⟨rfl, rfl⟩
    · exact .refl s
  split
  · exact unitsKept_beginRead s
  · exact (unitsKept_beginWrite s).trans (unitsKept_beginRead _)

end

/-! ### The run tally (R121, R127) -/

section
variable {s : State} {u : Nat}

/-- An opening is logged, with its record in the entry found, or UNLOGGED, with the table unchanged. -/
theorem State.openTake_cases (hu : u < 4) (o : Opener) :
    (∃ k body, s.takes.place = some k ∧ (s.openTake u o).takes = { s.takes with
        lastIndex := s.takes.lastIndex + 1
        entries := s.takes.entries.setIfInBounds k
          (some ⟨s.newRecord u o (s.takes.lastIndex + 1), none, 0⟩) } ∧
      Opens s (s.openTake u o) u o (.logged s.store.session (s.takes.lastIndex + 1)) 0x47 body) ∨
    (∃ body, (s.openTake u o).takes = s.takes ∧
      Opens s (s.openTake u o) u o (.unlogged u) 0x4A body) := by
  cases hp : s.takes.place with
  | some k =>
    obtain ⟨-, ht, h⟩ := State.openLogged_opens hu o hp
    exact .inl ⟨k, _, rfl, ht, h⟩
  | none =>
    obtain ⟨-, ht, h⟩ := State.openUnlogged_opens hu o hp
    exact .inr ⟨_, ht, h⟩

theorem State.openTake_opens (hu : u < 4) (o : Opener) :
    ∃ c kind body, c ≠ .none ∧ Opens s (s.openTake u o) u o c kind body := by
  rcases s.openTake_cases hu o with ⟨k, body, -, -, h⟩ | ⟨body, -, h⟩
  · exact ⟨.logged _ _, _, body, nofun, h⟩
  · exact ⟨.unlogged u, _, body, nofun, h⟩

/-- A rise on an IDLE unit opens its take and sets the camera's roll start. -/
theorem State.runRise_idle {slot : Nat} {d : Device} (hscan : s.store.scanned = true)
    (hd : s.dev slot = some d) (hun : d.set.unit = some u) (hidle : (s.unit u).current = .none) :
    s.runRise slot = (s.openTake u .rollSense).rollStarts slot := by
  unfold State.runRise
  rw [if_neg (by simp [hscan])]
  simp only [hd, Option.bind_some, hun]
  rw [if_neg (by simp [UnitRec.rolling, hidle])]

/-- A take opened by a rise: the unit rolls on it, and so does the camera. -/
theorem State.runRise_opened {slot : Nat} {d : Device} (hscan : s.store.scanned = true) (hu : u < 4)
    (hd : s.dev slot = some d) (hun : d.set.unit = some u) (hidle : (s.unit u).current = .none) :
    ∃ c, c ≠ .none ∧ UnitRolls s (s.runRise slot) u .rollSense c ∧
      (s.runRise slot).lines = s.lines ∧ NoReply s (s.runRise slot) := by
  obtain ⟨c, kind, body, hc, h⟩ := s.openTake_opens hu .rollSense
  have heq := (s.openTake u .rollSense).writeEntry_eq slot fun p =>
    { p with rollStart := some (p.rollStart.getD (s.openTake u .rollSense).houseTime) }
  change (s.openTake u .rollSense).rollStarts slot = _ at heq
  rw [State.runRise_idle hscan hd hun hidle, heq]
  have hlines := State.lines_of_inner h.inner
  exact ⟨c, hc, h.rolls.congr rfl rfl rfl rfl rfl, hlines,
    h.noReply.trans (.of_eq rfl rfl)⟩

/-- What rolling says of the unit and of a device assigned to it. -/
theorem UnitRolls.rolling {t : State} {o : Opener} {c : CurrentTake} {slot : Nat} {d : Device}
    (h : UnitRolls s t u o c) (hc : c ≠ .none) (hd : s.dev slot = some d) (hun : d.set.unit = some u) :
    (t.unit u).rolling = true ∧ (t.unit u).opener = some o ∧ (t.unit u).start = s.houseTime ∧
      t.currentOf slot = (t.unit u).current := by
  obtain ⟨hunit, -, hdev, -⟩ := h
  have hcur : t.currentOf slot = c := by
    rw [State.currentOf, hdev slot d hd, if_pos hun]
  rw [hcur, hunit]
  exact ⟨by simp [UnitRec.rolling, hc], rfl, rfl, rfl⟩

/-- The close of a take makes its unit IDLE and leaves the lines, whatever store and exporter do. -/
theorem State.closeTake_stops (hu : u < 4) (h : (s.unit u).current ≠ .none) :
    ((s.closeTake u).unit u).rolling = false ∧ ((s.closeTake u).unit u).opener = none ∧
      (s.closeTake u).lines = s.lines := by
  have hstop : ∀ (v : State) (c : CurrentTake) (x : Closing), c ≠ .none → v.lines = s.lines →
      ((((v.stopRolling u c).noteClosed x).arbitrate).unit u).rolling = false ∧
      ((((v.stopRolling u c).noteClosed x).arbitrate).unit u).opener = none ∧
      (((v.stopRolling u c).noteClosed x).arbitrate).lines = s.lines := by
    intro v c x hc hv
    have harb := unitsKept_arbitrate ((v.stopRolling u c).noteClosed x)
    have hunit := (v.stopRolling_left (c := c) hu hc).1
    rw [State.unit_congr harb.units, harb.lines, State.noteClosed,
      State.unit_congr (State.notify_units _ _ _), State.notify_lines, hunit, State.stopRolling_eq]
    exact ⟨rfl, rfl, hv⟩
  unfold State.closeTake
  dsimp only
  split
  · rename_i hc
    exact absurd hc h
  · obtain ⟨x, r, hx⟩ := (State.exportRun_eq { s.frozen _ _ with exporter := s.exporter.closed _ _ })
    exact hstop _ _ _ nofun (by rw [State.freezeTake_eq, hx]; rfl)
  · exact hstop _ _ _ nofun rfl

end

/-- A line replaced by itself. -/
theorem State.modLine_same {s : State} {n : Nat} {f : Line → Line} (h : f (s.line n) = s.line n) :
    s.modLine n f = s := by
  have : s.lines.setIfInBounds n (s.line n) = s.lines := by
    refine Vector.ext fun i hi => ?_
    rw [Vector.getElem_setIfInBounds]
    split
    · rename_i hni
      subst hni
      simp [State.line, hi]
    · rfl
  rw [State.modLine, h, this]

theorem exec_runSenseChange {n : Nat} {active : Bool} {s : State} (hn : n < 16)
    (hne : (s.line n).run ≠ active) : exec (.runSenseChange n active) s = .next
      (match s.tallySlot n with
        | none => s.modLine n fun l => { l with run := active }
        | some slot => if active then (s.modLine n fun l => { l with run := active }).runRise slot
            else (s.modLine n fun l => { l with run := active }).runFall slot).pump := by
  show finish _ = _
  rw [if_neg (by rintro (h | h); exacts [by omega, hne h])]
  cases s.tallySlot n <;> rfl

/-- A line that is unbound, or bound to no camera with auto-roll, tallies nothing. -/
theorem State.tallySlot_none {s : State} {n : Nat} (h : ∀ slot d, (s.line n).bound = some slot →
    s.dev slot = some d → d.set.kind ≠ .camera ∨ d.set.autoRoll = false) : s.tallySlot n = none := by
  unfold State.tallySlot
  cases hb : (s.line n).bound with
  | none => rfl
  | some slot =>
    rw [Option.filter_some, if_neg]
    cases hd : s.dev slot with
    | none => simp
    | some d =>
      rcases h slot d hb hd with hk | ha
      · simp [hk]
      · simp [ha]

theorem State.tallySlot_some {s : State} {n slot : Nat} {d : Device} (hb : (s.line n).bound = some slot)
    (hd : s.dev slot = some d) (hk : d.set.kind = .camera) (ha : d.set.autoRoll = true) :
    s.tallySlot n = some slot := by
  unfold State.tallySlot
  rw [hb, Option.filter_some, if_pos (by simp [hd, hk, ha])]

/-- With no tally left, a take opened by ROLL_SENSE closes. -/
theorem State.closeTest_closes {s : State} {u : Nat} (ho : (s.unit u).opener = some .rollSense)
    (h : ∀ x ∈ s.assigned u, s.tallies x.2 = false) : s.closeTest u = s.closeTake u := by
  unfold State.closeTest
  rw [if_pos ⟨ho, List.all_eq_true.2 fun x hx => by simp [h x hx]⟩]

/-- The last fall closes the take. -/
theorem State.runFall_last {s : State} {slot u : Nat} {d : Device} (hd : s.dev slot = some d)
    (hun : d.set.unit = some u) (hroll : (s.unit u).current ≠ .none)
    (ho : (s.unit u).opener = some .rollSense) (h : ∀ x ∈ s.assigned u, s.tallies x.2 = false) :
    s.runFall slot = (s.writeEntry slot fun p => { p with rollStop := some s.houseTime }).closeTake u := by
  have heq := s.writeEntry_eq slot fun p => { p with rollStop := some s.houseTime }
  obtain ⟨v, hv⟩ : ∃ v, v = s.writeEntry slot fun p => { p with rollStop := some s.houseTime } :=
    ⟨_, rfl⟩
  have hfall : s.runFall slot = v.closeTest u := by
    rw [hv]
    unfold State.runFall
    simp only [hd, Option.bind_some, hun]
    rw [if_pos (by simp [UnitRec.rolling, hroll])]
  rw [← hv] at heq ⊢
  rw [hfall, State.closeTest_closes (by rw [heq]; exact ho)]
  rw [State.assigned_congr (s := s) (by rw [heq])]
  intro x hx
  rw [← h x hx, heq]
  rfl

/-- Settles O22: a rise opens an IDLE unit's take, the fall of the last tally closes it. -/
theorem runTallyOpensAndCloses : Obligations.RunTallyOpensAndCloses := by
  constructor
  · intro n active s hn hno
    obtain ⟨v, hv⟩ : ∃ v, v = s.modLine n fun l => { l with run := active } := ⟨_, rfl⟩
    have hexec : exec (.runSenseChange n active) s = .next v.pump ∨
        (exec (.runSenseChange n active) s = .next s.pump ∧ (s.line n).run = active) := by
      by_cases hsame : (s.line n).run = active
      · refine .inr ⟨?_, hsame⟩
        show finish _ = _
        rw [if_pos (.inr hsame)]
        rfl
      · have h := exec_runSenseChange hn hsame
        rw [State.tallySlot_none hno] at h
        exact .inl (h.trans (by rw [hv]))
    rcases hexec with hexec | ⟨hexec, hsame⟩
    · obtain ⟨hr, hs⟩ := quiet_pump (s := s) (u := v) (.of_eq (by rw [hv]; rfl) (by rw [hv]; rfl))
        (.of_eq (by rw [hv]; rfl) (by rw [hv]; rfl) (by rw [hv]; rfl))
      exact ⟨_, hexec, by rw [State.inner_pump, hv], hr, hs⟩
    · refine ⟨_, hexec, ?_, noReply_pump s, silent_pump s⟩
      rw [State.inner_pump]
      rw [State.modLine_same (by rw [← hsame])]
  · intro n slot u d s hn hslot hu hb hd hk hatt hauto hun hscan
    have htally := State.tallySlot_some hb hd hk hauto
    constructor
    · intro hrun hidle
      obtain ⟨v, hv⟩ : ∃ v, v = s.modLine n fun l => { l with run := true } := ⟨_, rfl⟩
      have hexec := exec_runSenseChange (active := true) hn (by rw [hrun]; nofun)
      rw [htally, ← hv] at hexec
      have hvline : (v.line n).run = true := by rw [hv, State.line_modLine hn, if_pos rfl]
      obtain ⟨c, hc, hrolls, hlines, -⟩ := State.runRise_opened (s := v) (slot := slot) (d := d)
        (by rw [hv]; exact hscan) hu (by rw [hv]; exact hd) hun (by rw [hv]; exact hidle)
      obtain ⟨h1, h2, h3, h4⟩ := hrolls.rolling hc (by rw [hv]; exact hd) hun
      obtain ⟨w, hw⟩ : ∃ w, w = v.runRise slot := ⟨_, rfl⟩
      rw [← hw] at h1 h2 h3 h4 hlines
      refine ⟨_, hexec, ?_⟩
      simp only [if_true, ← hw]
      have hcur : w.pump.currentOf slot = w.currentOf slot := by
        rw [State.currentOf, State.currentOf, State.dev_congr w.pump_slots]
      rw [hcur, State.unit_congr w.pump_units, State.line_congr w.pump_lines, State.line_congr hlines]
      exact ⟨h1, h2, by rw [h3, hv]; rfl, h4, hvline⟩
    · intro ss ix hrun hcur ho hothers
      obtain ⟨v, hv⟩ : ∃ v, v = s.modLine n fun l => { l with run := false } := ⟨_, rfl⟩
      have hexec := exec_runSenseChange (active := false) hn (by rw [hrun]; nofun)
      rw [htally, ← hv] at hexec
      have hvline : (v.line n).run = false := by rw [hv, State.line_modLine hn, if_pos rfl]
      have hquiet : ∀ x ∈ v.assigned u, v.tallies x.2 = false := by
        rw [State.assigned_congr (s := s) (by rw [hv]; rfl)]
        rintro ⟨i, e⟩ hx
        by_cases hi : i = slot
        · obtain ⟨he, -⟩ := State.mem_assigned.1 hx
          obtain rfl : d = e := Option.some.inj (hd.symm.trans (hi ▸ he))
          simp [State.tallies, Device.lineNo, hatt, hvline]
        · obtain ⟨hne, hno⟩ := hothers (i, e) hx hi
          rw [← hno]
          have hl : (e.lineNo.map fun n => (v.line n).run) = e.lineNo.map fun n => (s.line n).run := by
            cases he : e.set.att with
            | radio a => simp [Device.lineNo, he]
            | line m =>
              have hmn : m ≠ n := fun h => hne (by rw [he, h])
              simp only [Device.lineNo, he, Option.map_some, Option.some.injEq]
              rw [hv, State.line_modLine_ne hmn]
          simp only [State.tallies, hl]
      have hfall := State.runFall_last (s := v) (slot := slot) (d := d) (by rw [hv]; exact hd) hun
        (by rw [hv]; exact fun h => by rw [show (s.unit u).current = .none from h] at hcur; cases hcur)
        (by rw [hv]; exact ho) hquiet
      obtain ⟨x, hx⟩ : ∃ x, x = v.writeEntry slot fun p => { p with rollStop := some v.houseTime } :=
        ⟨_, rfl⟩
      have heq : x = { v with takes := x.takes } := by rw [hx]; exact v.writeEntry_eq _ _
      rw [← hx] at hfall
      obtain ⟨h1, h2, h3⟩ := State.closeTake_stops (s := x) hu (by
        rw [heq, hv]
        exact fun h => by rw [show (s.unit u).current = .none from h] at hcur; cases hcur)
      rw [← hfall] at h1 h2 h3
      obtain ⟨w, hw⟩ : ∃ w, w = v.runFall slot := ⟨_, rfl⟩
      rw [← hw] at h1 h2 h3
      refine ⟨_, hexec, ?_⟩
      simp only [Bool.false_eq_true, if_false, ← hw]
      rw [State.unit_congr w.pump_units, State.line_congr w.pump_lines, State.line_congr h3]
      exact ⟨h1, h2, by rw [heq]; exact hvline⟩

end Sys2Proof.Machine
end

section
/-!
SUPPORT and THEOREM. DECLARE_DEVICE: O15.
-/

namespace Sys2Proof.Machine

/-! ### The settings declared (R42, R44) -/

section
variable {a : DeviceArgs} {k : Kind} {att : Attachment} {rate : Nat}

theorem suits_camera {att : Attachment} (h : suits .camera att = true) : att.wired = true := by
  cases att with
  | line n => rfl
  | radio n => cases h

/-- The settings of a declaration: what is carried, and the defaults. -/
theorem base_with (hatt : a.att = some att.codes) (hrate : a.rate = some rate)
    (hsuits : suits k att = true) (hauto : a.autoRoll = some true → k = .camera)
    {d : DeviceSettings} (hd : d = (DeviceSettings.base k att rate).with a) :
    d.kind = k ∧ d.att = att ∧ d.rate = rate ∧ d.unit = a.unit.bind orNone ∧
      d.origin = a.origin.getD 0 ∧ (d.autoRoll = true ↔ a.autoRoll = some true) ∧
      (k = .recorder → d.audio = a.audio.getD 1 ∧ d.pull = a.pull.getD 0) ∧
      (att.wired = true → d.phase = a.phase.getD 0) ∧
      (att.wired = false → d.tolerance = a.tolerance.getD 2 ∧ d.poll = a.poll.getD 10 ∧
        d.periodic = a.periodic.getD 0 ∧ d.quiet = a.quiet.getD false ∧
        d.profile = a.profile.bind orNone) := by
  have hatt' : (a.att.bind fun x => attachmentOf x.1 x.2).getD att = att := by
    rw [hatt, Option.bind_some, attachmentOf_codes]; rfl
  have hnone : ∀ o : Option Nat, (o.map orNone).getD none = o.bind orNone := by
    rintro (_ | n) <;> rfl
  rw [hd]
  simp only [DeviceSettings.with, DeviceSettings.base, hatt', hrate, Option.getD_some, hnone]
  refine ⟨trivial, trivial, trivial, trivial, trivial, ?_, fun hk => ?_, fun hw => ?_, fun hw => ?_⟩
  · constructor
    · split
      · intro h
        cases ha : a.autoRoll with
        | none => rw [ha] at h; cases h
        | some b => rw [ha] at h; exact congrArg some h
      · nofun
    · intro h
      have hk := hauto h
      rw [if_pos ⟨suits_camera (hk ▸ hsuits), hk⟩, h]
      rfl
  · simp [hk]
  · simp [hw]
  · simp [hw]

theorem declareCheck_ok {s : State} {slot : Nat} (hslot : slot < 32) (hd : s.dev slot = none)
    (hk : a.kind = some k.code) (hatt : a.att = some att.codes) (hrate : a.rate = some rate)
    (hok : settingsOk a rate = true) (hsuits : suits k att = true)
    (hauto : a.autoRoll = some true → k = .camera) (hheld : s.attachmentHeld slot att = false)
    (hfull : s.unitFull (a.unit.bind orNone) = false) :
    s.declareCheck slot a = .ok ((DeviceSettings.base k att rate).with a) := by
  obtain ⟨d, hds⟩ : ∃ d, d = (DeviceSettings.base k att rate).with a := ⟨_, rfl⟩
  obtain ⟨h1, h2, h3, h4, -, -, -⟩ := base_with hatt hrate hsuits hauto hds
  have hsettings : declaredSettings a = some d := by
    unfold declaredSettings
    rw [hk, hatt, hrate, Option.bind_some, Option.bind_some, kindOf_code, attachmentOf_codes, hds]
  have hroll : autoRollOk a d = true := by
    unfold autoRollOk
    by_cases h : a.autoRoll = some true
    · simp [h, h1, h2, hauto h, suits_camera (hauto h ▸ hsuits)]
    · simp [h]
  unfold State.declareCheck
  rw [if_neg (by omega), if_neg (by simp [hd])]
  simp only [hsettings]
  rw [if_neg (by simp [h1, h2, h3, hok, hsuits, hroll]), if_neg (by simp [h2, hheld]),
    if_neg (by simp [h4, hfull]), hds]

/-- A carried line number is below 16. -/
theorem settingsOk_line {n : Nat} (hatt : a.att = some (Attachment.line n).codes)
    (hok : settingsOk a rate = true) : n < 16 := by
  simp only [settingsOk, Bool.and_eq_true, hatt, Option.map_some, Option.getD_some, attachmentOf_codes,
    attachmentOk, decide_eq_true_eq] at hok
  omega

/-- A carried unit is below 4, or none. -/
theorem settingsOk_unit {u : Nat} (hunit : a.unit.bind orNone = some u)
    (hok : settingsOk a rate = true) : u < 4 := by
  obtain ⟨n, hn, hu⟩ := Option.bind_eq_some_iff.1 hunit
  simp only [settingsOk, Bool.and_eq_true, hn, carriedOk, Option.map_some, Option.getD_some,
    decide_eq_true_eq] at hok
  unfold orNone at hu
  split at hu
  · cases hu
  · cases hu
    omega

end

/-! ### The slot filled and announced (R45, R59) -/

section
variable (s : State) (slot : Nat) (d : DeviceSettings)

theorem State.bindLine_eq (att : Attachment) :
    s.bindLine att slot = { s with lines := (s.bindLine att slot).lines } := by
  cases att <;> rfl

theorem State.bindLine_at {n : Nat} (hn : n < 16) : (s.bindLine (.line n) slot).line n = { s.line n with
    bound := some slot, enabled := false, state := .disabled, out := none, edgeDue := none } := by
  unfold State.bindLine
  rw [State.line_modLine hn, if_pos rfl]
  rfl

theorem State.bindLine_other {att : Attachment} {n : Nat} (hn : att ≠ .line n) :
    (s.bindLine att slot).line n = s.line n := by
  cases att with
  | radio a => rfl
  | line m =>
    have hne : n ≠ m := fun h => hn (by rw [h])
    exact State.line_modLine_ne hne _

/-- A device declared, bound and announced. -/
def State.announce : State :=
  ((s.setDev slot (some (s.newDevice d))).bindLine d.att slot).noteDevice slot none
    (some (s.newDevice d).live.state) .host

theorem State.declare_eq : s.declare slot d = (s.announce slot d).handEdge slot false := rfl

/-- What a declaration leaves before its edge is handed on. -/
theorem State.announce_spec {s : State} {slot : Nat} {d : DeviceSettings} (hslot : slot < 32) :
    (s.announce slot d).dev slot = some (s.newDevice d) ∧
    (∀ i, i ≠ slot → (s.announce slot d).dev i = s.dev i) ∧
    (∀ n, n < 16 → d.att = .line n → (s.announce slot d).line n = { s.line n with
      bound := some slot, enabled := false, state := .disabled, out := none, edgeDue := none }) ∧
    (∀ n, d.att ≠ .line n → (s.announce slot d).line n = s.line n) ∧
    (s.announce slot d).inner = { s with
      slots := (s.announce slot d).slots, lines := (s.announce slot d).lines }.inner ∧
    NoReply s (s.announce slot d) ∧
    (s.announce slot d).notices.length ≤ s.notices.length + 1 ∧
    Raised s (s.announce slot d) 0x45 [fByte slot, fByte (Config.unlistedCode "EMPTY"),
      fByte (if d.att.wired then 0 else 1), fTick s.houseTime, fByte 0, fByte 0, fByte 0, fByte 0] := by
  obtain ⟨w, hw⟩ : ∃ w, w = (s.setDev slot (some (s.newDevice d))).bindLine d.att slot := ⟨_, rfl⟩
  have hwe : w = { s.setDev slot (some (s.newDevice d)) with lines := w.lines } := by
    rw [hw]; exact State.bindLine_eq _ _ _
  have hnote : s.announce slot d = w.notify 0x45 [fByte slot, fByte (Config.unlistedCode "EMPTY"),
      fByte (if d.att.wired then 0 else 1), fTick s.houseTime, fByte 0, fByte 0, fByte 0, fByte 0] := by
    have htime : w.houseTime = s.houseTime := by rw [hwe]; rfl
    have hstate : (s.newDevice d).live.state.code = if d.att.wired then 0 else 1 := by
      cases hd : d.att <;> simp [State.newDevice, Live.fresh, hd, Attachment.wired, DevState.code]
    rw [← htime, ← hstate, hw]
    rfl
  rw [hnote]
  refine ⟨?_, fun i hi => ?_, fun n hn ha => ?_, fun n ha => ?_, ?_, ?_, ?_, ?_⟩
  · rw [State.dev_congr (State.notify_slots _ _ _), hwe]
    exact (s.dev_setDev slot slot _).trans (if_pos ⟨rfl, hslot⟩)
  · rw [State.dev_congr (State.notify_slots _ _ _), hwe]
    exact s.dev_setDev_ne hi _
  · rw [State.line_congr (State.notify_lines _ _ _), hw, ha, State.bindLine_at _ _ hn]
    rfl
  · rw [State.line_congr (State.notify_lines _ _ _), hw, State.bindLine_other _ _ ha]
    rfl
  · rw [State.inner_notify, State.notify_slots, State.notify_lines]
    refine State.inner_ext ?_
    rw [hwe]
    simp
  · exact (NoReply.of_eq (by rw [hwe]; rfl) (by rw [hwe]; rfl)).trans (noReply_notify _ _ _)
  · have hn : w.notices = s.notices := by rw [hwe]; rfl
    rw [State.notify]
    split
    · simp [hn]
    · simp [hn]
  · exact (Mum.of_eq (by rw [hwe]; rfl) (by rw [hwe]; rfl) (by rw [hwe]; rfl)).raised
      (State.raised_notify _ _ _)

end

/-! ### The edge handed on (R50) -/

section
variable {s : State} {slot : Nat} {d : Device}

theorem State.tallyOf_eq (hd : s.dev slot = some d) : s.tallyOf slot = s.tallies d := by
  simp [State.tallyOf, hd]

theorem State.tallies_iff {d : Device} : s.tallies d = true ↔
    d.set.kind = .camera ∧ d.set.autoRoll = true ∧ ∃ n, d.set.att = .line n ∧ (s.line n).run = true := by
  unfold State.tallies Device.lineNo
  rw [Bool.and_eq_true, Bool.and_eq_true, decide_eq_true_eq, and_assoc, decide_eq_true_eq]
  cases d.set.att <;> simp

/-- A rise that opens no take and finds the camera in none changes nothing. -/
theorem State.runRise_nothing (hd : s.dev slot = some d) (hcur : d.live.current = .none)
    (h : s.store.scanned = false ∨ d.set.unit = none ∨
      ∃ u, d.set.unit = some u ∧ (s.unit u).current ≠ .none) : s.runRise slot = s := by
  unfold State.runRise
  rcases h with h | h | ⟨u, h, hroll⟩
  · rw [if_pos (by simp [h])]
  · split
    · rfl
    · simp [hd, h]
  · split
    · rfl
    · simp only [hd, Option.bind_some, h]
      rw [if_pos (by simp [UnitRec.rolling, hroll])]
      exact State.writeEntry_free (by simp [State.currentOf, hd, hcur]) _

theorem State.handEdge_quiet (b : Bool) (h : s.tallyOf slot = b) : s.handEdge slot b = s := by
  unfold State.handEdge
  rw [h]
  cases b <;> rfl

theorem State.handEdge_rise (h : s.tallyOf slot = true) : s.handEdge slot false = s.runRise slot := by
  unfold State.handEdge
  rw [h]

theorem State.handEdge_fall (h : s.tallyOf slot = false) : s.handEdge slot true = s.runFall slot := by
  unfold State.handEdge
  rw [h]

end

/-- What the opening of a take at a camera's rise leaves. -/
theorem State.runRise_record {s : State} {slot u : Nat} {d : Device} (hscan : s.store.scanned = true)
    (hu : u < 4) (hd : s.dev slot = some d) (hun : d.set.unit = some u)
    (hidle : (s.unit u).current = .none) :
    ∃ c kind, c ≠ .none ∧ UnitRolls s (s.runRise slot) u .rollSense c ∧
      (s.runRise slot).inner = { s with
        slots := (s.runRise slot).slots
        units := (s.runRise slot).units
        takes := (s.runRise slot).takes }.inner ∧
      NoReply s (s.runRise slot) ∧ (∃ body, Raised s (s.runRise slot) kind body) ∧
      ((∀ ss ix, c ≠ .logged ss ix) → kind = 0x4A) ∧ (∀ ss ix, c = .logged ss ix → kind = 0x47) ∧
      (∀ ss ix, c = .logged ss ix →
        (∀ x, some x ∈ s.takes.entries.toList → x.copy.session = s.store.session →
          x.copy.index ≤ s.takes.lastIndex) →
        ss = s.store.session ∧ ix = s.takes.lastIndex + 1 ∧
        ∃ x p, (s.runRise slot).findTake ss ix = some x ∧ x.copy.state = .opened ∧
          x.copy.opener = .rollSense ∧ x.copy.startTick = s.houseTime ∧
          p ∈ x.copy.participants ∧ p.slot = slot ∧ p.rollStart = some s.houseTime) := by
  obtain ⟨v, hv⟩ : ∃ v, v = s.openTake u .rollSense := ⟨_, rfl⟩
  obtain ⟨w, hw⟩ : ∃ w, w = s.runRise slot := ⟨_, rfl⟩
  have hrise : w = v.writeEntry slot fun p => { p with
      rollStart := some (p.rollStart.getD v.houseTime) } := by
    rw [hw, State.runRise_idle hscan hd hun hidle, hv]
    rfl
  have heq : w = { v with takes := w.takes } := by rw [hrise]; exact v.writeEntry_eq _ _
  have hcommon : ∀ c kind body, Opens s v u .rollSense c kind body →
      UnitRolls s w u .rollSense c ∧ w.inner = { s with
        slots := w.slots, units := w.units, takes := w.takes }.inner ∧
      NoReply s w ∧ Raised s w kind body := by
    intro c kind body h
    refine ⟨h.rolls.congr rfl rfl rfl (by rw [heq]) (by rw [heq]), ?_,
      h.noReply.trans (.of_eq (by rw [heq]) (by rw [heq])),
      h.raised.silent (Mum.of_eq (by rw [heq]) (by rw [heq]) (by rw [heq])).silent⟩
    have hf := State.inner_fields h.inner
    dsimp only at hf
    refine State.inner_ext ?_
    rw [heq]
    simp [hf]
  rw [← hw]
  rcases s.openTake_cases hu .rollSense with ⟨k, body, hplace, htakes, h⟩ | ⟨body, -, h⟩
  · rw [← hv] at htakes h
    obtain ⟨h1, h2, h3, h4⟩ := hcommon _ _ _ h
    refine ⟨.logged s.store.session (s.takes.lastIndex + 1), 0x47, nofun, h1, h2, h3, ⟨_, h4⟩, fun hno => absurd rfl (hno _ _), fun _ _ _ => rfl, ?_⟩
    rintro ss ix hc hle
    obtain ⟨rfl, rfl⟩ : s.store.session = ss ∧ s.takes.lastIndex + 1 = ix := by
      injection hc with a b; exact ⟨a, b⟩
    obtain ⟨e, he⟩ : ∃ e : Entry,
      e = ⟨s.newRecord u .rollSense (s.takes.lastIndex + 1), none, 0⟩ := ⟨_, rfl⟩
    obtain ⟨hk, -, -⟩ := TakeTable.place_some hplace
    have hfound : v.findTake s.store.session (s.takes.lastIndex + 1) = some e := by
      have := State.findTake_placed (s := s) (t := v) (e := e) hk (by rw [htakes, he])
        fun x hx hs => by
          have := hle x hx (by rw [hs, he]; rfl)
          rw [he]
          show x.copy.index < s.takes.lastIndex + 1
          omega
      rw [he] at this ⊢
      exact this
    have hopened : e.copy.state = .opened := by rw [he]; rfl
    have hcur : v.currentOf slot = .logged s.store.session (s.takes.lastIndex + 1) := by
      rw [State.currentOf, h.rolls.2.2.1 slot d hd, if_pos hun]
    have htime : v.houseTime = s.houseTime := by
      have hf := State.inner_fields h.inner
      exact State.houseTime_congr hf.2.1 hf.2.2.2.1
    refine ⟨rfl, rfl, { e with copy := e.copy.modEntry slot fun p => { p with
        rollStart := some (p.rollStart.getD v.houseTime) } },
      { s.participant s.houseTime slot d with rollStart := some s.houseTime },
      by rw [hrise]; exact State.writeEntry_found hcur hfound hopened _, hopened, by rw [he]; rfl,
      by rw [he]; rfl, ?_, rfl, rfl⟩
    have hmem : s.participant s.houseTime slot d ∈ e.copy.participants := by
      rw [he]
      exact List.mem_map.2 ⟨(slot, d), State.mem_assigned.2 ⟨hd, hun⟩, rfl⟩
    refine List.mem_map.2 ⟨_, hmem, ?_⟩
    have hslot : (s.participant s.houseTime slot d).slot = slot := rfl
    rw [if_pos hslot, htime]
    rfl
  · rw [← hv] at h
    obtain ⟨h1, h2, h3, h4⟩ := hcommon _ _ _ h
    exact ⟨.unlogged u, 0x4A, nofun, h1, h2, h3, ⟨_, h4⟩, fun _ => rfl, nofun, nofun⟩

/-! ### DECLARE_DEVICE (R44) -/

theorem exec_declareDevice {q : Req} {slot : Nat} {a : DeviceArgs} {d : DeviceSettings} {s : State}
    (h : Taken s q) (hp : q.port = .control) (happ : s.store.applied = true) (hslot : slot < 32)
    (hfits : a.fits = true) (hcomplete : a.complete = true) (hcheck : s.declareCheck slot a = .ok d) :
    exec (.declareDevice q slot a) s =
      .next (((s.enlist q 0x05).declare slot d).reply q.port 0x05 q.tag .ok).pump := by
  have hread : (s.enlist q 0x05).declareCheck slot a = .ok d :=
    (State.reads_enlist s q 0x05 none (fun s => s.declareCheck slot a) (fun _ _ => rfl)
      fun _ _ => rfl).trans hcheck
  refine (finish_taken h (Class.admits_control hp)
    (by simp [holds_byte (n := slot) (by omega), hfits, hcomplete])).trans ?_
  rw [if_neg (by simp [happ])]
  simp only [hread]

/-- Settles O15: the slot is filled, bound and announced; a rise is handed on only under an active run
sense, and opens the take of an IDLE unit. -/
theorem deviceDeclared : Obligations.DeviceDeclared := by
  intro q slot rate k att a s htaken hp happ hslot hfree hfits hk hatt hrate hok hsuits hauto hheld hfull
  obtain ⟨d, hd⟩ : ∃ d, d = (DeviceSettings.base k att rate).with a := ⟨_, rfl⟩
  obtain ⟨g1, g2, g3, g4, g5, g6, g7, g8, g9⟩ := base_with hatt hrate hsuits hauto hd
  have hcheck := declareCheck_ok hslot hfree hk hatt hrate hok hsuits hauto hheld hfull
  rw [← hd] at hcheck
  have hexec := exec_declareDevice htaken hp happ hslot hfits
    (by simp [DeviceArgs.complete, hk, hatt, hrate]) hcheck
  obtain ⟨s', hs'⟩ : ∃ s', s' = s.enlist q 0x05 := ⟨_, rfl⟩
  obtain ⟨v, hv⟩ : ∃ v, v = s'.announce slot d := ⟨_, rfl⟩
  rw [State.declare_eq, ← hs', ← hv] at hexec
  obtain ⟨h1, h2, h3, h4, h5, h6, h7, h8⟩ := State.announce_spec (s := s') (d := d) hslot
  rw [← hv] at h1 h2 h3 h4 h5 h6 h7 h8
  have hdev' : ∀ i, s'.dev i = s.dev i := fun i => by rw [hs', State.enlist_dev]
  have hline' : ∀ n, s'.line n = s.line n := fun n => by rw [hs', State.enlist_line]
  have htime' : s'.houseTime = s.houseTime := by rw [hs', State.enlist_houseTime]
  have hf := State.inner_fields h5
  dsimp only at hf
  have hnew : s'.newDevice d = ⟨d, .fresh att (s.profileCrc d.profile)⟩ := by
    rw [State.newDevice, g2, State.profileCrc, State.profileCrc]
    simp [hs']
  rw [hnew] at h1
  have hlive : ∀ c, { Live.fresh att (s.profileCrc d.profile) with current := c } =
      { state := if att.wired then .wired else .unjammed
        current := c, jam := none, rate := 0, tMeas := none, offset := none
        age := 0, predicted := 0
        crc := if att.wired then none else s.profileCrc (a.profile.bind orNone)
        missedRejams := 0, missedReplies := 0, rateLimited := false, held := false
        hasMeas := false, pollLeft := none, periodicLeft := none, anchorAge := none
        baseline := none, lastResidual := 0, lastClap := none } := by
    intro c
    cases hw : att.wired with
    | true => simp [Live.fresh, hw]
    | false => simp [Live.fresh, hw, (g9 hw).2.2.2.2]
  have hlines : ∀ t : State, t.lines = v.lines →
      (∀ n, att = .line n → t.line n = { s.line n with
        bound := some slot, enabled := false, state := .disabled, out := none, edgeDue := none }) ∧
      (∀ n, att ≠ .line n → t.line n = s.line n) := by
    intro t ht
    refine ⟨fun n hn => ?_, fun n hn => ?_⟩
    · rw [State.line_congr ht, h3 n (settingsOk_line (hn ▸ hatt) hok) (g2.trans hn), hline']
    · rw [State.line_congr ht, h4 n (by rw [g2]; exact hn), hline']
  have hrun : ∀ n, att = .line n → (v.line n).run = (s.line n).run := fun n hn => by
    rw [(hlines v rfl).1 n hn]
  by_cases hopen : ∃ n u, a.autoRoll = some true ∧ att = .line n ∧ (s.line n).run = true ∧
      s.store.scanned = true ∧ a.unit.bind orNone = some u ∧ (s.unit u).current = .none
  · obtain ⟨n, u, ho1, ho2, ho3, ho4, ho5, ho6⟩ := hopen
    have hu := settingsOk_unit ho5 hok
    have htally : v.tallyOf slot = true := by
      rw [State.tallyOf_eq h1, State.tallies_iff]
      exact ⟨g1.trans (hauto ho1), g6.2 ho1, n, g2.trans ho2, by rw [hrun n ho2]; exact ho3⟩
    have hvunit : ∀ x, v.unit x = s.unit x := fun x => by
      rw [State.unit_congr (s := s') (by simp [hf]), hs', State.enlist_unit]
    have hvstore : v.store = s.store := by simp [hf, hs']
    have hvtakes : v.takes = s.takes := by simp [hf, hs']
    have hvtime : v.houseTime = s.houseTime := by
      rw [← htime']; exact State.houseTime_congr (by simp [hf]) (by simp [hf])
    obtain ⟨c, kind, hc, hrolls, hinner, hnr, ⟨body, hraised⟩, hkind1, hkind2, hrec⟩ :=
      State.runRise_record (s := v) (slot := slot) (u := u) (by rw [hvstore]; exact ho4) hu h1
        (g4.trans ho5) (by rw [hvunit]; exact ho6)
    rw [State.handEdge_rise htally] at hexec
    obtain ⟨t, ht⟩ : ∃ t, t = v.runRise slot := ⟨_, rfl⟩
    rw [← ht] at hexec hrolls hinner hnr hraised hrec
    simp only [hvstore, hvtakes, hvtime] at hrec
    have htf := State.inner_fields hinner
    dsimp only at htf
    have hsent := sent_reply (k := 0x05) (s := s) (q := q) (v := t) (hs' ▸ h6.trans hnr) .ok []
    obtain ⟨hl1, hl2⟩ := hlines (t.reply q.port 0x05 q.tag .ok).pump (by simp [htf])
    have htdev : t.dev slot = some ⟨d, { Live.fresh att (s.profileCrc d.profile) with current := c }⟩ := by
      rw [hrolls.2.2.1 slot _ h1, if_pos (g4.trans ho5)]
    refine ⟨_, ⟨d, { Live.fresh att (s.profileCrc d.profile) with current := c }⟩, hexec,
      by rw [State.sent_dev, htdev], g1, g2, g3, g4, g5, g6, g7, g8, g9, hlive c, hl1, hl2,
      hsent.answered, fun hno => ?_, fun n' u' _ _ _ _ hu' _ => ?_⟩
    · rcases hno ho1 n ho2 with h | h | h | ⟨x, hx, hxc⟩
      · rw [ho3] at h; cases h
      · rw [ho4] at h; cases h
      · rw [ho5] at h; cases h
      · rw [ho5] at hx; cases hx; exact absurd ho6 hxc
    · obtain rfl : u = u' := Option.some.inj (ho5.symm.trans hu')
      refine ⟨?_, hc, fun x hx => ?_, ?_, fun ss ix hcl hle => ?_, fun hlen => ?_⟩
      · rw [State.sent_unit, hrolls.1, hvunit, hvtime]
      · rw [State.sent_unit, hrolls.2.1 x hx, hvunit]
      · rw [hsent.inner, hinner]
        exact State.inner_ext (by simp [hf, htf, hs'])
      · obtain ⟨r1, r2, x, p, r3, r4⟩ := hrec ss ix hcl hle
        exact ⟨r1, r2, x, p, by
          rw [State.findTake_congr (s := t) (by simp)]; exact r3, r4⟩
      · have hn' : s'.notices = s.notices := by rw [hs']; exact s.enlist_notices q 0x05 none
        obtain ⟨m1, m2, hm, hk1, hk2⟩ := h8.twice hraised (by rw [hn'] at h7; omega) (by rw [hn']; omega)
        refine ⟨m1, m2, ?_, hk1, fun hno => hk2.trans (hkind1 hno),
          fun ss ix hcl => hk2.trans (hkind2 ss ix hcl)⟩
        rw [State.announced_pump, State.announced_reply, hm, hs', State.announced_enlist]
  · have hquiet : v.handEdge slot false = v := by
      cases htally : v.tallyOf slot with
      | false => exact State.handEdge_quiet false htally
      | true =>
        rw [State.handEdge_rise htally]
        rw [State.tallyOf_eq h1, State.tallies_iff] at htally
        obtain ⟨-, t2, n, t3, t4⟩ := htally
        have hn := g2.symm.trans t3
        rw [hrun n hn] at t4
        refine State.runRise_nothing h1 (by rfl) ?_
        have hvstore : v.store = s.store := by simp [hf, hs']
        by_cases hscan : s.store.scanned = true
        · cases hun : a.unit.bind orNone with
          | none => exact .inr (.inl (g4.trans hun))
          | some u =>
            refine .inr (.inr ⟨u, g4.trans hun, fun hidle => ?_⟩)
            rw [State.unit_congr (s := s') (by simp [hf]), hs', State.enlist_unit] at hidle
            exact hopen ⟨n, u, g6.1 t2, hn, t4, hscan, hun, hidle⟩
        · exact .inl (by rw [hvstore]; simpa using hscan)
    rw [hquiet] at hexec
    have hsent := sent_reply (k := 0x05) (s := s) (q := q) (v := v) (hs' ▸ h6) .ok []
    obtain ⟨hl1, hl2⟩ := hlines (v.reply q.port 0x05 q.tag .ok).pump (by simp)
    refine ⟨_, ⟨d, .fresh att (s.profileCrc d.profile)⟩, hexec, by rw [State.sent_dev, h1], g1, g2, g3,
      g4, g5, g6, g7, g8, g9, hlive _, hl1, hl2, hsent.answered,
      fun _ => ⟨rfl, fun i hi => by rw [State.sent_dev, h2 i hi, hdev'], ?_, ?_⟩,
      fun n u o1 o2 o3 o4 o5 o6 => absurd ⟨n, u, o1, o2, o3, o4, o5, o6⟩ hopen⟩
    · rw [hsent.inner, h5]
      exact State.inner_ext (by simp [hs'])
    · rw [htime', g2] at h8
      exact hsent.raised _ _ (hs' ▸ h8)

end Sys2Proof.Machine
end

section
/-!
SUPPORT and THEOREM. SET_DEVICE: O16.
-/

namespace Sys2Proof.Machine

/-! ### Fields that fit their forms -/

theorem dayOf_le (code : Nat) : dayOf code ≤ 10368000 := by
  have table : ∀ c ≤ 17, dayOf c ≤ 10368000 := by decide
  by_cases h : code ≤ 17
  · exact table code h
  · simp [dayOf, rateOf, rateCodeOk, h]

theorem holds_long {n : Nat} (h : n < 4294967296) : holds 4 n = true := decide_eq_true h

theorem holdsOpt_byte {o : Option Nat} (h : ∀ n, o = some n → n < 256) : holdsOpt 1 o = true := by
  cases o with
  | none => rfl
  | some n => exact holds_byte (h n rfl)

theorem holdsOpt_long {o : Option Nat} (h : ∀ n, o = some n → n < 4294967296) :
    holdsOpt 4 o = true := by
  cases o with
  | none => rfl
  | some n => exact holds_long (h n rfl)

theorem holdsOpt_none (w : Nat) : holdsOpt w none = true := rfl

theorem carriedOk_none (p : Nat → Bool) : carriedOk none p = true := rfl

theorem carriedOk_of {o : Option Nat} {p : Nat → Bool} (h : ∀ n, o = some n → p n = true) :
    carriedOk o p = true := by
  cases o with
  | none => rfl
  | some n => exact h n rfl

/-! ### An accepted SET_DEVICE (R46) -/

theorem exec_setDevice_ok {q : Req} {slot : Nat} {a : DeviceArgs} {x : Device} {d : DeviceSettings}
    {s : State} (h : Taken s q) (hp : q.port = .control) (happ : s.store.applied = true)
    (hd : s.dev slot = some x) (hfits : a.fits = true) (hk : a.kind = none) (hw : x.set.with a = d)
    (hok : settingsOk a d.rate = true) (hsuits : suits d.kind d.att = true)
    (hauto : autoRollOk a d = true) (hplaced : d.placed = true)
    (hatt : x.set.att ≠ d.att → s.attachmentHeld slot d.att = false)
    (hunit : x.set.unit ≠ d.unit → s.unitFull d.unit = false)
    (hfree : x.live.current = .none ∨ x.set.disturbs d = false) : exec (.setDevice q slot a) s =
      .next (((s.enlist q 0x06).change slot x d).reply q.port 0x06 q.tag .ok).pump := by
  have hcheck := State.setCheck_of hd hw hok hsuits hauto hplaced hatt hunit
  rw [if_neg (by rcases hfree with h | h <;> simp [h])] at hcheck
  exact (exec_setDevice h hp happ (s.dev_lt hd) hfits hk).2 _ _ hcheck

section
variable {s : State} {slot : Nat} {x : Device} {d : DeviceSettings}

/-- A change that keeps attachment and unit and unjams nothing: new settings, and the edge. -/
theorem State.change_resettled (hatt : x.set.att = d.att) (hunit : x.set.unit = d.unit)
    (hr : x.isRadio = true → x.set.rate = d.rate ∧ x.set.origin = d.origin) : s.change slot x d =
      (s.resettle slot x d).handEdge slot (s.tallyOf slot) := by
  unfold State.change
  dsimp only
  rw [if_neg (by simp [hunit]), if_neg (by simp [hatt]),
    if_neg (by rintro ⟨h1, h2⟩; simp [hr h1] at h2)]

/-- Settings that keep rate code, φ and label origin leave the line alone. -/
theorem State.resettle_plain (hrate : x.set.rate = d.rate) (hphase : x.set.phase = d.phase)
    (horigin : x.set.origin = d.origin) :
    s.resettle slot x d = s.setDev slot (some ⟨d, x.live⟩) := by
  unfold State.resettle
  dsimp only
  split
  · rw [if_neg (by simp [hrate, hphase, horigin])]
  · rfl

/-- Settings that change one of them place the next edge anew. -/
theorem State.resettle_moved {n : Nat} (hatt : d.att = .line n)
    (h : x.set.rate ≠ d.rate ∨ x.set.phase ≠ d.phase ∨ x.set.origin ≠ d.origin) :
    s.resettle slot x d = (s.setDev slot (some ⟨d, x.live⟩)).modLine n fun l =>
      { l with edgeDue := none } := by
  unfold State.resettle
  simp only [hatt]
  rw [if_pos h]

theorem State.tallyOf_set {t : State} (hd : t.dev slot = some x) (hl : ∀ n, (t.line n).run = (s.line n).run) :
    t.tallyOf slot = s.tallies x := by
  rw [State.tallyOf_eq hd]
  unfold State.tallies
  simp only [hl]

theorem Mum.setDev (s : State) (slot : Nat) (o : Option Device) : Mum s (s.setDev slot o) :=
  .of_eq rfl rfl rfl

theorem State.noteIfChanged_inner (s : State) (slot : Nat) (old new : DevState) :
    (s.noteIfChanged slot old new).inner = s.inner := by
  unfold State.noteIfChanged
  split
  · rfl
  · exact State.inner_notify _ _ _

theorem State.noteIfChanged_spec (s : State) (slot : Nat) (old new : DevState) :
    NoReply s (s.noteIfChanged slot old new) ∧ (old = new → Mum s (s.noteIfChanged slot old new)) ∧
      (old ≠ new → Raised s (s.noteIfChanged slot old new) 0x45 [fByte slot, fByte old.code,
        fByte new.code, fTick s.houseTime, fByte 0, fByte 0, fByte 0, fByte 0]) := by
  unfold State.noteIfChanged
  refine ⟨?_, fun h => ?_, fun h => ?_⟩
  · split
    · exact NoReply.refl s
    · exact noReply_notify _ _ _
  · rw [if_pos h]
    exact Mum.refl s
  · rw [if_neg h]
    exact State.raised_notify _ _ _

end

/-! ### A new rate code or label origin of a radio device (R48) -/

theorem State.tallies_radio {s : State} {d : Device} (h : d.isRadio = true) : s.tallies d = false := by
  obtain ⟨a, ha⟩ := Device.isRadio_iff.1 h
  simp [State.tallies, Device.lineNo, ha]

theorem setDevice_rerated {q : Req} {slot : Nat} {d : Device} {s : State} (htaken : Taken s q)
    (hp : q.port = .control) (happ : s.store.applied = true) (hd : s.dev slot = some d)
    (hsuits : suits d.set.kind d.set.att = true) (hphase : d.isRadio = true → d.set.phase = 0)
    {r o : Option Nat} {rate org : Nat} (hr : d.isRadio = true) (hcur : d.live.current = .none)
    (hrate : rate = r.getD d.set.rate) (horg : org = o.getD d.set.origin) (h1 : 1 ≤ rate)
    (h17 : rate ≤ 17) (hday : org < dayOf rate) (hne : rate ≠ d.set.rate ∨ org ≠ d.set.origin) :
    ∃ t, exec (.setDevice q slot { rate := r, origin := o }) s = .next t ∧
      t.dev slot = some ⟨{ d.set with rate := rate, origin := org }, { d.live with
        state := .unjammed, jam := none, tMeas := none, offset := none, predicted := 0
        missedRejams := 0, missedReplies := 0, held := false, pollLeft := none }⟩ ∧
      Dropped s.radio t.radio slot ∧ (∀ i, i ≠ slot → t.dev i = s.dev i) ∧
      t.inner = { s with slots := t.slots, radio := t.radio }.inner ∧
      Answered s t q 0x06 .ok [] ∧ (d.live.state = .unjammed → Silent s t) ∧
      (d.live.state ≠ .unjammed → Raised s t 0x45 [fByte slot, fByte d.live.state.code, fByte 1,
        fTick s.houseTime, fByte 0, fByte 0, fByte 0, fByte 0]) := by
  obtain ⟨addr, haddr⟩ := Device.isRadio_iff.1 hr
  obtain ⟨new, hnew⟩ : ∃ new, new = { d.set with rate := rate, origin := org } := ⟨_, rfl⟩
  have hw : d.set.with { rate := r, origin := o } = new := by
    rw [hnew, DeviceSettings.with]
    simp [haddr, Attachment.wired, hrate, horg, hphase hr]
  have hdayl := dayOf_le rate
  have hexec := exec_setDevice_ok (a := { rate := r, origin := o }) (d := new) htaken hp happ hd
    (by
      have b1 : holdsOpt 1 r = true := holdsOpt_byte fun n hn => by rw [hn] at hrate; simp at hrate; omega
      have b2 : holdsOpt 4 o = true := holdsOpt_long fun n hn => by rw [hn] at horg; simp at horg; omega
      simp [DeviceArgs.fits, holdsOpt_none, b1, b2]) rfl hw
    (by
      have b1 : rateCodeOk new.rate = true := by rw [hnew]; exact decide_eq_true ⟨h1, h17⟩
      have b2 : carriedOk o (fun n => decide (n < dayOf new.rate)) = true :=
        carriedOk_of fun n hn => by rw [hn] at horg; simp at horg; rw [hnew]; simp; omega
      simp [settingsOk, b1, b2, carriedOk_none])
    (by rw [hnew]; exact hsuits) rfl
    (by
      have b1 : new.phase < periodOf new.rate := by
        rw [hnew]; show d.set.phase < _; rw [hphase hr]; exact periodOf_pos _
      have b2 : new.origin < dayOf new.rate := by rw [hnew]; exact hday
      simp [DeviceSettings.placed, b1, b2])
    (fun h => absurd (by rw [hnew]) h) (fun h => absurd (by rw [hnew]) h) (.inl hcur)
  obtain ⟨s', hs'⟩ : ∃ s', s' = s.enlist q 0x06 := ⟨_, rfl⟩
  obtain ⟨w, hwv⟩ : ∃ w, w = (s'.setDev slot (some ⟨new, d.live.unjam⟩)).dropRadio slot := ⟨_, rfl⟩
  obtain ⟨v, hv⟩ : ∃ v, v = w.noteIfChanged slot d.live.state .unjammed := ⟨_, rfl⟩
  have hvi : v.inner = w.inner := by rw [hv]; exact State.noteIfChanged_inner _ _ _ _
  have hvf := State.inner_fields hvi
  have hdev' : ∀ i, s'.dev i = s.dev i := fun i => by rw [hs', State.enlist_dev]
  have hslot := s.dev_lt hd
  have hvdev : v.dev slot = some ⟨new, d.live.unjam⟩ := by
    rw [State.dev_congr hvf.2.2.2.2.2.1, hwv]
    exact (s'.dev_setDev slot slot _).trans (if_pos ⟨rfl, hslot⟩)
  have hnewr : ∀ l, Device.isRadio ⟨new, l⟩ = true := fun l =>
    Device.isRadio_iff.2 ⟨addr, by rw [hnew]; exact haddr⟩
  have hchange : s'.change slot d new = v := by
    have hbefore : s'.tallyOf slot = false := by
      rw [State.tallyOf_eq (by rw [hdev', hd]), State.tallies_radio hr]
    unfold State.change
    dsimp only
    rw [if_neg (by rw [hnew]; simp), if_neg (by rw [hnew]; simp),
      if_pos ⟨hr, by rw [hnew]; exact hne.imp Ne.symm Ne.symm⟩, hbefore]
    have : s'.rerateRadio slot d new = v := by rw [hv, hwv]; rfl
    rw [this]
    exact State.handEdge_quiet false (by rw [State.tallyOf_eq hvdev, State.tallies_radio (hnewr _)])
  rw [← hs', hchange] at hexec
  have hwm : Mum s' w := .of_eq (by rw [hwv]; simp) (by rw [hwv]; simp) (by rw [hwv]; simp)
  have hwn : NoReply s' w := .of_eq (by rw [hwv]; simp) (by rw [hwv]; simp)
  obtain ⟨hn1, hn2, hn3⟩ := w.noteIfChanged_spec slot d.live.state .unjammed
  rw [← hv] at hn1 hn2 hn3
  have hsent := sent_reply (s := s) (q := q) (k := 0x06) (v := v) (hs' ▸ hwn.trans hn1) .ok []
  have htime : w.houseTime = s.houseTime := by
    rw [hwv]; exact (State.houseTime_congr (by simp) (by simp)).trans (hs' ▸ s.enlist_houseTime q 0x06 none)
  refine ⟨_, hexec, by rw [State.sent_dev, hvdev, hnew]; rfl, ?_, fun i hi => ?_, ?_, hsent.answered,
    fun h => hsent.silent (hs' ▸ hwm.trans (hn2 h)), fun h => ?_⟩
  · rw [State.pump_radio, State.reply_radio, State.radio_of_inner hvi, hwv, ← s.enlist_radio q 0x06 none,
      ← hs']
    exact Radio.dropSlot_dropped _ _
  · rw [State.sent_dev, State.dev_congr hvf.2.2.2.2.2.1, hwv, ← hdev' i]
    exact s'.dev_setDev_ne hi _
  · rw [hsent.inner, hvi]
    refine State.inner_ext ?_
    simp only [State.pump_slots, State.reply_slots, State.pump_radio, State.reply_radio, hvf]
    rw [hwv, hs']
    simp
  · have := hn3 h
    rw [htime] at this
    exact hsent.raised _ _ (hs' ▸ hwm.raised this)

/-! ### New settings of a wired device (R48, R49) -/

theorem setDevice_wired {q : Req} {slot : Nat} {d : Device} {s : State} (htaken : Taken s q)
    (hp : q.port = .control) (happ : s.store.applied = true) (hd : s.dev slot = some d)
    (hsuits : suits d.set.kind d.set.att = true)
    {n : Nat} {r o f au pu : Option Nat} {new : DeviceSettings} (hatt : d.set.att = .line n)
    (hn : n < 16) (hcur : d.live.current = .none) (hnew : new = { d.set with
        rate := r.getD d.set.rate
        origin := o.getD d.set.origin
        phase := f.getD d.set.phase
        audio := if d.set.kind = .recorder then au.getD d.set.audio else d.set.audio
        pull := if d.set.kind = .recorder then pu.getD d.set.pull else d.set.pull })
    (h1 : 1 ≤ new.rate) (h17 : new.rate ≤ 17) (hday : new.origin < dayOf new.rate)
    (hper : new.phase < periodOf new.rate) (hau : ∀ x, au = some x → x ≤ 4)
    (hpu : ∀ x, pu = some x → x ≤ 2) :
    ∃ t, exec (.setDevice q slot
        { rate := r, origin := o, phase := f, audio := au, pull := pu }) s = .next t ∧
      t.inner = ({ s with lines := t.lines }.setDev slot (some ⟨new, d.live⟩)).inner ∧
      (∀ k, k ≠ n → t.line k = s.line k) ∧
      (new.rate = d.set.rate → new.origin = d.set.origin → new.phase = d.set.phase →
        t.line n = s.line n) ∧
      ((new.rate ≠ d.set.rate ∨ new.origin ≠ d.set.origin ∨ new.phase ≠ d.set.phase) →
        t.line n = { s.line n with edgeDue := none }) ∧
      Answered s t q 0x06 .ok [] ∧ Silent s t := by
  obtain ⟨a, ha⟩ : ∃ a : DeviceArgs, a = { rate := r, origin := o, phase := f, audio := au, pull := pu } :=
    ⟨_, rfl⟩
  have hw : d.set.with a = new := by
    rw [hnew, ha, DeviceSettings.with]
    simp [hatt, Attachment.wired]
  have horigin : new.origin = o.getD d.set.origin := by rw [hnew]
  have hphase : new.phase = f.getD d.set.phase := by rw [hnew]
  have hrate : new.rate = r.getD d.set.rate := by rw [hnew]
  have hkind : new.kind = d.set.kind := by rw [hnew]
  have hatt' : new.att = d.set.att := by rw [hnew]
  have hdayl := dayOf_le new.rate
  have hperl := (periodOf_bounds new.rate).2
  have hexec := exec_setDevice_ok (a := a) (d := new) htaken hp happ hd
    (by
      have b1 : holdsOpt 1 r = true := holdsOpt_byte fun n hn => by rw [hn] at hrate; simp at hrate; omega
      have b2 : holdsOpt 4 o = true := holdsOpt_long fun n hn => by rw [hn] at horigin; simp at horigin; omega
      have b3 : holdsOpt 4 f = true := holdsOpt_long fun n hn => by rw [hn] at hphase; simp at hphase; omega
      have b4 : holdsOpt 1 au = true := holdsOpt_byte fun n hn => by have := hau n hn; omega
      have b5 : holdsOpt 1 pu = true := holdsOpt_byte fun n hn => by have := hpu n hn; omega
      rw [ha]
      simp [DeviceArgs.fits, holdsOpt_none, b1, b2, b3, b4, b5]) (by rw [ha]) hw
    (by
      have b1 : rateCodeOk new.rate = true := decide_eq_true ⟨h1, h17⟩
      have b2 : carriedOk o (fun n => decide (n < dayOf new.rate)) = true :=
        carriedOk_of fun n hn => by rw [hn] at horigin; simp at horigin; simp; omega
      have b3 : carriedOk f (fun n => decide (n < periodOf new.rate)) = true :=
        carriedOk_of fun n hn => by rw [hn] at hphase; simp at hphase; simp; omega
      have b4 : carriedOk au (fun n => decide (n ≤ 4)) = true :=
        carriedOk_of fun n hn => decide_eq_true (hau n hn)
      have b5 : carriedOk pu (fun n => decide (n ≤ 2)) = true :=
        carriedOk_of fun n hn => decide_eq_true (hpu n hn)
      rw [ha]
      simp [settingsOk, b1, b2, b3, b4, b5, carriedOk_none])
    (by rw [hkind, hatt']; exact hsuits) (by rw [ha]; rfl) (by simp [DeviceSettings.placed, hday, hper])
    (fun h => absurd hatt'.symm h) (fun h => absurd (by rw [hnew]) h) (.inl hcur)
  obtain ⟨s', hs'⟩ : ∃ s', s' = s.enlist q 0x06 := ⟨_, rfl⟩
  have hd' : s'.dev slot = some d := by rw [hs', State.enlist_dev, hd]
  have hline' : ∀ k, s'.line k = s.line k := fun k => by rw [hs', State.enlist_line]
  obtain ⟨v, hv⟩ : ∃ v, v = s'.resettle slot d new := ⟨_, rfl⟩
  have hvl : v = { s'.setDev slot (some ⟨new, d.live⟩) with lines := v.lines } := by
    by_cases hsame : d.set.rate = new.rate ∧ d.set.phase = new.phase ∧ d.set.origin = new.origin
    · rw [hv, State.resettle_plain hsame.1 hsame.2.1 hsame.2.2]
    · rw [hv, State.resettle_moved (hatt'.trans hatt) (by simpa only [← not_and_or] using hsame)]
      rfl
  have hmoved : ∀ k, v.line k = if k = n ∧ (d.set.rate ≠ new.rate ∨ d.set.phase ≠ new.phase ∨
      d.set.origin ≠ new.origin) then { s.line k with edgeDue := none } else s.line k := by
    intro k
    by_cases hsame : d.set.rate = new.rate ∧ d.set.phase = new.phase ∧ d.set.origin = new.origin
    · rw [hv, State.resettle_plain hsame.1 hsame.2.1 hsame.2.2, if_neg (by simp [hsame])]
      exact hline' k
    · have hne : d.set.rate ≠ new.rate ∨ d.set.phase ≠ new.phase ∨ d.set.origin ≠ new.origin := by
        simpa only [← not_and_or] using hsame
      rw [hv, State.resettle_moved (hatt'.trans hatt) hne, State.line_modLine hn]
      by_cases hk : k = n
      · rw [if_pos hk, if_pos ⟨hk, hne⟩, hk, ← hline' n]
        rfl
      · rw [if_neg hk, if_neg fun h => hk h.1, ← hline' k]
        rfl
  have hvdev : v.dev slot = some ⟨new, d.live⟩ := by
    rw [hvl]
    exact (s'.dev_setDev slot slot _).trans (if_pos ⟨rfl, s.dev_lt hd⟩)
  have hchange : s'.change slot d new = v := by
    have hradio : d.isRadio = false := Device.isRadio_false.2 ⟨n, hatt⟩
    rw [State.change_resettled hatt'.symm (by rw [hnew]) (by rw [hradio]; nofun), ← hv]
    refine State.handEdge_quiet _ ?_
    rw [State.tallyOf_eq hd', State.tallyOf_set (s := s') hvdev fun k => by
      rw [hmoved, hline']; split <;> rfl]
    have hauto : new.autoRoll = d.set.autoRoll := by rw [hnew]
    simp [State.tallies, Device.lineNo, hkind, hatt', hauto]
  rw [← hs', hchange] at hexec
  have hsent := sent_reply (s := s) (q := q) (k := 0x06) (v := v)
    (hs' ▸ .of_eq (by rw [hvl]; rfl) (by rw [hvl]; rfl)) .ok []
  rw [ha] at hexec
  refine ⟨_, hexec, ?_, fun k hk => ?_, fun e1 e2 e3 => ?_, fun hne => ?_, hsent.answered,
    hsent.silent (hs' ▸ .of_eq (by rw [hvl]; rfl) (by rw [hvl]; rfl) (by rw [hvl]; rfl))⟩
  · rw [hsent.inner, State.pump_lines, State.reply_lines, hvl, hs']
    exact State.inner_ext (by simp [State.setDev])
  · rw [State.sent_line, hmoved, if_neg fun h => hk h.1]
  · rw [State.sent_line, hmoved, if_neg (by simp [e1, e2, e3])]
  · rw [State.sent_line, hmoved, if_pos ⟨rfl, by
      rcases hne with h | h | h
      · exact .inl (Ne.symm h)
      · exact .inr (.inr (Ne.symm h))
      · exact .inr (.inl (Ne.symm h))⟩]

/-! ### Settings alone (R46, R50) -/

/-- A change of settings that leaves line, attachment, unit and tally alone. -/
theorem setDevice_plain {q : Req} {slot : Nat} {a : DeviceArgs} {d : Device} {new : DeviceSettings}
    {s : State} (hd : s.dev slot = some d)
    (hexec : exec (.setDevice q slot a) s =
      .next (((s.enlist q 0x06).change slot d new).reply q.port 0x06 q.tag .ok).pump)
    (hkeep : new.att = d.set.att ∧ new.unit = d.set.unit ∧ new.rate = d.set.rate ∧
      new.phase = d.set.phase ∧ new.origin = d.set.origin)
    (htally : s.tallies ⟨new, d.live⟩ = s.tallies d) :
    ∃ t, exec (.setDevice q slot a) s = .next t ∧
      t.inner = (s.setDev slot (some ⟨new, d.live⟩)).inner ∧ Answered s t q 0x06 .ok [] ∧
      Silent s t := by
  obtain ⟨h1, h2, h3, h4, h5⟩ := hkeep
  obtain ⟨s', hs'⟩ : ∃ s', s' = s.enlist q 0x06 := ⟨_, rfl⟩
  obtain ⟨v, hv⟩ : ∃ v, v = s'.setDev slot (some ⟨new, d.live⟩) := ⟨_, rfl⟩
  have hchange : s'.change slot d new = v := by
    rw [State.change_resettled h1.symm h2.symm fun _ => ⟨h3.symm, h5.symm⟩,
      State.resettle_plain h3.symm h4.symm h5.symm, ← hv]
    refine State.handEdge_quiet _ ?_
    rw [State.tallyOf_set (s := s) (x := ⟨new, d.live⟩) (by
        rw [hv]; exact (s'.dev_setDev slot slot _).trans (if_pos ⟨rfl, s.dev_lt hd⟩)) (fun k => by
        rw [hv, hs']; exact congrArg Line.run (s.enlist_line q 0x06 none k)),
      State.tallyOf_set (s := s) (x := d) (by rw [hs', State.enlist_dev, hd]) fun k => by
        rw [hs', State.enlist_line], htally]
  rw [← hs', hchange] at hexec
  have hsent := sent_reply (s := s) (q := q) (k := 0x06) (v := v)
    (hs' ▸ .of_eq (by rw [hv]; rfl) (by rw [hv]; rfl)) .ok []
  refine ⟨_, hexec, ?_, hsent.answered, hsent.silent (hs' ▸ hv ▸ Mum.setDev _ _ _)⟩
  rw [hsent.inner, hv, hs']
  exact State.inner_ext (by simp [State.setDev])

/-- The tracking settings of a radio device. -/
theorem setDevice_radio {q : Req} {slot : Nat} {d : Device} {s : State} (htaken : Taken s q)
    (hp : q.port = .control) (happ : s.store.applied = true) (hd : s.dev slot = some d)
    (hsuits : suits d.set.kind d.set.att = true) (hphase : d.isRadio = true → d.set.phase = 0)
    {tol pl pe pr : Option Nat} {qu : Option Bool} (hr : d.isRadio = true)
    (hplaced : d.set.placed = true) (hrate : rateCodeOk d.set.rate = true)
    (htol : ∀ x, tol = some x → 1 ≤ x ∧ x ≤ 8) (hpl : ∀ x, pl = some x → 1 ≤ x ∧ x ≤ 60)
    (hpe : ∀ x, pe = some x → x ≤ 63) (hpr : ∀ x, pr = some x → x ≤ 7 ∨ x = 255) :
    ∃ t, exec (.setDevice q slot
        { tolerance := tol, poll := pl, periodic := pe, quiet := qu, profile := pr }) s = .next t ∧
      t.inner = (s.setDev slot (some ⟨{ d.set with
        tolerance := tol.getD d.set.tolerance
        poll := pl.getD d.set.poll
        periodic := pe.getD d.set.periodic
        quiet := qu.getD d.set.quiet
        profile := (pr.map orNone).getD d.set.profile }, d.live⟩)).inner ∧
      Answered s t q 0x06 .ok [] ∧ Silent s t := by
  obtain ⟨addr, haddr⟩ := Device.isRadio_iff.1 hr
  obtain ⟨new, hnew⟩ : ∃ new, new = { d.set with
      tolerance := tol.getD d.set.tolerance
      poll := pl.getD d.set.poll
      periodic := pe.getD d.set.periodic
      quiet := qu.getD d.set.quiet
      profile := (pr.map orNone).getD d.set.profile } := ⟨_, rfl⟩
  obtain ⟨a, ha⟩ : ∃ a : DeviceArgs,
      a = { tolerance := tol, poll := pl, periodic := pe, quiet := qu, profile := pr } := ⟨_, rfl⟩
  have hw : d.set.with a = new := by
    rw [hnew, ha, DeviceSettings.with]
    simp [haddr, Attachment.wired, hphase hr]
  have hexec := exec_setDevice_ok (a := a) (d := new) htaken hp happ hd
    (by
      have b1 : holdsOpt 1 tol = true := holdsOpt_byte fun n hn => by have := htol n hn; omega
      have b2 : holdsOpt 4 pl = true := holdsOpt_long fun n hn => by have := hpl n hn; omega
      have b3 : holdsOpt 1 pe = true := holdsOpt_byte fun n hn => by have := hpe n hn; omega
      have b4 : holdsOpt 1 pr = true := holdsOpt_byte fun n hn => by have := hpr n hn; omega
      rw [ha]
      simp [DeviceArgs.fits, holdsOpt_none, b1, b2, b3, b4]) (by rw [ha]) hw
    (by
      have b0 : rateCodeOk new.rate = true := by rw [hnew]; exact hrate
      have b1 : carriedOk tol (fun n => decide (1 ≤ n ∧ n ≤ 8)) = true :=
        carriedOk_of fun n hn => decide_eq_true (htol n hn)
      have b2 : carriedOk pl (fun n => decide (1 ≤ n ∧ n ≤ 60)) = true :=
        carriedOk_of fun n hn => decide_eq_true (hpl n hn)
      have b3 : carriedOk pe (fun n => decide (n ≤ 63)) = true :=
        carriedOk_of fun n hn => decide_eq_true (hpe n hn)
      have b4 : carriedOk pr (fun n => decide (n ≤ 7 ∨ n = 255)) = true :=
        carriedOk_of fun n hn => decide_eq_true (hpr n hn)
      unfold settingsOk
      rw [ha]
      simp only [b0, b1, b2, b3, b4, carriedOk_none, Option.map_none, Option.getD_none, Bool.and_true])
    (by rw [hnew]; exact hsuits) (by rw [ha]; rfl) (by rw [hnew]; exact hplaced)
    (fun h => absurd (by rw [hnew]) h) (fun h => absurd (by rw [hnew]) h)
    (.inr (by rw [hnew]; simp [DeviceSettings.disturbs]))
  have hnewr : Device.isRadio ⟨new, d.live⟩ = true :=
    Device.isRadio_iff.2 ⟨addr, by rw [hnew]; exact haddr⟩
  have h := setDevice_plain hd hexec (by rw [hnew]; exact ⟨rfl, rfl, rfl, rfl, rfl⟩)
    (by rw [State.tallies_radio hnewr, State.tallies_radio hr])
  rw [ha, hnew] at h
  exact h

/-! ### A new attachment (R47) -/

theorem State.unbindLine_mum {s : State} {att : Attachment}
    (h : ∀ n, att = .line n → n < 16 → (s.line n).state = .disabled) : Mum s (s.unbindLine att) := by
  cases att with
  | radio a => exact Mum.refl s
  | line n =>
    have hm : Mum s (s.modLine n fun l => { l with
        bound := none, enabled := false, state := .disabled, out := none, edgeDue := none }) :=
      .of_eq rfl rfl rfl
    rw [State.unbindLine_line]
    by_cases hn : n < 16
    · rw [State.noteLine_same (by rw [State.line_modLine hn, if_pos rfl, h n rfl hn])]
      exact hm
    · have hout : ∀ t : State, t.line n = Line.reset .opened false := fun t => by
        simp [State.line, hn]
      rw [State.noteLine_same (by rw [hout, hout])]
      exact hm

theorem setDevice_reattached {q : Req} {slot : Nat} {d : Device} {s : State} (htaken : Taken s q)
    (hp : q.port = .control) (happ : s.store.applied = true) (hd : s.dev slot = some d)
    {att : Attachment} (hcur : d.live.current = .none) (hplaced : d.set.placed = true)
    (hrate : rateCodeOk d.set.rate = true) (hne : att ≠ d.set.att)
    (hsuits : suits d.set.kind att = true) (hattok : attachmentOk att = true)
    (hheld : s.attachmentHeld slot att = false) (hauto : d.set.autoRoll = false) :
    ∃ t, exec (.setDevice q slot { att := some att.codes }) s = .next t ∧
      t.dev slot = some ⟨{ d.set with
        att := att, phase := if att.wired && d.set.att.wired then d.set.phase else 0 },
        .fresh att (s.profileCrc d.set.profile)⟩ ∧
      (∀ i, i ≠ slot → t.dev i = s.dev i) ∧
      (d.isRadio = true → Dropped s.radio t.radio slot) ∧
      (d.isRadio = false → t.radio = s.radio) ∧
      (∀ n, n < 16 → d.set.att = .line n → t.line n = { s.line n with
        bound := none, enabled := false, state := .disabled, out := none, edgeDue := none }) ∧
      (∀ n, n < 16 → att = .line n → t.line n = { s.line n with
        bound := some slot, enabled := false, state := .disabled, out := none, edgeDue := none }) ∧
      (∀ n, att ≠ .line n → d.set.att ≠ .line n → t.line n = s.line n) ∧
      t.inner = { s with slots := t.slots, lines := t.lines, radio := t.radio }.inner ∧
      Answered s t q 0x06 .ok [] ∧
      (∀ new, new = (if att.wired then DevState.wired else .unjammed) →
        (∀ n, d.set.att = .line n → (s.line n).state = .disabled) →
        (d.live.state = new → Silent s t) ∧
        (d.live.state ≠ new → Raised s t 0x45 [fByte slot, fByte d.live.state.code,
          fByte new.code, fTick s.houseTime, fByte 0, fByte 0, fByte 0, fByte 0])) := by
  obtain ⟨new, hnew⟩ : ∃ new, new = { d.set with
      att := att, phase := if att.wired && d.set.att.wired then d.set.phase else 0 } := ⟨_, rfl⟩
  obtain ⟨hph, hor⟩ : d.set.phase < periodOf d.set.rate ∧ d.set.origin < dayOf d.set.rate := by
    simpa [DeviceSettings.placed] using hplaced
  have hw : d.set.with { att := some att.codes } = new := by
    rw [hnew, DeviceSettings.with]
    cases hwi : att.wired <;> simp [attachmentOf_codes, hwi, hauto]
  have hexec := exec_setDevice_ok (a := { att := some att.codes }) (d := new) htaken hp happ hd
    (by
      have b1 : holdsOpt 1 (some att.codes.1) = true := by cases att <;> rfl
      have b2 : holdsOpt 1 (some att.codes.2) = true := holdsOpt_byte fun n hn => by
        cases att with
        | line m =>
          obtain rfl : m = n := Option.some.inj hn
          simp [attachmentOk] at hattok
          omega
        | radio m =>
          obtain rfl : m = n := Option.some.inj hn
          simp [attachmentOk] at hattok
          omega
      simp [DeviceArgs.fits, holdsOpt_none, b1, b2]) rfl hw
    (by
      have b0 : rateCodeOk new.rate = true := by rw [hnew]; exact hrate
      unfold settingsOk
      simp only [b0, carriedOk_none, Option.map_some, attachmentOf_codes, hattok, Option.getD_some,
        Bool.and_true])
    (by rw [hnew]; exact hsuits) rfl
    (by
      have b1 : new.phase < periodOf new.rate := by
        rw [hnew]
        dsimp only
        split
        · exact hph
        · exact periodOf_pos _
      have b2 : new.origin < dayOf new.rate := by rw [hnew]; exact hor
      simp [DeviceSettings.placed, b1, b2])
    (fun _ => by rw [hnew]; exact hheld) (fun h => absurd (by rw [hnew]) h) (.inl hcur)
  obtain ⟨s', hs'⟩ : ∃ s', s' = s.enlist q 0x06 := ⟨_, rfl⟩
  have hdev' : ∀ i, s'.dev i = s.dev i := fun i => by rw [hs', State.enlist_dev]
  have hline' : ∀ k, s'.line k = s.line k := fun k => by rw [hs', State.enlist_line]
  have hslot := s.dev_lt hd
  have hfresh : s'.newDevice new = ⟨new, .fresh att (s.profileCrc d.set.profile)⟩ := by
    rw [State.newDevice, hnew, State.profileCrc, State.profileCrc]
    simp [hs']
  obtain ⟨u, hu⟩ : ∃ u, u = (s'.setDev slot (some (s'.newDevice new))).unbindLine d.set.att := ⟨_, rfl⟩
  have hui : u.inner = { s'.setDev slot (some (s'.newDevice new)) with lines := u.lines }.inner := by
    rw [hu]; exact State.unbindLine_inner _ _
  have huf := State.inner_fields hui
  dsimp only at huf
  obtain ⟨b, hb⟩ : ∃ b, b = u.bindLine att slot := ⟨_, rfl⟩
  have hbe : b = { u with lines := b.lines } := by rw [hb]; exact u.bindLine_eq slot att
  obtain ⟨w, hwv⟩ : ∃ w, w = if d.isRadio then b.dropRadio slot else b := ⟨_, rfl⟩
  have hwe : w = { b with radio := w.radio } := by
    rw [hwv]
    split <;> rfl
  obtain ⟨v, hv⟩ : ∃ v, v = w.noteIfChanged slot d.live.state (Live.fresh att
    (s.profileCrc d.set.profile)).state := ⟨_, rfl⟩
  have hvi : v.inner = w.inner := by rw [hv]; exact State.noteIfChanged_inner _ _ _ _
  have hvf := State.inner_fields hvi
  have hvslots : v.slots = (s'.setDev slot (some (s'.newDevice new))).slots := by
    rw [State.slots_of_inner hvi, hwe, hbe]
    simp [huf]
  have hvlines : v.lines = b.lines := by simp only [hvf]; rw [hwe]
  have hvdev : v.dev slot = some ⟨new, .fresh att (s.profileCrc d.set.profile)⟩ := by
    rw [State.dev_congr hvslots, ← hfresh]
    exact (s'.dev_setDev slot slot _).trans (if_pos ⟨rfl, hslot⟩)
  have hchange : s'.change slot d new = v := by
    have hattnew : new.att = att := by rw [hnew]
    have hre : s'.reattach slot d new = v := by
      rw [hv, hwv, hb, hu]
      unfold State.reattach
      simp only [hfresh, hattnew]
    have hbefore : s'.tallyOf slot = false := by
      rw [State.tallyOf_eq (by rw [hdev', hd])]
      simp [State.tallies, hauto]
    unfold State.change
    dsimp only
    rw [if_neg (by rw [hnew]; simp), if_pos (by rw [hattnew]; exact Ne.symm hne), hre, hbefore]
    refine State.handEdge_quiet false ?_
    rw [State.tallyOf_eq hvdev]
    have hautonew : new.autoRoll = d.set.autoRoll := by rw [hnew]
    simp [State.tallies, hautonew, hauto]
  rw [← hs', hchange] at hexec
  have hun : NoReply s' u := by
    rw [hu]
    exact (NoReply.of_eq (s := s') rfl rfl).trans (State.unbindLine_noReply _ _)
  have huw : NoReply u w := .of_eq (by rw [hwe, hbe]) (by rw [hwe, hbe])
  have humw : Mum u w := .of_eq (by rw [hwe, hbe]) (by rw [hwe, hbe]) (by rw [hwe, hbe])
  obtain ⟨hn1, hn2, hn3⟩ := w.noteIfChanged_spec slot d.live.state
    (Live.fresh att (s.profileCrc d.set.profile)).state
  rw [← hv] at hn1 hn2 hn3
  have hsent := sent_reply (s := s) (q := q) (k := 0x06) (v := v)
    (hs' ▸ (hun.trans huw).trans hn1) .ok []
  have htime : w.houseTime = s.houseTime := by
    rw [hwe, hbe]
    refine (State.houseTime_congr (s := s') ?_ ?_).trans (hs' ▸ s.enlist_houseTime q 0x06 none)
    · simp [huf]
    · simp [huf]
  have huradio : b.radio = s.radio := by
    rw [hbe]
    simp [huf, hs']
  have hsetline : ∀ k, (s'.setDev slot (some (s'.newDevice new))).line k = s.line k := hline'
  refine ⟨_, hexec, by rw [State.sent_dev, hvdev, hnew], fun i hi => ?_, fun hr => ?_, fun hr => ?_,
    fun n hn hatt => ?_, fun n hn hatt => ?_, fun n hatt hold => ?_, ?_, hsent.answered,
    fun st hst hdis => ?_⟩
  · rw [State.sent_dev, State.dev_congr hvslots, ← hdev' i]
    exact s'.dev_setDev_ne hi _
  · rw [State.pump_radio, State.reply_radio, State.radio_of_inner hvi, hwv, if_pos hr, ← huradio]
    exact Radio.dropSlot_dropped _ _
  · rw [State.pump_radio, State.reply_radio, State.radio_of_inner hvi, hwv, if_neg (by simp [hr]),
      huradio]
  · rw [State.sent_line, State.line_congr hvlines, hb, u.bindLine_other slot (by rw [← hatt]; exact hne),
      hu, hatt, State.unbindLine_at _ hn, hsetline]
  · rw [State.sent_line, State.line_congr hvlines, hb, hatt, u.bindLine_at slot hn, hu,
      State.unbindLine_other _ _ (by rw [← hatt]; exact Ne.symm hne), hsetline]
  · rw [State.sent_line, State.line_congr hvlines, hb, u.bindLine_other slot hatt, hu,
      State.unbindLine_other _ _ hold, hsetline]
  · rw [hsent.inner, hvi]
    refine State.inner_ext ?_
    simp only [State.pump_slots, State.reply_slots, State.pump_radio, State.reply_radio,
      State.pump_lines, State.reply_lines, hvf]
    rw [hwe, hbe]
    simp [huf, hs']
  · have hstate : (Live.fresh att (s.profileCrc d.set.profile)).state = st := by rw [hst]; rfl
    rw [hstate] at hn2 hn3
    have hmu : Mum s' u := by
      rw [hu]
      exact (Mum.setDev s' slot _).trans (State.unbindLine_mum fun n hn _ => by
        rw [hsetline]; exact hdis n hn)
    refine ⟨fun h => hsent.silent (hs' ▸ (hmu.trans humw).trans (hn2 h)), fun h => ?_⟩
    have := hn3 h
    rw [htime] at this
    exact hsent.raised _ _ (hs' ▸ (hmu.trans humw).raised this)

end Sys2Proof.Machine
end

section
/-!
SUPPORT and THEOREM. SET_DEVICE: a new unit, auto-roll turned on and off, and O16.
-/

namespace Sys2Proof.Machine

/-! ### A new unit (R49, R117) -/

theorem State.closeTest_idle {s : State} {u : Nat} (h : (s.unit u).current = .none) :
    s.closeTest u = s := by
  unfold State.closeTest
  split
  · unfold State.closeTake
    simp only [h]
  · rfl

/-- Leaving a unit whose take is not open drops the roll name alone. -/
theorem State.leaveUnit_idle {s : State} {old : Option Nat} {slot : Nat}
    (h : ∀ v, old = some v → v < 4 ∧ (s.unit v).current = .none) :
    s.leaveUnit old slot = { s with units := (s.leaveUnit old slot).units } ∧
    (∀ v, old ≠ some v → (s.leaveUnit old slot).unit v = s.unit v) ∧
    (∀ v, old = some v → (s.leaveUnit old slot).unit v = { s.unit v with info := { (s.unit v).info with
      rolls := (s.unit v).info.rolls.filter fun x => x.1 ≠ slot } }) := by
  cases old with
  | none => exact ⟨rfl, fun _ _ => rfl, nofun⟩
  | some v =>
    obtain ⟨hv, hidle⟩ := h v rfl
    obtain ⟨f, hf⟩ : ∃ f : UnitRec → UnitRec, f = fun x => { x with info := { x.info with
        rolls := x.info.rolls.filter fun r => r.1 ≠ slot } } := ⟨_, rfl⟩
    have hleave : s.leaveUnit (some v) slot = s.modUnit v f := by
      rw [hf]
      refine State.closeTest_idle (s := s.dropRoll (some v) slot) ?_
      rw [State.dropRoll, State.unit_modUnit hv]
      exact hidle
    rw [hleave]
    refine ⟨rfl, fun w hw => State.unit_modUnit_ne (fun hwv => hw (by rw [hwv])) f, ?_⟩
    rintro w hw
    obtain rfl := Option.some.inj hw
    rw [State.unit_modUnit hv, hf]

theorem setDevice_moved {q : Req} {slot : Nat} {d : Device} {s : State} (htaken : Taken s q)
    (hp : q.port = .control) (happ : s.store.applied = true) (hd : s.dev slot = some d)
    (hsuits : suits d.set.kind d.set.att = true) (hphase : d.isRadio = true → d.set.phase = 0)
    {u : Nat} (hcur : d.live.current = .none) (hplaced : d.set.placed = true)
    (hrate : rateCodeOk d.set.rate = true) (hu : u < 4 ∨ u = 255) (hne : d.set.unit ≠ orNone u)
    (hfull : s.unitFull (orNone u) = false)
    (hold : ∀ v, d.set.unit = some v → v < 4 ∧ (s.unit v).current = .none) :
    ∃ t, exec (.setDevice q slot { unit := some u }) s = .next t ∧
      t.inner = ({ s with units := t.units }.setDev slot
        (some ⟨{ d.set with unit := orNone u }, d.live⟩)).inner ∧
      (∀ v, d.set.unit ≠ some v → t.unit v = s.unit v) ∧
      (∀ v, d.set.unit = some v → t.unit v = { s.unit v with info := { (s.unit v).info with
        rolls := (s.unit v).info.rolls.filter fun x => x.1 ≠ slot } }) ∧
      Answered s t q 0x06 .ok [] ∧ Silent s t := by
  obtain ⟨new, hnew⟩ : ∃ new, new = { d.set with unit := orNone u } := ⟨_, rfl⟩
  have hw : d.set.with { unit := some u } = new := by
    rw [hnew]
    refine DeviceSettings.with_unit u fun h => hphase ?_
    cases ha : d.set.att <;> simp_all [Device.isRadio, Attachment.wired]
  have hexec := exec_setDevice_ok (a := { unit := some u }) (d := new) htaken hp happ hd
    (by
      have b1 : holdsOpt 1 (some u) = true := holds_byte (by omega)
      simp [DeviceArgs.fits, holdsOpt_none, b1]) rfl hw
    (by
      have b0 : rateCodeOk new.rate = true := by rw [hnew]; exact hrate
      have b1 : carriedOk (some u) (fun u => decide (u ≤ 3 ∨ u = 255)) = true :=
        decide_eq_true (by omega)
      unfold settingsOk
      simp only [b0, b1, carriedOk_none, Option.map_none, Option.getD_none, Bool.and_true])
    (by rw [hnew]; exact hsuits) rfl (by rw [hnew]; exact hplaced)
    (fun h => absurd (by rw [hnew]) h) (fun _ => by rw [hnew]; exact hfull) (.inl hcur)
  obtain ⟨s', hs'⟩ : ∃ s', s' = s.enlist q 0x06 := ⟨_, rfl⟩
  have hd' : s'.dev slot = some d := by rw [hs', State.enlist_dev, hd]
  obtain ⟨w, hwv⟩ : ∃ w, w = s'.setDev slot (some ⟨new, d.live⟩) := ⟨_, rfl⟩
  have hwdev : w.dev slot = some ⟨new, d.live⟩ := by
    rw [hwv]
    exact (s'.dev_setDev slot slot _).trans (if_pos ⟨rfl, s.dev_lt hd⟩)
  have hwunit : ∀ v, w.unit v = s.unit v := fun v => by
    rw [hwv, hs']; exact s.enlist_unit q 0x06 none v
  obtain ⟨v, hv⟩ : ∃ v, v = w.leaveUnit d.set.unit slot := ⟨_, rfl⟩
  obtain ⟨hve, hv1, hv2⟩ := State.leaveUnit_idle (s := w) (old := d.set.unit) (slot := slot)
    fun x hx => by rw [hwunit]; exact hold x hx
  rw [← hv] at hve hv1 hv2
  have hchange : s'.change slot d new = v := by
    have hset : s'.resettle slot d new = w := by
      rw [hwv]
      exact State.resettle_plain (by rw [hnew]) (by rw [hnew]) (by rw [hnew])
    unfold State.change
    dsimp only
    rw [if_pos (by rw [hnew]; exact hne), if_neg (by rw [hnew]; simp), if_neg (by rw [hnew]; simp),
      hset, State.handEdge_quiet, ← hv]
    rw [State.tallyOf_eq hwdev, State.tallyOf_eq hd']
    simp only [State.tallies, Device.lineNo, hnew, hwv]
    rfl
  rw [← hs', hchange] at hexec
  have hsent := sent_reply (s := s) (q := q) (k := 0x06) (v := v)
    (hs' ▸ .of_eq (by rw [hve, hwv]; rfl) (by rw [hve, hwv]; rfl)) .ok []
  refine ⟨_, hexec, ?_, fun x hx => ?_, fun x hx => ?_, hsent.answered, hsent.silent
    (hs' ▸ .of_eq (by rw [hve, hwv]; rfl) (by rw [hve, hwv]; rfl) (by rw [hve, hwv]; rfl))⟩
  · rw [hsent.inner, State.pump_units, State.reply_units, hve, hwv, hnew, hs']
    exact State.inner_ext (by simp [State.setDev])
  · rw [State.sent_unit, hv1 x hx, hwunit]
  · rw [State.sent_unit, hv2 x hx, hwunit]

/-! ### Auto-roll turned on and off (R50) -/

/-- With no FLUSH waiting, or none that an operation could answer, the store arbiter replies to
nothing. -/
theorem noReply_arbitrate {s : State} (h : s.store.op ≠ .idle ∨ s.store.state ≠ .ready ∨
    s.store.flushes = []) : NoReply s s.arbitrate := by
  have hfull : s.store.flushes = [] → NoReply s s.enterLogFull := by
    intro hf
    have hnote : NoReply s (({ s with store := { s.store with state := .logFull } }).noteStore 1
        (some s.store.pointer) s.takes.queue.head?) :=
      (NoReply.of_eq (s := s) rfl rfl).trans (noReply_notify _ _ _)
    have hstore : (({ s with store := { s.store with state := .logFull } }).noteStore 1
        (some s.store.pointer) s.takes.queue.head?).store.flushes = [] := by
      rw [State.noteStore, State.notify_store]
      exact hf
    unfold State.enterLogFull State.failFlushes
    dsimp only
    rw [hstore]
    exact hnote.trans (.of_eq rfl rfl)
  have hread : ∀ t : State, NoReply t t.beginRead := fun t => by
    unfold State.beginRead
    split <;> exact .of_eq rfl rfl
  unfold State.arbitrate
  split
  · exact NoReply.refl s
  rename_i hop
  split
  · unfold State.beginPending
    split
    · split <;> exact .of_eq rfl rfl
    · exact .of_eq rfl rfl
    · exact .of_eq rfl rfl
    · exact NoReply.refl s
  split
  · exact hread s
  refine NoReply.trans ?_ (hread _)
  unfold State.beginWrite
  split
  · exact NoReply.refl s
  rename_i hst
  have hf := (h.resolve_left hop).resolve_left hst
  split
  · unfold State.beginAmend
    split
    · exact hfull hf
    · exact .of_eq rfl rfl
  · unfold State.beginCommit
    split
    · exact NoReply.refl s
    · dsimp only
      split
      · exact hfull hf
      · exact .of_eq rfl rfl
  · exact NoReply.refl s

/-- A close on a settled store replies to nothing. -/
theorem noReply_closeTake {s : State} {u : Nat} (h : s.settled) : NoReply s (s.closeTake u) := by
  have hset : s.store.op ≠ .idle ∨ s.store.state ≠ .ready ∨ s.store.flushes = [] := by
    rcases h with h | ⟨-, -, -, h | ⟨-, h, -⟩⟩
    · exact .inl h
    · exact .inr (.inl h)
    · exact .inr (.inr h)
  have hstop : ∀ (v : State) (c : CurrentTake) (x : Closing) (r : List ReadReq), NoReply s v →
      v.store = { s.store with reads := r } →
      NoReply s (((v.stopRolling u c).noteClosed x).arbitrate) := by
    intro v c x r hn hv
    have h1 : NoReply v (v.stopRolling u c) := by
      rw [State.stopRolling_eq]; exact .of_eq rfl rfl
    have hst : ((v.stopRolling u c).noteClosed x).store = { s.store with reads := r } := by
      rw [State.noteClosed, State.notify_store, State.stopRolling_eq, hv]
    exact ((hn.trans h1).trans (noReply_notify _ _ _)).trans
      (noReply_arbitrate (by rw [State.noteClosed] at hst; rw [hst]; exact hset))
  unfold State.closeTake
  dsimp only
  split
  · exact NoReply.refl s
  · rename_i ss ix hc
    obtain ⟨x, r, hx⟩ := State.exportRun_eq { s.frozen ss ix with exporter := s.exporter.closed ss ix }
    refine hstop _ _ _ r ?_ (by rw [State.freezeTake_eq, hx]; rfl)
    rw [State.freezeTake_eq, hx]
    exact .of_eq rfl rfl
  · exact hstop _ _ _ s.store.reads (NoReply.refl s) rfl

section
variable {q : Req} {slot n u : Nat} {d : Device} {s : State} {on : Bool}

theorem exec_setAutoRoll (htaken : Taken s q)
    (hp : q.port = .control) (happ : s.store.applied = true) (hd : s.dev slot = some d)
    (hsuits : suits d.set.kind d.set.att = true) (hk : d.set.kind = .camera)
    (hatt : d.set.att = .line n) (hplaced : d.set.placed = true)
    (hrate : rateCodeOk d.set.rate = true) :
    exec (.setDevice q slot { autoRoll := some on }) s =
      .next (((s.enlist q 0x06).change slot d { d.set with autoRoll := on }).reply q.port 0x06 q.tag
        .ok).pump := by
  obtain ⟨new, hnew⟩ : ∃ new, new = { d.set with autoRoll := on } := ⟨_, rfl⟩
  have hw : d.set.with { autoRoll := some on } = new := by
    rw [hnew, DeviceSettings.with]
    simp [hatt, hk, Attachment.wired]
  rw [← hnew]
  exact exec_setDevice_ok (a := { autoRoll := some on }) (d := new) htaken hp happ hd
    (by simp [DeviceArgs.fits, holdsOpt_none]) rfl hw
    (by
      have b0 : rateCodeOk new.rate = true := by rw [hnew]; exact hrate
      unfold settingsOk
      simp only [b0, carriedOk_none, Option.map_none, Option.getD_none, Bool.and_true])
    (by rw [hnew]; exact hsuits) (by rw [hnew]; simp [autoRollOk, hk, hatt, Attachment.wired])
    (by rw [hnew]; exact hplaced)
    (fun h => absurd (by rw [hnew]) h) (fun h => absurd (by rw [hnew]) h)
    (.inr (by rw [hnew]; simp [DeviceSettings.disturbs]))

/-- The state in which a change of auto-roll is handed as an edge. -/
theorem change_autoRoll {v : State} (hd : s.dev slot = some d)
    (hv : v = (s.enlist q 0x06).setDev slot (some ⟨{ d.set with autoRoll := on }, d.live⟩)) :
    (s.enlist q 0x06).change slot d { d.set with autoRoll := on } = v.handEdge slot (s.tallies d) ∧
      v.dev slot = some ⟨{ d.set with autoRoll := on }, d.live⟩ ∧
      (∀ i, i ≠ slot → v.dev i = s.dev i) ∧ (∀ x, v.unit x = s.unit x) ∧
      (∀ k, v.line k = s.line k) ∧ v.houseTime = s.houseTime ∧ v.store = s.store ∧
      v.takes = s.takes ∧ NoReply (s.enlist q 0x06) v := by
  have hbefore : (s.enlist q 0x06).tallyOf slot = s.tallies d :=
    State.tallyOf_set (by rw [State.enlist_dev, hd]) fun k => by rw [State.enlist_line]
  refine ⟨?_, ?_, fun i hi => ?_, fun x => ?_, fun k => ?_, ?_, ?_, ?_, ?_⟩
  · rw [State.change_resettled (d := { d.set with autoRoll := on }) rfl rfl fun _ => ⟨rfl, rfl⟩,
      State.resettle_plain (d := { d.set with autoRoll := on }) rfl rfl rfl, ← hv, hbefore]
  · rw [hv]
    exact (State.dev_setDev _ slot slot _).trans (if_pos ⟨rfl, s.dev_lt hd⟩)
  · rw [hv, State.dev_setDev_ne _ hi, State.enlist_dev]
  · rw [hv]; exact s.enlist_unit q 0x06 none x
  · rw [hv]; exact s.enlist_line q 0x06 none k
  · rw [hv]; exact s.enlist_houseTime q 0x06 none
  · rw [hv]; exact s.enlist_store q 0x06 none
  · rw [hv]; exact s.enlist_takes q 0x06 none
  · rw [hv]; exact .of_eq rfl rfl

theorem State.tallies_camera (hk : d.set.kind = .camera) (hatt : d.set.att = .line n) :
    s.tallies d = (d.set.autoRoll && (s.line n).run) := by
  simp [State.tallies, Device.lineNo, hk, hatt]

theorem setAutoRoll_spec (htaken : Taken s q)
    (hp : q.port = .control) (happ : s.store.applied = true) (hd : s.dev slot = some d)
    (hsuits : suits d.set.kind d.set.att = true) (hk : d.set.kind = .camera)
    (hatt : d.set.att = .line n) (hplaced : d.set.placed = true)
    (hrate : rateCodeOk d.set.rate = true) (hun : d.set.unit = some u) (hu : u < 4)
    (hscan : s.store.scanned = true) (hne : d.set.autoRoll ≠ on) :
    ((s.line n).run = false → ∃ t, exec (.setDevice q slot { autoRoll := some on }) s = .next t ∧
      t.inner = (s.setDev slot (some ⟨{ d.set with autoRoll := on }, d.live⟩)).inner ∧
      Answered s t q 0x06 .ok [] ∧ Silent s t) ∧
    ((s.line n).run = true → on = true → (s.unit u).current = .none →
      ∃ t, exec (.setDevice q slot { autoRoll := some on }) s = .next t ∧
        (t.unit u).rolling = true ∧ (t.unit u).opener = some .rollSense ∧
        (t.unit u).start = s.houseTime ∧ t.currentOf slot = (t.unit u).current ∧
        Answered s t q 0x06 .ok []) ∧
    ((s.line n).run = true → on = false → (s.unit u).current ≠ .none →
      (s.unit u).opener = some .rollSense → s.settled →
      (∀ x ∈ s.assigned u, x.1 ≠ slot → s.tallies x.2 = false) →
      ∃ t, exec (.setDevice q slot { autoRoll := some on }) s = .next t ∧
        (t.unit u).rolling = false ∧ (t.unit u).opener = none ∧ Answered s t q 0x06 .ok []) := by
  have hexec := exec_setAutoRoll (on := on) htaken hp happ hd hsuits hk hatt hplaced hrate
  refine ⟨fun hrun => ?_, fun hrun hon hidle => ?_, fun hrun hoff hroll ho hset hothers => ?_⟩
  · refine setDevice_plain hd hexec ⟨rfl, rfl, rfl, rfl, rfl⟩ ?_
    rw [State.tallies_camera (d := ⟨{ d.set with autoRoll := on }, d.live⟩) hk hatt,
      State.tallies_camera hk hatt, hrun, Bool.and_false, Bool.and_false]
  · obtain ⟨v, hv⟩ : ∃ v, v = (s.enlist q 0x06).setDev slot
      (some ⟨{ d.set with autoRoll := on }, d.live⟩) := ⟨_, rfl⟩
    obtain ⟨hchange, hvdev, -, hvunit, hvline, hvtime, hvstore, -, hvn⟩ := change_autoRoll hd hv
    have htally : v.tallyOf slot = true := by
      rw [State.tallyOf_eq hvdev, State.tallies_camera (d := ⟨{ d.set with autoRoll := on }, d.live⟩) hk hatt, hvline, hrun, hon]
      rfl
    have hbefore : s.tallies d = false := by
      rw [State.tallies_camera hk hatt]
      cases hroll : d.set.autoRoll with
      | false => rfl
      | true => exact absurd (hroll.trans hon.symm) hne
    rw [hchange, hbefore, State.handEdge_rise htally] at hexec
    obtain ⟨c, hc, hrolls, -, hnr⟩ := State.runRise_opened (s := v) (slot := slot) (u := u)
      (by rw [hvstore]; exact hscan) hu hvdev hun (by rw [hvunit]; exact hidle)
    obtain ⟨h1, h2, h3, h4⟩ := hrolls.rolling hc hvdev hun
    have hsent := sent_reply (s := s) (q := q) (k := 0x06) (hvn.trans hnr) .ok []
    refine ⟨_, hexec, ?_⟩
    have hcur : ((v.runRise slot).reply q.port 0x06 q.tag .ok).pump.currentOf slot =
        (v.runRise slot).currentOf slot := by
      rw [State.currentOf, State.currentOf, State.sent_dev]
    rw [hcur, State.sent_unit]
    exact ⟨h1, h2, h3.trans hvtime, h4, hsent.answered⟩
  · obtain ⟨v, hv⟩ : ∃ v, v = (s.enlist q 0x06).setDev slot
      (some ⟨{ d.set with autoRoll := on }, d.live⟩) := ⟨_, rfl⟩
    obtain ⟨hchange, hvdev, hvother, hvunit, hvline, hvtime, hvstore, hvtakes, hvn⟩ :=
      change_autoRoll hd hv
    have htally : v.tallyOf slot = false := by
      rw [State.tallyOf_eq hvdev, State.tallies_camera (d := ⟨{ d.set with autoRoll := on }, d.live⟩) hk hatt, hoff]
      rfl
    have hbefore : s.tallies d = true := by
      rw [State.tallies_camera hk hatt, hrun]
      cases hroll : d.set.autoRoll with
      | true => rfl
      | false => exact absurd (hroll.trans hoff.symm) hne
    rw [hchange, hbefore, State.handEdge_fall htally] at hexec
    have hquiet : ∀ x ∈ v.assigned u, v.tallies x.2 = false := by
      rintro ⟨i, e⟩ hx
      obtain ⟨he, heu⟩ := State.mem_assigned.1 hx
      by_cases hi : i = slot
      · rw [← htally, State.tallyOf_eq (hi ▸ he)]
      · rw [hvother i hi] at he
        rw [← hothers (i, e) (State.mem_assigned.2 ⟨he, heu⟩) hi]
        simp only [State.tallies, hvline]
    have hfall := State.runFall_last (s := v) (slot := slot) hvdev hun (by rw [hvunit]; exact hroll)
      (by rw [hvunit]; exact ho) hquiet
    obtain ⟨x, hx⟩ : ∃ x, x = v.writeEntry slot fun p => { p with rollStop := some v.houseTime } :=
      ⟨_, rfl⟩
    have heq : x = { v with takes := x.takes } := by rw [hx]; exact v.writeEntry_eq _ _
    have hqueue : x.takes.queue = v.takes.queue := by
      rw [hx]
      unfold State.writeEntry
      split <;> rfl
    rw [← hx] at hfall
    have hxunit : x.unit u = s.unit u := by rw [← hvunit]; exact State.unit_congr (by rw [heq]) u
    obtain ⟨h1, h2, -⟩ := State.closeTake_stops (s := x) hu (by rw [hxunit]; exact hroll)
    have hxs : x.settled := by
      unfold State.settled State.nothingToWrite at hset ⊢
      rw [hqueue, hvtakes, show x.store = s.store by rw [heq]; exact hvstore]
      exact hset
    have hnr : NoReply (s.enlist q 0x06) (x.closeTake u) :=
      (hvn.trans (.of_eq (by rw [heq]) (by rw [heq]))).trans (noReply_closeTake hxs)
    have hsent := sent_reply (s := s) (q := q) (k := 0x06) hnr .ok []
    rw [hfall] at hexec
    exact ⟨_, hexec, by rw [State.sent_unit]; exact h1, by rw [State.sent_unit]; exact h2,
      hsent.answered⟩

end

/-- Settles O16: the six effects of a SET_DEVICE, each over the checks of R46. -/
theorem rateChangeUnjams : Obligations.RateChangeUnjams := by
  intro q slot d s htaken hp happ hslot hd hsuits hphase
  refine ⟨fun r o rate org hr hcur h1 h2 h3 h4 h5 h6 =>
      setDevice_rerated htaken hp happ hd hsuits hphase hr hcur h1 h2 h3 h4 h5 h6,
    fun n r o f au pu new hatt hn hcur hnew h1 h2 h3 h4 h5 h6 =>
      setDevice_wired htaken hp happ hd hsuits hatt hn hcur hnew h1 h2 h3 h4 h5 h6,
    fun tol pl pe pr qu hr h1 h2 h3 h4 h5 h6 =>
      setDevice_radio htaken hp happ hd hsuits hphase hr h1 h2 h3 h4 h5 h6,
    fun att hcur h1 h2 h3 h4 h5 h6 h7 =>
      setDevice_reattached htaken hp happ hd hcur h1 h2 h3 h4 h5 h6 h7,
    fun u hcur h1 h2 h3 h4 h5 h6 =>
      setDevice_moved htaken hp happ hd hsuits hphase hcur h1 h2 h3 h4 h5 h6,
    fun n u on hk hatt hn h1 h2 hun hu hscan hne =>
      setAutoRoll_spec htaken hp happ hd hsuits hk hatt h1 h2 hun hu hscan hne⟩

end Sys2Proof.Machine
end

section
/-!
SUPPORT and THEOREM. Held re-jams, the countdowns, the arbiter and echoes: O27 to O30.
-/

namespace Sys2Proof.Machine

/-! ### One device changed -/

section
variable {s : State} {i : Nat} {d : Device}

theorem State.modLive_some (hd : s.dev i = some d) (f : Live → Live) :
    s.modLive i f = s.setDev i (some { d with live := f d.live }) := by
  unfold State.modLive
  simp only [hd]

theorem State.setDev_setDev (s : State) (i : Nat) (a b : Option Device) :
    (s.setDev i a).setDev i b = s.setDev i b := by
  unfold State.setDev
  simp only [State.mk.injEq, true_and, and_true]
  refine Vector.ext fun j hj => ?_
  simp only [Vector.getElem_setIfInBounds]
  split <;> rfl

/-- A slot replaced after another was. -/
theorem State.modLive_setDev (hd : s.dev i = some d) (x : Device) (f : Live → Live) :
    (s.setDev i (some x)).modLive i f = s.setDev i (some { x with live := f x.live }) := by
  rw [State.modLive_some (s.dev_setDev_same hd _), State.setDev_setDev]

theorem State.enter_setDev {x : Device} {new : DevState} (hd : s.dev i = some d)
    (hne : x.live.state ≠ new) : (s.setDev i (some x)).enter i new =
      s.setDev i (some { x with live := { x.live with
        state := new, pollLeft := s.pollPeriod { x with live := { x.live with state := new } } } }) := by
  rw [State.enter_eq (s.dev_setDev_same hd _) hne, State.setDev_setDev]
  rfl

/-- A device's new state when it is in that state already. -/
theorem State.enter_same {new : DevState} (hd : s.dev i = some d) (he : d.live.state = new) :
    s.enter i new = s := by
  unfold State.enter
  simp only [hd]
  rw [if_pos he]

/-- The poll period of a device in a polled state: 1 for a slate of a ROLLING unit, else its
setting. -/
theorem State.pollPeriod_polled (s : State) (d : Device) (h : d.live.state = .jamPending ∨
    d.live.state = .tracked ∨ d.live.state = .drifting) : s.pollPeriod d =
      some (if d.set.kind = .slate ∧ ∃ u, d.set.unit = some u ∧ (s.unit u).rolling = true then 1
        else d.set.poll) := by
  have hiff : (d.set.kind = .slate ∧ (d.set.unit.map fun u => (s.unit u).rolling) = some true) ↔
      (d.set.kind = .slate ∧ ∃ u, d.set.unit = some u ∧ (s.unit u).rolling = true) := by
    rw [Option.map_eq_some_iff]
  have hcase : s.pollPeriod d =
      if d.set.kind = .slate ∧ (d.set.unit.map fun u => (s.unit u).rolling) = some true then some 1
      else some d.set.poll := by
    unfold State.pollPeriod
    rcases h with h | h | h <;> simp only [h]
  rw [hcase, if_congr hiff rfl rfl]
  split <;> rfl

theorem State.pollPeriod_lost (s : State) (d : Device) (h : d.live.state = .outOfRange) :
    s.pollPeriod d = some (4 * d.set.poll) := by
  unfold State.pollPeriod
  simp only [h]

/-- The poll period reads state, settings and the units alone. -/
theorem State.pollPeriod_congr {t : State} {d e : Device} (hu : t.units = s.units)
    (hset : e.set = d.set) (hst : e.live.state = d.live.state) : t.pollPeriod e = s.pollPeriod d := by
  unfold State.pollPeriod
  simp only [hset, hst, State.unit_congr hu]

end

/-! ### Held re-jams (R111) -/

section
variable {s : State} {i : Nat} {d : Device}

/-- The first re-jam held back of a TRACKED device. -/
theorem State.holdTrigger_first (hd : s.dev i = some d) (hst : d.live.state = .tracked)
    (hm : d.live.missedRejams = 0) (b : Bool) : s.holdTrigger i b =
      s.setDev i (some { d with live := { d.live with held := true, missedRejams := 1 } }) := by
  unfold State.holdTrigger
  simp only [hd]
  rw [if_pos ⟨hst, hm⟩, State.modLive_some hd, State.modLive_setDev hd]

/-- The device DRIFTING after its second. -/
def State.drifted (s : State) (d : Device) : Device := { d with live := { d.live with
  held := true
  missedRejams := 2
  state := .drifting
  pollLeft := s.pollPeriod { d with live := { d.live with
    held := true, missedRejams := 2, state := .drifting } } } }

/-- The second of a TRACKED device, when it counts. -/
theorem State.holdTrigger_second (hd : s.dev i = some d) (hst : d.live.state = .tracked)
    (hm : d.live.missedRejams = 1) : s.holdTrigger i true =
      ((s.setDev i (some (s.drifted d))).noteDevice i (some .tracked) (some .drifting) .hold).writeEntry i
        fun p => { p with uncertain := true } := by
  unfold State.holdTrigger
  simp only [hd]
  rw [if_neg (by simp [hm]), if_pos ⟨hst, hm, trivial⟩, State.modLive_some hd, State.modLive_setDev hd,
    State.enter_setDev hd (by simp [hst])]
  rfl

/-- Any other changes the held flag alone. -/
theorem State.holdTrigger_other (hd : s.dev i = some d) (b : Bool)
    (h : d.live.state ≠ .tracked ∨ (d.live.missedRejams ≠ 0 ∧ (d.live.missedRejams ≠ 1 ∨ b = false))) :
    s.holdTrigger i b = s.setDev i (some { d with live := { d.live with held := true } }) := by
  unfold State.holdTrigger
  simp only [hd]
  rw [if_neg (by rintro ⟨h1, h2⟩; rcases h with h | ⟨h, -⟩ <;> contradiction),
    if_neg (by rintro ⟨h1, h2, h3⟩; rcases h with h | ⟨-, h | h⟩ <;> simp_all), State.modLive_some hd]

theorem State.postOrHold_free (hd : s.dev i = some d) (h : d.heldBack = false) (c : ReqClass) (b : Bool) :
    s.postOrHold c i b = s.post c i := by
  unfold State.postOrHold
  simp only [hd, h]
  rfl

theorem State.postOrHold_held (hd : s.dev i = some d) (h : d.heldBack = true) (c : ReqClass) (b : Bool) :
    s.postOrHold c i b = s.holdTrigger i b := by
  unfold State.postOrHold
  simp only [hd, h]
  rfl

/-- What DRIFTING leaves: the device, its notice, and its entry of an open logged take UNCERTAIN. -/
theorem State.drifted_spec (hd : s.dev i = some d) {t : State}
    (ht : t = ((s.setDev i (some (s.drifted d))).noteDevice i (some .tracked) (some .drifting)
      .hold).writeEntry i fun p => { p with uncertain := true }) :
    t.inner = ({ s with takes := t.takes }.setDev i (some (s.drifted d))).inner ∧ NoReply s t ∧
    Raised s t 0x45 [fByte i, fByte 3, fByte 4, fTick s.houseTime, fByte 2, fByte 0, fByte 0,
      fByte 0] ∧
    ((∀ ss ix, d.live.current ≠ .logged ss ix) → t.takes = s.takes) ∧
    t.takes.queue = s.takes.queue ∧ t.takes.lastIndex = s.takes.lastIndex ∧
    (∀ ss ix, d.live.current = .logged ss ix → EntriesKept s t ss ix ∧
      ∀ e, s.findTake ss ix = some e → e.copy.state = .opened → ∃ x,
        t.findTake ss ix = some { e with copy := { e.copy with
          participants := e.copy.participants.map (fun p =>
            if p.slot = i then { p with uncertain := true } else p)
          timeUncertain := x } } ∧
        (x = true ↔ e.copy.timeUncertain = true ∨
          ∃ p ∈ e.copy.participants, p.slot = i ∨ p.uncertain = true)) := by
  obtain ⟨v, hv⟩ : ∃ v, v = (s.setDev i (some (s.drifted d))).noteDevice i (some .tracked)
    (some .drifting) .hold := ⟨_, rfl⟩
  rw [← hv] at ht
  have hvi : v.inner = (s.setDev i (some (s.drifted d))).inner := by
    rw [hv]; exact State.inner_notify _ _ _
  have hvf := State.inner_fields hvi
  have hvr : Raised s v 0x45 [fByte i, fByte 3, fByte 4, fTick s.houseTime, fByte 2, fByte 0, fByte 0,
      fByte 0] := by
    rw [hv]
    exact (Mum.setDev s i _).raised (State.raised_notify _ _ _)
  have hvn : NoReply s v := by
    rw [hv]
    exact (NoReply.of_eq (s := s) rfl rfl).trans (noReply_notify _ _ _)
  have heq : t = { v with takes := t.takes } := by rw [ht]; exact v.writeEntry_eq _ _
  have hvt : v.takes = s.takes := hvf.2.2.2.2.2.2.2.2.2.2.2.1
  have hcur : v.currentOf i = d.live.current := by
    rw [State.currentOf, State.dev_congr hvf.2.2.2.2.2.1, s.dev_setDev_same hd]
    rfl
  refine ⟨?_, hvn.trans (.of_eq (by rw [heq]) (by rw [heq])),
    hvr.silent (Mum.of_eq (by rw [heq]) (by rw [heq]) (by rw [heq])).silent, fun h => ?_, ?_, ?_,
    fun ss ix h => ?_⟩
  · have h : t.inner = { v with takes := t.takes }.inner := congrArg State.inner heq
    rw [h]
    exact State.inner_ext (by simp [hvf]; rfl)
  · rw [ht, State.writeEntry_free (by rw [hcur]; exact h), hvt]
  · rw [ht, ← hvt]
    unfold State.writeEntry
    split <;> rfl
  · rw [ht, ← hvt]
    unfold State.writeEntry
    split <;> rfl
  · rw [← hcur] at h
    obtain ⟨hk, -⟩ := State.writeEntry_kept h fun p => { p with uncertain := true }
    rw [← ht] at hk
    refine ⟨?_, fun e he ho => ⟨_, by
      rw [ht]
      exact State.writeEntry_found h ((State.findTake_congr (by rw [hvt]) ss ix).trans he) ho _, ?_⟩⟩
    · unfold EntriesKept at hk ⊢
      rw [hvt] at hk
      exact hk
    · rw [Bool.or_eq_true, List.any_map, List.any_eq_true]
      refine or_congr_right ⟨?_, ?_⟩
      · rintro ⟨p, hp, hu⟩
        refine ⟨p, hp, ?_⟩
        dsimp only [Function.comp_apply] at hu
        split at hu
        · exact .inl ‹_›
        · exact .inr hu
      · rintro ⟨p, hp, hu⟩
        refine ⟨p, hp, ?_⟩
        dsimp only [Function.comp_apply]
        split
        · rfl
        · exact hu.resolve_left ‹_›

end

/-! ### The countdowns' expiries (R91, R110) -/

/-- Settles O27: each expiry reloads its countdown, then posts or holds. -/
theorem countdownsExpire : Obligations.CountdownsExpire := by
  intro i d s hi hd
  refine ⟨fun p rolling hleft hroll hp => ?_, fun hleft hst hper => ?_⟩
  · have hperiod : s.pollPeriod d = some p := by
      rcases hp with ⟨hst, rfl⟩ | ⟨hst, hp⟩
      · exact s.pollPeriod_lost d hst
      · rw [s.pollPeriod_polled d hst]
        rcases hp with ⟨hr, rfl⟩ | ⟨hr, rfl⟩
        · rw [if_pos (hroll.1 hr)]
        · rw [if_neg fun h => hr (hroll.2 h)]
    obtain ⟨v, hv⟩ : ∃ v, v = (s.setDev i (some { d with live :=
      { d.live with pollLeft := some p } })).post .poll i := ⟨_, rfl⟩
    have hexec : exec (.pollDue i) s = .next v.pump := by
      show finish _ = _
      have hout : s.pollRunOut i = true := by simp [State.pollRunOut, hd, hleft, hperiod]
      simp only [hd, hout, if_true]
      rw [State.modLive_some hd, hperiod, hv]
      rfl
    obtain ⟨hr, hs⟩ := quiet_pump (s := s) (u := v) (.of_eq (by rw [hv]; rfl) (by rw [hv]; rfl))
      (.of_eq (by rw [hv]; rfl) (by rw [hv]; rfl) (by rw [hv]; rfl))
    refine ⟨_, hexec, ?_, ?_, hr, hs⟩
    · rw [State.pump_radio, hv]
      exact Radio.post_posted _ _ _ _
    · rw [State.inner_pump, State.pump_radio, hv]
      rfl
  · have hpred : d.live.predictedState = true := decide_eq_true hst
    have hload : periodicLoad d.set.periodic = some (30 * d.set.periodic) := if_neg (by omega)
    obtain ⟨e, he⟩ : ∃ e : Device, e = { d with live :=
      { d.live with periodicLeft := some (30 * d.set.periodic) } } := ⟨_, rfl⟩
    have hexec : exec (.periodicExpiry i) s =
        .next ((s.setDev i (some e)).postOrHold .periodic i true).pump := by
      show finish _ = _
      have hout : s.periodicRunOut i = true := by
        simp only [State.periodicRunOut, hd, hleft, hpred]
        simp
        omega
      simp only [hd, hout, if_true]
      rw [State.modLive_some hd, hload, ← he]
      rfl
    have hdev : (s.setDev i (some e)).dev i = some e := s.dev_setDev_same hd _
    refine ⟨fun hfree => ?_, fun hheld hdr => ?_, fun hheld htr hm => ?_, fun hheld htr hm => ?_⟩
    · rw [State.postOrHold_free hdev (by rw [he]; exact hfree)] at hexec
      obtain ⟨v, hv⟩ : ∃ v, v = (s.setDev i (some e)).post .periodic i := ⟨_, rfl⟩
      rw [← hv] at hexec
      obtain ⟨hr, hs⟩ := quiet_pump (s := s) (u := v) (.of_eq (by rw [hv]; rfl) (by rw [hv]; rfl))
        (.of_eq (by rw [hv]; rfl) (by rw [hv]; rfl) (by rw [hv]; rfl))
      refine ⟨_, hexec, ?_, ?_, hr, hs⟩
      · rw [State.pump_radio, hv]
        exact Radio.post_posted _ _ _ _
      · rw [State.inner_pump, State.pump_radio, hv, he]
        rfl
    · rw [State.postOrHold_held hdev (by rw [he]; exact hheld),
        State.holdTrigger_other hdev _ (.inl (by rw [he]; simp [hdr])), State.setDev_setDev] at hexec
      obtain ⟨hr, hs⟩ := quiet_pump (s := s) (u := s.setDev i _) (.of_eq rfl rfl) (Mum.setDev s i _)
      exact ⟨_, hexec, by rw [State.inner_pump, he], hr, hs⟩
    · rw [State.postOrHold_held hdev (by rw [he]; exact hheld),
        State.holdTrigger_first hdev (by rw [he]; exact htr) (by rw [he]; exact hm),
        State.setDev_setDev] at hexec
      obtain ⟨hr, hs⟩ := quiet_pump (s := s) (u := s.setDev i _) (.of_eq rfl rfl) (Mum.setDev s i _)
      exact ⟨_, hexec, by rw [State.inner_pump, he], hr, hs⟩
    · have hest : e.live.state = .tracked := by rw [he]; exact htr
      rw [State.postOrHold_held hdev (by rw [he]; exact hheld),
        State.holdTrigger_second hdev hest (by rw [he]; exact hm)] at hexec
      obtain ⟨t, ht⟩ : ∃ t, t = (((s.setDev i (some e)).setDev i
        (some ((s.setDev i (some e)).drifted e))).noteDevice i (some .tracked) (some .drifting)
          .hold).writeEntry i fun p => { p with uncertain := true } := ⟨_, rfl⟩
      rw [← ht] at hexec
      obtain ⟨h1, h2, h3, h4, h5, -, h7⟩ := State.drifted_spec hdev ht
      obtain ⟨p, hp⟩ : ∃ p, p = if d.set.kind = .slate ∧ ∃ u, d.set.unit = some u ∧
        (s.unit u).rolling = true then 1 else d.set.poll := ⟨_, rfl⟩
      have hdrift : (s.setDev i (some e)).drifted e = { d with live := { d.live with
          periodicLeft := some (30 * d.set.periodic)
          held := true
          missedRejams := 2
          state := .drifting
          pollLeft := some p } } := by
        rw [State.drifted, State.pollPeriod_polled _ _ (.inr (.inr rfl)), hp, he]
        rfl
      have htf : t.pump.takes = t.takes := t.pump_takes
      refine ⟨_, p, hexec, ?_, ?_, ?_, ?_, fun hno => ?_, fun ss ix hcur => ?_⟩
      · rw [State.inner_pump, h1, hdrift, htf]
        exact congrArg State.inner (State.setDev_setDev { s with takes := t.takes } i _ _)
      · rw [hp]
        split
        · exact .inl rfl
        · exact .inr rfl
      · exact ((NoReply.of_eq (s := s) rfl rfl).trans h2).trans (noReply_pump t)
      · exact ((Mum.setDev s i (some e)).raised h3).silent (silent_pump t)
      · rw [htf]
        exact h4 (by rw [he]; exact hno)
      · obtain ⟨hk, hx⟩ := h7 ss ix (by rw [he]; exact hcur)
        rw [EntriesKept, State.findTake_congr (congrArg TakeTable.entries htf), htf]
        exact ⟨h5, hk, hx⟩

/-! ### The arbiter (R87, R88) -/

/-- Settles O28: the oldest HOST_JAM heads the ranked requests, and its device is not held back. -/
theorem slotStartTakesHostJam : Obligations.SlotStartTakesHostJam := by
  intro b address m x rest d s hopen hflight hdue hb hlast hset hd hatt hheld
  have hcls : x.cls = .hostJam := by
    have hmem : x ∈ s.radio.classSet .hostJam := by rw [hset]; exact List.mem_cons_self
    simpa [Radio.classSet] using (List.mem_filter.1 hmem).2
  have htake : s.radio.takeableSlot = some b := by
    unfold Radio.takeableSlot
    rw [if_pos (by simp [hopen, hflight]), hdue, Option.filter_some]
    exact if_pos (decide_eq_true hb)
  obtain ⟨n0, hn0⟩ : ∃ n0, n0 = jamFrame d x.frame m.tick := ⟨_, rfl⟩
  obtain ⟨u, hu⟩ : ∃ u : State, u = { s with radio := { s.radio with slotDue := none } } := ⟨_, rfl⟩
  obtain ⟨v, hv⟩ : ∃ v, v = u.begin x d b m := ⟨_, rfl⟩
  have hexec : exec .slotStart s = .next v.pump := by
    show finish _ = _
    have hranked : ∃ l, s.radio.ranked = x :: l := ⟨_, by
      simp only [Radio.ranked, List.flatMap_cons, hset]
      rfl⟩
    obtain ⟨l, hl⟩ := hranked
    have hjudge : judge x d = .take := by
      unfold judge
      simp only [hcls, hheld]
      rfl
    have hchoose : State.choose u b m (x :: l) = v := by
      have hdu : u.dev x.slot = some d := by rw [hu]; exact hd
      rw [State.choose, hdu]
      simp only [hjudge, hv]
    simp only [htake, hlast, hl, ← hu, hchoose]
    rfl
  have hpacket : u.packetFor x d m = .jam address m.number d.set.rate n0 := by
    unfold State.packetFor
    simp only [hcls]
    simp [Device.address, hatt, hn0]
  have hve : v = { s with radio := { s.radio with
      requests := s.radio.requests.filter fun y => ¬ (y.cls = ReqClass.hostJam ∧ y.slot = x.slot)
      flight := some ⟨x, .jam address m.number d.set.rate n0, b, m, n0, none, false⟩
      out := some (.jam address m.number d.set.rate n0)
      slotDue := none } } := by
    have hfilter : (s.radio.requests.filter fun y => !(y.cls = x.cls && y.slot = x.slot)) =
        s.radio.requests.filter fun y => ¬ (y.cls = ReqClass.hostJam ∧ y.slot = x.slot) := by
      refine List.filter_congr fun y _ => ?_
      rw [hcls]
      by_cases h1 : y.cls = .hostJam <;> simp [h1]
    rw [hv, State.begin, hpacket, ← hn0, hu]
    dsimp only [Radio.remove]
    rw [hfilter]
  obtain ⟨hr, hs⟩ := quiet_pump (s := s) (u := v) (.of_eq (by rw [hve]) (by rw [hve]))
    (.of_eq (by rw [hve]) (by rw [hve]) (by rw [hve]))
  refine ⟨_, n0, hexec, fun f hf => ?_, fun hf => ⟨roundDiv m.tick (periodOf d.set.rate), ?_,
    nearest_roundDiv _ (Int.natCast_pos.2 (periodOf_pos _))⟩, ?_, hr, hs⟩
  · rw [hn0, jamFrame, hf]
    rfl
  · rw [hn0, jamFrame, hf, Option.getD_none]
    exact Int.toNat_of_nonneg (Int.emod_nonneg _ (Int.natCast_pos.2 (dayOf_pos _)).ne')
  · rw [State.inner_pump, hve]

/-- A held re-jam changes no device's settings or current take, and no flight. -/
theorem State.holdTrigger_keeps (s : State) (i : Nat) (b : Bool) :
    (∀ j, ((s.holdTrigger i b).dev j).map (fun d => (d.set, d.live.current)) =
      (s.dev j).map fun d => (d.set, d.live.current)) ∧ (s.holdTrigger i b).radio = s.radio := by
  have hset : ∀ (x d : Device), s.dev i = some d → x.set = d.set → x.live.current = d.live.current →
      ∀ j, ((s.setDev i (some x)).dev j).map (fun d => (d.set, d.live.current)) =
        (s.dev j).map fun d => (d.set, d.live.current) := by
    intro x d hd h1 h2 j
    by_cases hj : j = i
    · subst hj
      rw [s.dev_setDev_same hd, hd, Option.map_some, Option.map_some, h1, h2]
    · rw [s.dev_setDev_ne hj]
  refine ⟨?_, State.holdTrigger_radio _ _ _⟩
  cases hd : s.dev i with
  | none =>
    intro j
    unfold State.holdTrigger
    simp only [hd]
  | some d =>
    by_cases hfirst : d.live.state = .tracked ∧ d.live.missedRejams = 0
    · rw [State.holdTrigger_first hd hfirst.1 hfirst.2]
      exact hset _ d hd rfl rfl
    by_cases hsecond : d.live.state = .tracked ∧ d.live.missedRejams = 1 ∧ b = true
    · obtain ⟨h1, h2, rfl⟩ := hsecond
      obtain ⟨t, ht⟩ : ∃ t, t = s.holdTrigger i true := ⟨_, rfl⟩
      rw [← ht]
      rw [State.holdTrigger_second hd h1 h2] at ht
      obtain ⟨hi, -⟩ := State.drifted_spec hd ht
      intro j
      rw [State.dev_congr (State.slots_of_inner hi)]
      exact hset (s.drifted d) d hd rfl rfl j
    · rw [State.holdTrigger_other hd b (by
        by_cases h : d.live.state = .tracked
        · refine .inr ⟨fun hm => hfirst ⟨h, hm⟩, ?_⟩
          by_cases hm : d.live.missedRejams = 1
          · exact .inr (by cases b with | false => rfl | true => exact absurd ⟨h, hm, rfl⟩ hsecond)
          · exact .inl hm
        · exact .inl h)]
      exact hset _ d hd rfl rfl

/-- A request that the arbiter begins is of a device that its class may be sent to. -/
theorem choose_judged (b : Nat) (m : Mark) (l : List Request) (s : State) (f : Transaction)
    (hflight : s.radio.flight = none) (hf : (State.choose s b m l).radio.flight = some f) :
    ∃ d, ((s.dev f.request.slot).map fun d => (d.set, d.live.current)) =
      some (d.set, d.live.current) ∧ judge f.request d = .take := by
  induction l generalizing s with
  | nil =>
    rw [State.choose, hflight] at hf
    cases hf
  | cons x l ih =>
    unfold State.choose at hf
    cases hd : s.dev x.slot with
    | none => simp only [hd] at hf; exact ih s hflight hf
    | some d =>
      simp only [hd] at hf
      cases hj : judge x d with
      | take =>
        simp only [hj] at hf
        have hreq : f.request = x := by
          rw [← Option.some.inj hf]
        exact ⟨d, by rw [hreq, hd]; rfl, by rw [hreq]; exact hj⟩
      | pass => simp only [hj] at hf; exact ih s hflight hf
      | hold =>
        simp only [hj] at hf
        obtain ⟨hkeep, hradio⟩ := State.holdTrigger_keeps { s with radio := s.radio.remove x } x.slot false
        obtain ⟨e, he, hje⟩ := ih _ (by rw [hradio]; exact hflight) hf
        exact ⟨e, (hkeep _).symm.trans he, hje⟩
      | discard => simp only [hj] at hf; exact ih { s with radio := s.radio.remove x } hflight hf

/-- Settles O29: what begins was judged on the device's settings and current take, which no re-jam held
before it has changed. -/
theorem quietDeviceNotJammed : Obligations.QuietDeviceNotJammed := by
  intro s t f d hexec hflight hf hd hquiet hcur
  have hnone : ∀ u : State, u.radio.flight = none → finish u ≠ .next t := by
    intro u hu h
    rw [← Host.Outcome.next.inj h, State.pump_radio, hu] at hf
    cases hf
  change finish _ = _ at hexec
  cases hb : s.radio.takeableSlot with
  | none =>
    simp only [hb] at hexec
    exact absurd hexec (hnone s hflight)
  | some b =>
    cases hm : s.radio.history.getLast? with
    | none =>
      simp only [hb, hm] at hexec
      exact absurd hexec (hnone s hflight)
    | some m =>
      simp only [hb, hm] at hexec
      rw [← Host.Outcome.next.inj hexec, State.pump_radio] at hf
      obtain ⟨e, he, hjudge⟩ := choose_judged b m _
        { s with radio := { s.radio with slotDue := none } } f hflight hf
      obtain ⟨x, hx, hxe⟩ := Option.map_eq_some_iff.1 he
      obtain rfl : d = x := Option.some.inj (hd.symm.trans hx)
      obtain ⟨hset, hcurrent⟩ := Prod.mk.inj hxe
      have hheld : e.heldBack = true := by simp [Device.heldBack, ← hset, hquiet, ← hcurrent, hcur]
      unfold judge at hjudge
      rw [hheld] at hjudge
      cases hc : f.request.cls with
      | poll => exact .inl rfl
      | display => exact .inr rfl
      | _ => simp [hc] at hjudge

/-! ### Echoes (R82) -/

/-- Settles O30: the window is open, and the history maps the number to the mark. -/
theorem echoAccepted : Obligations.EchoAccepted := by
  intro e f m s hf hecho htime hpacket hm hsent hnum huniq
  constructor
  · have hreply : f.packet.replyAddress = some e.address := by
      rcases hpacket with h | ⟨n, c, k, h⟩ <;> rw [h] <;> rfl
    have hover : s.slotOver f = false := decide_eq_false (Nat.not_le.2 htime)
    have hmark : s.radio.sentMark e.beacon = some m := by
      unfold Radio.sentMark
      cases hfind : s.radio.history.find? fun m => m.number = e.beacon && m.sent with
      | none =>
        have := List.find?_eq_none.1 hfind m hm
        simp [hnum, hsent] at this
      | some x =>
        have hx := List.find?_some hfind
        rw [Bool.and_eq_true, decide_eq_true_eq] at hx
        rw [huniq x (List.mem_of_find?_eq_some hfind) hx.1]
    have haccept : s.accepts f e true = some m := by
      unfold State.accepts
      rw [if_pos (by simp [hover, hreply, hecho]), hmark]
    obtain ⟨v, hv⟩ : ∃ v : State, v = { s with radio := { s.radio with
      flight := some { f with echo := some (e, m) } } } := ⟨_, rfl⟩
    have hexec : exec (.echoReceived e true) s = .next v.pump := by
      show finish _ = _
      simp only [hf, haccept, hv]
      rfl
    obtain ⟨hr, hs⟩ := quiet_pump (s := s) (u := v) (.of_eq (by rw [hv]) (by rw [hv]))
      (.of_eq (by rw [hv]) (by rw [hv]) (by rw [hv]))
    exact ⟨_, hexec, by rw [State.inner_pump, hv], hr, hs⟩
  · show finish _ = _
    have : s.accepts f e false = none := rfl
    simp only [hf, this]
    rfl

end Sys2Proof.Machine
end

section
/-!
SUPPORT and THEOREM. What a transaction's end hands to the tracking unit: O31 and O32.
-/

namespace Sys2Proof.Machine

/-! ### The end of a transaction (R83) -/

/-- The state with no transaction in flight. -/
def State.landed (s : State) : State := { s with radio := { s.radio with flight := none } }

theorem exec_transactionEnd {s : State} {f : Transaction} (hf : s.radio.flight = some f)
    (hdrop : f.dropped = false) (hover : f.start + 120000 ≤ s.houseTime) :
    exec .transactionEnd s = .next (s.landed.outcome f).pump := by
  show finish _ = _
  have h : s.slotOver f = true := decide_eq_true hover
  simp only [hf, h, hdrop, if_true]
  rfl

theorem State.inner_setDev {s t : State} (h : t.inner = s.inner) (i : Nat) (o : Option Device) :
    (t.setDev i o).inner = (s.setDev i o).inner := congrArg (fun y : State => y.setDev i o) h

theorem State.setDev_parts (s : State) (i : Nat) (o : Option Device) (x : TakeTable) (r : Radio) :
    { s.setDev i o with takes := x, radio := r } = { s with takes := x, radio := r }.setDev i o := rfl

/-- The request of an unconfirmed JAM returns, or gives way to the one that waits. -/
theorem State.requeue_landed {s : State} {q : Request} {after : Radio}
    (h : ((∃ x ∈ s.radio.requests, x.cls = q.cls ∧ x.slot = q.slot) ∧
        after = { s.radio with flight := none }) ∨
      ((∀ x ∈ s.radio.requests, ¬ (x.cls = q.cls ∧ x.slot = q.slot)) ∧
        after = { s.radio with
          flight := none
          requests := s.radio.requests ++ [{ q with age := s.radio.nextAge }]
          nextAge := s.radio.nextAge + 1 })) :
    s.landed.requeue q = { s with radio := after } := by
  unfold State.requeue Radio.requeue
  rcases h with ⟨hx, rfl⟩ | ⟨hx, rfl⟩
  · have : s.landed.radio.waits q.cls q.slot = true := Radio.waits_iff.2 hx
    rw [if_pos this]
    rfl
  · have : ¬ s.landed.radio.waits q.cls q.slot = true := fun hw => by
      obtain ⟨x, hm, hc⟩ := Radio.waits_iff.1 hw
      exact hx x hm hc
    rw [if_neg this]
    rfl

/-- The state a transaction that is not confirmed is handed in. -/
theorem State.outcome_unconfirmed {s : State} {f : Transaction} {a : Nat} {after : Radio}
    (h : (f.packet = .poll a ∧ after = { s.radio with flight := none }) ∨
      ((∃ n c k, f.packet = .jam a n c k) ∧
        (((∃ x ∈ s.radio.requests, x.cls = f.request.cls ∧ x.slot = f.request.slot) ∧
            after = { s.radio with flight := none }) ∨
          ((∀ x ∈ s.radio.requests, ¬ (x.cls = f.request.cls ∧ x.slot = f.request.slot)) ∧
            after = { s.radio with
              flight := none
              requests := s.radio.requests ++ [{ f.request with age := s.radio.nextAge }]
              nextAge := s.radio.nextAge + 1 })))) :
    (f.echo = none → s.landed.outcome f = { s with radio := after }.missedReply f.request.slot) ∧
    (∀ e m n c k, f.echo = some (e, m) → f.packet = .jam a n c k → m.number ≠ n →
      s.landed.outcome f = { s with radio := after }.echoed f.request.slot e m) := by
  constructor
  · intro hecho
    unfold State.outcome
    rcases h with ⟨hp, rfl⟩ | ⟨⟨n, c, k, hp⟩, h⟩
    · simp only [hp, hecho]
      rfl
    · simp only [hp, hecho, State.requeue_landed h]
  · intro e m n c k hecho hp hne
    unfold State.outcome
    rcases h with ⟨hp', -⟩ | ⟨-, h⟩
    · rw [hp] at hp'
      cases hp'
    · simp only [hp, hecho, State.requeue_landed h]
      rw [if_neg hne]

/-! ### Missed replies (R113) -/

section
variable {s : State} {i : Nat} {d : Device}

theorem State.missedReply_unmoved (hd : s.dev i = some d)
    (h : d.live.state = .unjammed ∨ d.live.state = .outOfRange) : s.missedReply i = s := by
  unfold State.missedReply
  simp only [hd]
  rw [if_neg (by rcases h with h | h <;> simp [h])]

theorem State.missedReply_counted (hd : s.dev i = some d) (h : d.live.state = .jamPending ∨
    d.live.state = .tracked ∨ d.live.state = .drifting) (hn : d.live.missedReplies < 2) :
    s.missedReply i = s.setDev i (some { d with live := { d.live with
      missedReplies := d.live.missedReplies + 1 } }) := by
  unfold State.missedReply
  simp only [hd]
  rw [if_pos h, if_neg (by omega), State.modLive_some hd]

theorem State.missedReply_third (hd : s.dev i = some d) (h : d.live.state = .jamPending ∨
    d.live.state = .tracked ∨ d.live.state = .drifting) (hn : d.live.missedReplies = 2) :
    s.missedReply i = (s.setDev i (some { d with live := { d.live with
      missedReplies := 3
      missedRejams := 0
      state := .outOfRange
      pollLeft := some (4 * d.set.poll) } })).noteDevice i (some d.live.state) (some .outOfRange)
        .missed := by
  unfold State.missedReply
  simp only [hd]
  rw [if_pos h, if_pos (by omega), State.modLive_some hd, State.modLive_setDev hd,
    State.enter_setDev hd (by rcases h with h | h | h <;> simp [h]), State.pollPeriod_lost _ _ rfl, hn]

/-! ### Claps (R107) -/

/-- A clap count that hands nothing to a record is noted alone. -/
theorem State.takeClaps_counted (hd : s.dev i = some d) {e : Echo}
    (h : d.set.kind ≠ .slate ∨ d.live.lastClap = none ∨ d.live.lastClap = some e.clapCount ∨
      ∀ ss ix, d.live.current ≠ .logged ss ix) (usable : Bool) : s.takeClaps i e usable =
      s.setDev i (some { d with live := { d.live with lastClap := some e.clapCount } }) := by
  obtain ⟨v, hv⟩ : ∃ v, v = s.setDev i (some { d with live := { d.live with
    lastClap := some e.clapCount } }) := ⟨_, rfl⟩
  have hcur : v.currentOf i = d.live.current := by
    rw [State.currentOf, hv, s.dev_setDev_same hd]
  unfold State.takeClaps
  simp only [hd]
  rw [State.modLive_some hd, ← hv]
  cases hl : d.live.lastClap with
  | none => rfl
  | some c =>
    dsimp only
    split
    · rename_i hc
      have hno : ∀ ss ix, d.live.current ≠ .logged ss ix := by
        rcases h with h | h | h | h
        · exact absurd hc.1 h
        · rw [hl] at h; cases h
        · exact absurd (Option.some.inj (hl.symm.trans h)) hc.2
        · exact h
      unfold State.handClaps
      rw [hcur]
      split
      · rename_i ss ix hlog
        exact absurd hlog (hno ss ix)
      · rfl
    · rfl

theorem State.replyHandling_eq (hd : s.dev i = some d) (e : Echo) (m : Mark) :
    s.replyHandling i e m = s.setDev i (some { d with live := { d.live with
      missedReplies := 0, age := e.age + s.radio.entriesAfter m.number } }) :=
  State.modLive_some hd _

end

/-- Settles O31: each outcome of an unconfirmed transaction, in the state its request returned to. -/
theorem missedReplyCounted : Obligations.MissedReplyCounted := by
  intro f a d after s hf hdrop hover hd hslot hafter
  have hexec := exec_transactionEnd hf hdrop hover
  obtain ⟨hmiss, hecho⟩ := State.outcome_unconfirmed hafter
  obtain ⟨w, hw⟩ : ∃ w : State, w = { s with radio := after } := ⟨_, rfl⟩
  have hwd : w.dev f.request.slot = some d := by rw [hw]; exact hd
  have hwn : NoReply s w := .of_eq (by rw [hw]) (by rw [hw])
  have hwm : Mum s w := .of_eq (by rw [hw]) (by rw [hw]) (by rw [hw])
  rw [← hw] at hmiss hecho
  refine ⟨fun h0 hst => ?_, fun h0 hst => ⟨fun hlt => ?_, fun h2 => ?_⟩,
    fun e m n c k he hp hne hjam hout hcur => ?_⟩
  · rw [hmiss h0, State.missedReply_unmoved hwd hst] at hexec
    obtain ⟨hr, hs⟩ := quiet_pump hwn hwm
    exact ⟨_, hexec, by rw [State.inner_pump, hw], hr, hs⟩
  · rw [hmiss h0, State.missedReply_counted hwd hst hlt] at hexec
    obtain ⟨hr, hs⟩ := quiet_pump (s := s) (u := w.setDev f.request.slot _)
      (hwn.trans (.of_eq rfl rfl)) (hwm.trans (Mum.setDev _ _ _))
    exact ⟨_, hexec, by rw [State.inner_pump, hw], hr, hs⟩
  · rw [hmiss h0, State.missedReply_third hwd hst h2] at hexec
    obtain ⟨v, hv⟩ : ∃ v, v = w.setDev f.request.slot (some { d with live := { d.live with
      missedReplies := 3
      missedRejams := 0
      state := .outOfRange
      pollLeft := some (4 * d.set.poll) } }) := ⟨_, rfl⟩
    rw [← hv] at hexec
    have hraised := v.raised_notify 0x45 [fByte f.request.slot, fByte d.live.state.code, fByte 5,
      fTick v.houseTime, fByte 3, fByte 0, fByte 0, fByte 0]
    have hvt : v.houseTime = s.houseTime := by rw [hv, hw]; rfl
    rw [hvt] at hraised
    have hnote : v.noteDevice f.request.slot (some d.live.state) (some .outOfRange) .missed =
        v.notify 0x45 [fByte f.request.slot, fByte d.live.state.code, fByte 5,
          fTick s.houseTime, fByte 3, fByte 0, fByte 0, fByte 0] := by rw [← hvt]; rfl
    rw [hnote] at hexec
    obtain ⟨hr, hs⟩ := raised_pump (s := s) (u := v) (n := 0x45) (b := [fByte f.request.slot,
        fByte d.live.state.code, fByte 5, fTick s.houseTime, fByte 3, fByte 0, fByte 0, fByte 0])
      (hwn.trans (.of_eq (by rw [hv]; rfl) (by rw [hv]; rfl))) (hwm.trans (hv ▸ Mum.setDev _ _ _))
    exact ⟨_, hexec, by rw [State.inner_pump, State.inner_notify, hv, hw], hr, hs⟩
  · obtain ⟨x, hx⟩ : ∃ x : Device, x = { d with live := { d.live with
      missedReplies := 0, age := e.age + s.radio.entriesAfter m.number } } := ⟨_, rfl⟩
    have hhist : w.radio.entriesAfter m.number = s.radio.entriesAfter m.number := by
      have : after.history = s.radio.history := by
        rcases hafter with ⟨-, h⟩ | ⟨-, ⟨-, h⟩ | ⟨-, h⟩⟩ <;> rw [h]
      rw [hw]
      simp only [Radio.entriesAfter, this]
    have hechoed : w.echoed f.request.slot e m = w.setDev f.request.slot (some { x with live :=
        { x.live with lastClap := some e.clapCount } }) := by
      have hmeas : w.measures d e m = none := by
        unfold State.measures
        simp only [hjam]
      unfold State.echoed
      simp only [hwd, hmeas, State.replyHandling_eq hwd, hhist, ← hx, w.dev_setDev_same hwd]
      rw [if_neg hout, State.takeClaps_counted (w.dev_setDev_same hwd _) (.inr (.inr (.inr (by
        rw [hx]; exact hcur)))), State.setDev_setDev]
    rw [hecho e m n c k he hp hne, hechoed] at hexec
    obtain ⟨hr, hs⟩ := quiet_pump (s := s) (u := w.setDev f.request.slot _)
      (hwn.trans (.of_eq rfl rfl)) (hwm.trans (Mum.setDev _ _ _))
    exact ⟨_, hexec, by rw [State.inner_pump, hw, hx], hr, hs⟩

/-! ### Confirmed jams (R101, R106) -/

/-- The record of a device after the reply and the jam, before its new state. -/
def Device.rejammed (d : Device) (e : Echo) (m : Mark) (age frame : Nat) : Device :=
  ⟨d.set, ({ d.live with missedReplies := 0, age := age } : Live).jammed m.tick frame e.age
    d.set.periodic⟩

/-- A participant's segments after a jam, as section 6.4 lists the cases. -/
theorem Participant.rejam_eq (p : Participant) (g : Segment) : p.rejam g =
    if p.segments = [] then { p with segments := [g], uncertain := true, startFrame := some g.frame }
    else if p.segments.length = 1 then { p with segments := p.segments ++ [g], rejammed := true }
    else { p with segments := p.segments.take 1 ++ [g], uncertain := true } := by
  unfold Participant.rejam
  cases hs : p.segments with
  | nil => rfl
  | cons a l =>
    cases l with
    | nil => rfl
    | cons b l => simp

/-- The periodic countdown after a jam. -/
theorem Device.rejammed_live (d : Device) (e : Echo) (m : Mark) (age frame : Nat) :
    (d.rejammed e m age frame).live = { d.live with
      jam := some ((m.tick : Int), frame)
      offset := some 0
      tMeas := some (m.tick : Int)
      predicted := 0
      anchorAge := some e.age
      baseline := some (0, (m.tick : Int))
      lastResidual := 0
      missedRejams := 0
      missedReplies := 0
      held := false
      age := age
      periodicLeft := if d.set.periodic = 0 then none else some (30 * d.set.periodic) } := rfl

/-- What a confirmed jam leaves before the claps are looked at. -/
theorem State.confirmJam_spec {s : State} {i frame : Nat} {d : Device} {e : Echo} {m : Mark}
    (hd : s.dev i = some d) {t : State}
    (ht : t = (s.replyHandling i e m).confirmJam i e m.tick frame) :
    ∃ x left, x = { d with live := { (d.rejammed e m (e.age + s.radio.entriesAfter m.number) frame).live with
        state := .tracked, pollLeft := left } } ∧
      (d.live.state = .tracked → left = d.live.pollLeft) ∧
      (d.live.state ≠ .tracked → left = some 1 ∨ left = some d.set.poll) ∧ t.dev i = some x ∧
      t.inner = ({ s with takes := t.takes, radio := s.radio.satisfied i }.setDev i (some x)).inner ∧
      NoReply s t ∧
      ((∀ ss ix, d.live.current ≠ .logged ss ix) → t.takes = s.takes) ∧
      (∀ ss ix, d.live.current = .logged ss ix →
        t.takes.queue = s.takes.queue ∧ EntriesKept s t ss ix ∧
        ∀ y, s.findTake ss ix = some y → y.copy.state = .opened → t.findTake ss ix = some { y with
          copy := y.copy.modEntry i fun p => p.rejam ⟨m.tick, frame, d.live.rate, 0⟩ }) ∧
      Raised s t 0x45 [fByte i, fByte d.live.state.code, fByte 3, fTick s.houseTime,
        fByte 1, fByte 1, fTick m.tick, fByte 1, fFrame frame, fByte 0] := by
  obtain ⟨g, hg⟩ : ∃ g, g = Segment.mk m.tick frame d.live.rate 0 := ⟨_, rfl⟩
  obtain ⟨x1, hx1⟩ : ∃ x1, x1 = d.rejammed e m (e.age + s.radio.entriesAfter m.number) frame :=
    ⟨_, rfl⟩
  have hstate : x1.live.state = d.live.state := by rw [hx1]; rfl
  obtain ⟨b, hb⟩ : ∃ b : State, b = { s with radio := s.radio.satisfied i } := ⟨_, rfl⟩
  obtain ⟨v, hv⟩ : ∃ v, v = (b.setDev i (some x1)).writeEntry i fun p => p.rejam g := ⟨_, rfl⟩
  have hve : v = { b.setDev i (some x1) with takes := v.takes } := by
    rw [hv]; exact State.writeEntry_eq _ _ _
  have hbd : b.dev i = some d := by rw [hb]; exact hd
  have hcur : (b.setDev i (some x1)).currentOf i = d.live.current := by
    rw [State.currentOf, b.dev_setDev_same hbd]
    rw [hx1]
    rfl
  obtain ⟨y, hy⟩ : ∃ y : State, y = { s with takes := v.takes, radio := s.radio.satisfied i } := ⟨_, rfl⟩
  have hvy : v = y.setDev i (some x1) := by
    rw [hve, hy, hb]
    rfl
  have hyd : y.dev i = some d := by rw [hy]; exact hd
  obtain ⟨left, hleft⟩ : ∃ left, left = if d.live.state = .tracked then d.live.pollLeft else
      y.pollPeriod { x1 with live := { x1.live with state := .tracked } } := ⟨_, rfl⟩
  obtain ⟨x, hx⟩ : ∃ x : Device, x = { x1 with live := { x1.live with
    state := .tracked, pollLeft := left } } := ⟨_, rfl⟩
  have henter : v.enter i .tracked = y.setDev i (some x) := by
    by_cases hst : d.live.state = .tracked
    · rw [if_pos hst] at hleft
      have hxx : x = x1 := by
        rw [hx, hleft, hx1]
        rw [Device.rejammed_live]
        rw [← hst]
        rfl
      rw [hvy, State.enter_same (y.dev_setDev_same hyd _) (hstate.trans hst), hxx]
    · rw [if_neg hst] at hleft
      rw [hvy, State.enter_setDev hyd (by rw [hstate]; exact hst), hx, hleft]
  have hconf : (s.replyHandling i e m).confirmJam i e m.tick frame =
      (y.setDev i (some x)).noteDevice i (some d.live.state) (some .tracked) .jam
        (some ((m.tick : Int), frame)) := by
    unfold State.confirmJam
    rw [State.replyHandling_eq hd]
    simp only [s.dev_setDev_same hd]
    rw [State.modLive_setDev hd, ← henter, hv, hg, hx1, hb]
    rfl
  rw [hconf] at ht
  have hty : t.inner = (y.setDev i (some x)).inner := by rw [ht]; exact State.inner_notify _ _ _
  have htakes : t.takes = v.takes := by
    rw [ht, State.noteDevice_takes]
    rw [hy]
    rfl
  refine ⟨x, left, by rw [hx, hx1]; rfl, fun h => by rw [hleft, if_pos h], fun h => ?_, ?_, ?_, ?_,
    fun hno => ?_, fun ss ix hlog => ?_, ?_⟩
  · rw [hleft, if_neg h, y.pollPeriod_polled _ (.inr (.inl rfl))]
    have hset : x1.set = d.set := by rw [hx1]; rfl
    dsimp only
    rw [hset]
    split
    · exact .inl rfl
    · exact .inr rfl
  · rw [State.dev_congr (State.slots_of_inner hty), y.dev_setDev_same hyd]
  · rw [hty, htakes, hy]
  · rw [ht]
    exact (NoReply.of_eq (by rw [hy]; rfl) (by rw [hy]; rfl)).trans (noReply_notify _ _ _)
  · rw [htakes, hv, State.writeEntry_free (by rw [hcur]; exact hno), hb]
    rfl
  · rw [← hcur] at hlog
    obtain ⟨hk, hq⟩ := State.writeEntry_kept hlog fun p => p.rejam g
    rw [← hv] at hk hq
    have hbt : (b.setDev i (some x1)).takes = s.takes := by rw [hb]; rfl
    refine ⟨by rw [htakes, hq, hbt], ?_, fun z hz ho => ?_⟩
    · unfold EntriesKept at hk ⊢
      rw [htakes]
      rw [hbt] at hk
      exact hk
    · rw [State.findTake_congr (s := v) (by rw [htakes]), hv, ← hg]
      exact State.writeEntry_found hlog ((State.findTake_congr (by rw [hbt]) ss ix).trans hz) ho _
  · rw [ht]
    have hm : Mum s (y.setDev i (some x)) := .of_eq (by rw [hy]; rfl) (by rw [hy]; rfl) (by rw [hy]; rfl)
    have ht' : (y.setDev i (some x)).houseTime = s.houseTime := by rw [hy]; rfl
    have := hm.raised ((y.setDev i (some x)).raised_notify 0x45 [fByte i, fByte d.live.state.code,
      fByte 3, fTick s.houseTime, fByte 1, fByte 1, fTick m.tick, fByte 1, fFrame frame, fByte 0])
    rw [← ht'] at this ⊢
    exact this

theorem Radio.satisfied_landed (s : State) (i : Nat) : s.landed.radio.satisfied i = { s.radio with
    flight := none
    requests := s.radio.requests.filter fun x => ¬ (x.slot = i ∧
      (x.cls = ReqClass.overdue ∨ x.cls = ReqClass.drift ∨ x.cls = ReqClass.periodic)) } := by
  unfold Radio.satisfied
  have : (s.landed.radio.requests.filter fun x =>
      !(x.slot = i && (x.cls = .overdue || x.cls = .drift || x.cls = .periodic))) =
      s.radio.requests.filter fun x => ¬ (x.slot = i ∧
        (x.cls = ReqClass.overdue ∨ x.cls = ReqClass.drift ∨ x.cls = ReqClass.periodic)) := by
    refine List.filter_congr fun x _ => ?_
    by_cases h : x.slot = i
    · cases x.cls <;> simp [h]
    · simp [h]
  rw [this]
  rfl

/-- Settles O32: the reply, the jam and its notice, then the clap count. -/
theorem jamConfirmed : Obligations.JamConfirmed := by
  intro f a n c e d s hf hp hecho hnum hdrop hover hd hslot hclap
  have hexec := exec_transactionEnd hf hdrop hover
  have hout : s.landed.outcome f = s.landed.confirmed f.request.slot e f.mark f.frame := by
    unfold State.outcome
    simp only [hp, hecho]
    rw [if_pos hnum]
  obtain ⟨v, hv⟩ : ∃ v, v = (s.landed.replyHandling f.request.slot e f.mark).confirmJam f.request.slot e
    f.mark.tick f.frame := ⟨_, rfl⟩
  obtain ⟨x, left, hx, hl1, hl2, hvd, hvi, hvn, htk1, htk2, hvr⟩ :=
    State.confirmJam_spec (s := s.landed) hd hv
  have hage : s.landed.radio.entriesAfter f.mark.number = s.radio.entriesAfter n := by rw [hnum]; rfl
  rw [hage, Device.rejammed_live] at hx
  obtain ⟨t, ht⟩ : ∃ t, t = v.setDev f.request.slot (some { x with live := { x.live with
    lastClap := some e.clapCount } }) := ⟨_, rfl⟩
  have hconf : s.landed.confirmed f.request.slot e f.mark f.frame = t := by
    rw [State.confirmed, ← hv, ht]
    exact State.takeClaps_counted hvd (by rw [hx]; exact hclap) false
  rw [hout, hconf] at hexec
  have hln : NoReply s s.landed := .of_eq rfl rfl
  have hlm : Mum s s.landed := .of_eq rfl rfl rfl
  have htt : t.pump.takes = v.takes := by rw [State.pump_takes, ht]; rfl
  refine ⟨_, left, hexec, hl1, hl2, ?_, fun hno => ?_, fun ss ix new hlog hnew => ?_, ?_, ?_⟩
  · rw [State.inner_pump, htt, ht, State.inner_setDev hvi, ← Radio.satisfied_landed, State.setDev_setDev,
      hx]
    rfl
  · rw [htt]
    exact htk1 hno
  · obtain ⟨hq, hk, hfound⟩ := htk2 ss ix hlog
    refine ⟨by rw [htt]; exact hq, by rw [EntriesKept, htt]; exact hk, fun y hy ho => ?_⟩
    have hwhole := hfound y hy ho
    have hpart : (y.copy.modEntry f.request.slot fun p => p.rejam ⟨f.mark.tick, f.frame, d.live.rate, 0⟩) =
        { y.copy with
          participants := y.copy.participants.map (fun p =>
            if p.slot ≠ f.request.slot then p
            else if p.segments = [] then
              { p with segments := [new], uncertain := true, startFrame := some f.frame }
            else if p.segments.length = 1 then
              { p with segments := p.segments ++ [new], rejammed := true }
            else { p with segments := p.segments.take 1 ++ [new], uncertain := true })
          timeUncertain := y.copy.timeUncertain || (y.copy.participants.map (fun p =>
            if p.slot ≠ f.request.slot then p
            else if p.segments = [] then
              { p with segments := [new], uncertain := true, startFrame := some f.frame }
            else if p.segments.length = 1 then
              { p with segments := p.segments ++ [new], rejammed := true }
            else { p with segments := p.segments.take 1 ++ [new], uncertain := true })).any
              Participant.uncertain } := by
      have hmap : (fun p : Participant => if p.slot = f.request.slot then
          p.rejam ⟨f.mark.tick, f.frame, d.live.rate, 0⟩ else p) = fun p =>
            if p.slot ≠ f.request.slot then p
            else if p.segments = [] then
              { p with segments := [new], uncertain := true, startFrame := some f.frame }
            else if p.segments.length = 1 then
              { p with segments := p.segments ++ [new], rejammed := true }
            else { p with segments := p.segments.take 1 ++ [new], uncertain := true } := by
        funext p
        rw [Participant.rejam_eq, ← hnew, ite_not]
        rw [show new.frame = f.frame by rw [hnew]]
      rw [TakeRecord.modEntry, hmap]
    refine ⟨_, _, by
      rw [State.findTake_congr (s := v) (congrArg TakeTable.entries htt), hwhole, hpart], rfl, ?_⟩
    rw [Bool.or_eq_true, List.any_eq_true]
  · exact ((hln.trans hvn).trans (.of_eq (by rw [ht]; rfl) (by rw [ht]; rfl))).trans (noReply_pump _)
  · exact (hlm.raised hvr).silent ((Mum.of_eq (by rw [ht]; rfl) (by rw [ht]; rfl)
      (by rw [ht]; rfl)).silent.trans (silent_pump _))

end Sys2Proof.Machine
end

section
/-!
SUPPORT and THEOREM. Measurements, claps and returns: O33.
-/

namespace Sys2Proof.Machine

/-! ### Measurements (R102 to R105) -/

/-- A device after the reply handling of R102. -/
def Device.replied (d : Device) (age : Nat) : Device :=
  ⟨d.set, { d.live with missedReplies := 0, age := age }⟩

/-- A device after a measurement over it. -/
def Device.gauged (d : Device) (age : Nat) (o b : Int) (echoAge : Nat) : Device :=
  ⟨d.set, (d.replied age).live.measured o b echoAge⟩

/-- An entry's latest segment after a measurement. -/
def Participant.gauged (p : Participant) (l : Live) : Participant :=
  { p with segments := modLast (fun g => { g with rate := l.rate, residual := l.lastResidual }) p.segments }

/-- The offset an echo measures over a segment. -/
theorem measuredOffset_nearest (code : Nat) (e : Echo) (b j : Int) :
    Nearest (measuredOffset (periodOf code) e b j)
      (((e.frames * 65536 + e.phase) * periodOf code : Nat) - (b - j) * 65536) 65536 := by
  have h := nearest_roundDiv (echoTicks (periodOf code) e.frames e.phase - (b - j) * 65536)
    (b := 65536) (by decide)
  rw [measuredOffset]
  rw [echoTicks] at h ⊢
  push_cast at h ⊢
  exact h

/-- The rate a later mark measures over a baseline. -/
theorem measuredRate_later {l : Live} {o b o1 b1 : Int} (hl : l.baseline = some (o1, b1)) (h : b1 < b) :
    measuredRate l o b = (max (-10000) (min 10000 (roundDiv ((o - o1) * 100000000) (b - b1))),
      decide (roundDiv ((o - o1) * 100000000) (b - b1) < -10000 ∨
        10000 < roundDiv ((o - o1) * 100000000) (b - b1))) := by
  unfold measuredRate
  simp only [hl]
  rw [if_pos h, clamp_eq (by decide)]
  rfl

/-- The record of a device after a measurement over a baseline. -/
theorem Device.gauged_live {d : Device} {o b o1 b1 : Int} (age echoAge : Nat)
    (hl : d.live.baseline = some (o1, b1)) (h : b1 < b) : (d.gauged age o b echoAge).live = { d.live with
      missedReplies := 0
      age := age
      rate := max (-10000) (min 10000 (roundDiv ((o - o1) * 100000000) (b - b1)))
      rateLimited := decide (roundDiv ((o - o1) * 100000000) (b - b1) < -10000 ∨
        10000 < roundDiv ((o - o1) * 100000000) (b - b1))
      lastResidual := (o - roundDiv d.live.predicted 1000).natAbs
      offset := some o
      predicted := 1000 * o
      tMeas := some b
      anchorAge := some echoAge
      baseline := some (o, b)
      hasMeas := true } := by
  have hb : (d.replied age).live.baseline = some (o1, b1) := hl
  rw [Device.gauged, Live.measured, measuredRate_later hb h]
  rfl

theorem modLast_eq (f : Segment → Segment) (l : List Segment) :
    modLast f l = l.dropLast ++ (l.getLast?.map f).toList := by
  induction l with
  | nil => rfl
  | cons a l ih =>
    cases l with
    | nil => rfl
    | cons b l =>
      rw [modLast, ih]
      · rfl
      · nofun

section
variable {s : State} {i : Nat} {d : Device} {e : Echo} {m : Mark}

/-- An echo over a segment, naming a mark since the last change of time, is measured. -/
theorem State.echoed_measured {j : Int} {n0 : Nat} (hd : s.dev i = some d)
    (hjam : d.live.jam = some (j, n0)) (hfresh : s.radio.entriesAfter m.number < s.marks)
    (hj : j ≤ m.tick) {x : Device} {o : Int}
    (ho : o = measuredOffset (periodOf d.set.rate) e m.tick j)
    (hx : x = d.gauged (e.age + s.radio.entriesAfter m.number) o m.tick e.age)
    {v : State} (hv : v = ((s.setDev i (some x)).writeEntry i fun p => p.gauged x.live).takeClaps i e true) :
    s.echoed i e m = if d.live.state = .outOfRange then v.returnFrom i (some o) else v := by
  have hstale : s.stale m = false := decide_eq_false (by omega)
  have hmeas : s.measures d e m = some o := by
    unfold State.measures
    simp only [hjam, hstale]
    rw [if_pos (by simp [hj]), ho]
  unfold State.echoed
  simp only [hd, hmeas, State.replyHandling_eq hd, s.dev_setDev_same hd, hstale, Bool.not_false]
  have htake : (s.setDev i (some (d.replied (e.age + s.radio.entriesAfter m.number)))).takeMeasurement i
      (d.replied (e.age + s.radio.entriesAfter m.number)) o e m =
      (s.setDev i (some x)).writeEntry i fun p => p.gauged x.live := by
    unfold State.takeMeasurement
    dsimp only
    rw [State.modLive_setDev hd, hx]
    rfl
  rw [hv, ← htake]
  rfl

/-- An echo of a device with no segment is a reply alone. -/
theorem State.echoed_unmeasured (hd : s.dev i = some d) (hjam : d.live.jam = none)
    (hout : d.live.state = .outOfRange) : s.echoed i e m =
      (((s.setDev i (some (d.replied (e.age + s.radio.entriesAfter m.number)))).takeClaps i e
        (!s.stale m)).returnFrom i none) := by
  have hmeas : s.measures d e m = none := by
    unfold State.measures
    simp only [hjam]
  unfold State.echoed
  simp only [hd, hmeas, State.replyHandling_eq hd, s.dev_setDev_same hd]
  rw [if_pos hout]
  rfl

/-! ### Returns from OUT_OF_RANGE (R114) -/

/-- The device within its tolerance is TRACKED again. -/
theorem State.returnFrom_near {o : Int} (hd : s.dev i = some d) (hout : d.live.state = .outOfRange)
    (h : o.natAbs < d.toleranceTicks) : s.returnFrom i (some o) =
      (s.setDev i (some { d with live := { d.live with
        state := .tracked
        pollLeft := s.pollPeriod { d with live := { d.live with state := .tracked } } } })).noteDevice i
          (some .outOfRange) (some .tracked) .back none (some o) := by
  unfold State.returnFrom
  simp only [hd]
  rw [if_pos (by simp [h]), State.enter_eq hd (by rw [hout]; nofun)]

/-- Past it, or with no measurement, it waits for a jam. -/
theorem State.returnFrom_far {o : Option Int} (hd : s.dev i = some d)
    (hout : d.live.state = .outOfRange) (hcur : d.live.current = .none)
    (h : ∀ x, o = some x → d.toleranceTicks ≤ x.natAbs) : s.returnFrom i o =
      ((s.setDev i (some { d with live := { d.live with
        state := .jamPending
        pollLeft := s.pollPeriod { d with live := { d.live with state := .jamPending } } } })).noteDevice i
          (some .outOfRange) (some .jamPending) .back none o).post .drift i := by
  unfold State.returnFrom
  simp only [hd]
  rw [if_neg (by
    cases o with
    | none => simp
    | some x => have := h x rfl; simp; omega), State.enter_eq hd (by rw [hout]; nofun)]
  refine State.postOrHold_free (d := { d with live := { d.live with
    state := .jamPending
    pollLeft := s.pollPeriod { d with live := { d.live with state := .jamPending } } } }) ?_ ?_ _ _
  · rw [State.dev_congr (State.noteDevice_slots _ _ _ _ _ _ _), s.dev_setDev_same hd]
  · simp [Device.heldBack, hcur]

end

/-- What a device that came back leaves: its record, its poll countdown and the notice. -/
theorem returned_sent {s v : State} {i : Nat} {x : Device} {new : DevState} {o : Option Int}
    {rolling : Prop} (hroll : rolling ↔ x.set.kind = .slate ∧
      ∃ u, x.set.unit = some u ∧ (s.unit u).rolling = true)
    (hnew : new = .jamPending ∨ new = .tracked) {d : Device} (hd : s.dev i = some d)
    (hv : v = (s.setDev i (some { x with live := { x.live with
      state := new
      pollLeft := (s.setDev i (some x)).pollPeriod { x with live := { x.live with state := new } } } })).noteDevice i (some .outOfRange) (some new)
        .back none o) :
    v.inner = (s.setDev i (some { x with live := { x.live with
      state := new, pollLeft := v.currentPoll i } })).inner ∧
    (rolling → v.currentPoll i = some 1) ∧ (¬ rolling → v.currentPoll i = some x.set.poll) ∧
    NoReply s v ∧ Raised s v 0x45 ([fByte i, fByte 5, fByte new.code, fTick s.houseTime, fByte 4, fByte 0,
      fByte 0] ++ fOpt1 fSigned o) := by
  obtain ⟨p, hp⟩ : ∃ p, p = (s.setDev i (some x)).pollPeriod { x with live := { x.live with
    state := new } } := ⟨_, rfl⟩
  rw [← hp] at hv
  have hvi : v.inner = (s.setDev i (some { x with live := { x.live with
      state := new, pollLeft := p } })).inner := by
    rw [hv]; exact State.inner_notify _ _ _
  have hpoll : v.currentPoll i = p := by
    rw [State.currentPoll, State.dev_congr (State.slots_of_inner hvi), s.dev_setDev_same hd]
    rfl
  have hperiod : p = some (if x.set.kind = .slate ∧ ∃ u, x.set.unit = some u ∧
      (s.unit u).rolling = true then 1 else x.set.poll) := by
    rw [hp]
    exact State.pollPeriod_polled _ _ (hnew.imp id .inl)
  rw [hpoll]
  refine ⟨hvi, fun hr => ?_, fun hr => ?_, ?_, ?_⟩
  · rw [hperiod, if_pos (hroll.1 hr)]
  · rw [hperiod, if_neg fun h => hr (hroll.2 h)]
  · rw [hv]
    exact (NoReply.of_eq (s := s) rfl rfl).trans (noReply_notify _ _ _)
  · rw [hv]
    exact (Mum.setDev s i _).raised (State.raised_notify _ _ _)

/-! ### Claps handed to a record (R107, R131) -/

theorem State.handClaps_logged {s : State} {i n ss ix : Nat} {place : Option (Int × Nat)} {x : Entry}
    (hcur : s.currentOf i = .logged ss ix) (hx : s.findTake ss ix = some x) :
    s.handClaps i n place = (s.modTake ss ix fun y => y.mod fun r => r.addClaps i n place).notify 0x49
      ([fByte x.copy.unit, fSession ss, fIndex ix, fByte i, fCount n,
        fCount (x.copy.addClaps i n place).clapTotal] ++
        fOpt1 fTick ((x.copy.keptPlace place).map Prod.fst) ++
        fOpt1 fFrame ((x.copy.keptPlace place).map Prod.snd)) := by
  unfold State.handClaps
  simp only [hcur, hx]

theorem State.takeClaps_new {s : State} {i c : Nat} {d : Device} {e : Echo} (hd : s.dev i = some d)
    (hk : d.set.kind = .slate) (hl : d.live.lastClap = some c) (hne : c ≠ e.clapCount)
    (usable : Bool) : s.takeClaps i e usable =
      (s.setDev i (some { d with live := { d.live with lastClap := some e.clapCount } })).handClaps i
        ((((e.clapCount : Int) - c) % 256).toNat) (d.clapPlace e usable) := by
  unfold State.takeClaps
  simp only [hd, hl]
  rw [State.modLive_some hd, if_pos ⟨hk, hne⟩]

/-- The claps of a record after new ones: the position is kept while the list has room. -/
theorem TakeRecord.addClaps_claps (r : TakeRecord) (i n : Nat) (place : Option (Int × Nat)) :
    (r.addClaps i n place).claps =
      r.claps ++ ((r.keptPlace place).map fun p => Clap.mk i p.1 p.2).toList := by
  unfold TakeRecord.addClaps TakeRecord.keptPlace
  cases place with
  | none => simp
  | some p =>
    by_cases h : r.claps.length < 4
    · simp [h]
    · simp [h]

/-! ### The end of an answered POLL (R83) -/

theorem exec_polled {s : State} {f : Transaction} {a : Nat} {e : Echo} {m : Mark}
    (hf : s.radio.flight = some f) (hp : f.packet = .poll a) (he : f.echo = some (e, m))
    (hdrop : f.dropped = false) (hover : f.start + 120000 ≤ s.houseTime) :
    exec .transactionEnd s = .next (s.landed.echoed f.request.slot e m).pump := by
  rw [exec_transactionEnd hf hdrop hover]
  unfold State.outcome
  simp only [hp, he]

/-- A measurement in no logged take, and claps that are handed to no record. -/
theorem State.gauged_free {s : State} {i : Nat} {d x : Device} {e : Echo} (hd : s.dev i = some d)
    (hcur : ∀ ss ix, x.live.current ≠ .logged ss ix) :
    ((s.setDev i (some x)).writeEntry i fun p => p.gauged x.live).takeClaps i e true =
      s.setDev i (some { x with live := { x.live with lastClap := some e.clapCount } }) := by
  have hdev := s.dev_setDev_same hd (some x)
  rw [State.writeEntry_free (by rw [State.currentOf, hdev]; exact hcur),
    State.takeClaps_counted hdev (.inr (.inr (.inr hcur))), State.setDev_setDev]

/-- A returned device, sent on: what its record and the notice are at the end of the step. -/
theorem returned_pump {s v : State} {i : Nat} {x : Device} {new : DevState} {b : List Field} {p : Nat}
    {rolling : Prop} (h : v.inner = (s.landed.setDev i (some { x with live := { x.live with
      state := new, pollLeft := v.currentPoll i } })).inner ∧
      (rolling → v.currentPoll i = some 1) ∧ (¬ rolling → v.currentPoll i = some p) ∧
      NoReply s.landed v ∧ Raised s.landed v 0x45 b) :
    v.pump.inner = ({ s with radio := { s.radio with flight := none } }.setDev i
        (some { x with live := { x.live with state := new, pollLeft := v.pump.currentPoll i } })).inner ∧
      (rolling → v.pump.currentPoll i = some 1) ∧ (¬ rolling → v.pump.currentPoll i = some p) ∧
      NoReply s v.pump ∧ Raised s v.pump 0x45 b := by
  obtain ⟨h1, h2, h3, h4, h5⟩ := h
  have hpoll : v.pump.currentPoll i = v.currentPoll i := by
    rw [State.currentPoll, State.dev_congr v.pump_slots]
    rfl
  rw [hpoll, State.inner_pump]
  exact ⟨h1, h2, h3, ((NoReply.of_eq (t := s.landed) rfl rfl).trans h4).trans (noReply_pump v),
    ((Mum.of_eq (s := s) (t := s.landed) rfl rfl rfl).raised h5).silent (silent_pump v)⟩

/-- The same with a DRIFT request posted after it. -/
theorem returned_post {s v : State} {i : Nat} {x : Device} {new : DevState} {b : List Field} {p : Nat}
    {rolling : Prop} (h : v.inner = (s.landed.setDev i (some { x with live := { x.live with
      state := new, pollLeft := v.currentPoll i } })).inner ∧
      (rolling → v.currentPoll i = some 1) ∧ (¬ rolling → v.currentPoll i = some p) ∧
      NoReply s.landed v ∧ Raised s.landed v 0x45 b) {t : State} (ht : t = (v.post .drift i).pump) :
    Posted { s.radio with flight := none } t.radio .drift i none ∧
      t.inner = ({ s with radio := t.radio }.setDev i
        (some { x with live := { x.live with state := new, pollLeft := t.currentPoll i } })).inner ∧
      (rolling → t.currentPoll i = some 1) ∧ (¬ rolling → t.currentPoll i = some p) ∧
      NoReply s t ∧ Raised s t 0x45 b := by
  obtain ⟨h1, h2, h3, h4, h5⟩ := h
  have hpoll : t.currentPoll i = v.currentPoll i := by
    rw [ht, State.currentPoll, State.dev_congr (State.pump_slots _)]
    rfl
  have hradio : t.radio = v.radio.post .drift i none := by
    rw [ht, State.pump_radio]
    rfl
  have hv : v.radio = { s.radio with flight := none } := State.radio_of_inner h1
  rw [hpoll]
  refine ⟨by rw [hradio, hv]; exact Radio.post_posted _ _ _ _, ?_, h2, h3, ?_, ?_⟩
  · rw [hradio, ht, State.inner_pump]
    exact congrArg (fun y : State => { y with radio := v.radio.post .drift i none }) h1
  · rw [ht]
    exact (((NoReply.of_eq (t := s.landed) rfl rfl).trans h4).trans (.of_eq rfl rfl)).trans
      (noReply_pump _)
  · rw [ht]
    exact ((Mum.of_eq (s := s) (t := s.landed) rfl rfl rfl).raised h5).silent
      ((Mum.of_eq (s := v) (t := v.post .drift i) rfl rfl rfl).silent.trans (silent_pump _))

/-- New claps of a slate in an open logged take, with the measurement of their echo. -/
theorem State.gauged_logged {s : State} {i ss ix c : Nat} {d x : Device} {e : Echo} {z : Entry}
    (hd : s.dev i = some d) (hcur : x.live.current = .logged ss ix)
    (hz : s.findTake ss ix = some z) (ho : z.copy.state = .opened) (hk : x.set.kind = .slate)
    (hl : x.live.lastClap = some c) (hne : c ≠ e.clapCount) {n : Nat}
    (hn : n = (((e.clapCount : Int) - c) % 256).toNat) {place kept : Option (Int × Nat)}
    (hplace : place = x.clapPlace e true) (hkept : kept = z.copy.keptPlace place) {t : State}
    (ht : t = ((s.setDev i (some x)).writeEntry i fun p => p.gauged x.live).takeClaps i e true) :
    ∃ y, t.findTake ss ix = some y ∧
      t.inner = ({ s with takes := t.takes }.setDev i
        (some { x with live := { x.live with lastClap := some e.clapCount } })).inner ∧
      EntriesKept s t ss ix ∧ t.takes.queue = s.takes.queue ∧
      y.copy.clapTotal = min (z.copy.clapTotal + n) 65535 ∧
      y.copy.claps = z.copy.claps ++ (kept.map fun p => Clap.mk i p.1 p.2).toList ∧
      y.copy.participants = z.copy.participants.map (fun p =>
        if p.slot = i then p.gauged x.live else p) ∧
      NoReply s t ∧
      Raised s t 0x49 ([fByte z.copy.unit, fSession ss, fIndex ix, fByte i, fCount n,
        fCount y.copy.clapTotal] ++ fOpt1 fTick (kept.map Prod.fst) ++
        fOpt1 fFrame (kept.map Prod.snd)) := by
  obtain ⟨v, hv⟩ : ∃ v, v = (s.setDev i (some x)).writeEntry i fun p => p.gauged x.live := ⟨_, rfl⟩
  have hcur0 : (s.setDev i (some x)).currentOf i = .logged ss ix := by
    rw [State.currentOf, s.dev_setDev_same hd]
    exact hcur
  have hve : v = { s with takes := v.takes }.setDev i (some x) := by
    have h : v = { s.setDev i (some x) with takes := v.takes } := by
      rw [hv]; exact State.writeEntry_eq _ _ _
    exact h
  obtain ⟨u, hu⟩ : ∃ u : State, u = { s with takes := v.takes } := ⟨_, rfl⟩
  have hud : u.dev i = some d := by rw [hu]; exact hd
  rw [← hu] at hve
  obtain ⟨z1, hz1⟩ : ∃ z1 : Entry,
      z1 = { z with copy := z.copy.modEntry i fun p => p.gauged x.live } := ⟨_, rfl⟩
  have hfound : v.findTake ss ix = some z1 := by
    rw [hv, hz1]
    exact State.writeEntry_found hcur0 hz ho _
  obtain ⟨hkv, hqv⟩ := State.writeEntry_kept hcur0 fun p => p.gauged x.live
  rw [← hv] at hkv hqv
  obtain ⟨w, hw⟩ : ∃ w, w = u.setDev i (some { x with live := { x.live with
    lastClap := some e.clapCount } }) := ⟨_, rfl⟩
  have hwt : w.takes = v.takes := by rw [hw, hu]; rfl
  have hclaps : t = w.handClaps i n place := by
    rw [ht, ← hv, hve, State.takeClaps_new (u.dev_setDev_same hud _) hk hl hne, State.setDev_setDev, ← hw,
      hn, hplace]
  have hwcur : w.currentOf i = .logged ss ix := by
    rw [State.currentOf, hw, u.dev_setDev_same hud]
    exact hcur
  have hwfind : w.findTake ss ix = some z1 := by
    rw [← hfound]
    exact State.findTake_congr (by rw [hwt]) ss ix
  have hkept' : z1.copy.keptPlace place = kept := by rw [hkept, hz1]; rfl
  rw [State.handClaps_logged hwcur hwfind, hkept'] at hclaps
  obtain ⟨r, hr⟩ : ∃ r, r = w.modTake ss ix fun y => y.mod fun r => r.addClaps i n place := ⟨_, rfl⟩
  rw [← hr] at hclaps
  have htr : t.takes = r.takes := by rw [hclaps, State.notify_takes]
  have hrw : r = { w with takes := r.takes } := by rw [hr]; rfl
  refine ⟨{ z1 with copy := z1.copy.addClaps i n place }, ?_, ?_, ?_, ?_, by rw [hz1]; rfl, ?_, by
    rw [hz1]; rfl, ?_, ?_⟩
  · rw [State.findTake_congr (s := r) (by rw [htr]), hr]
    exact State.findTake_modTake_same (f := fun y => y.mod fun r => r.addClaps i n place)
      (fun _ => ⟨rfl, rfl⟩) hwfind
  · rw [hclaps, State.inner_notify, State.notify_takes, hrw, hw, hu]
    rfl
  · have hkr := w.modTake_kept ss ix fun y => y.mod fun r => r.addClaps i n place
    rw [← hr] at hkr
    have h1 : EntriesKept s v ss ix := hkv
    have h2 : EntriesKept v t ss ix := by
      unfold EntriesKept at hkr ⊢
      rw [htr]
      rw [hwt] at hkr
      exact hkr
    exact h1.trans h2
  · rw [htr, hr]
    show w.takes.queue = _
    rw [hwt, hqv]
    rfl
  · show (z1.copy.addClaps i n place).claps = _
    rw [TakeRecord.addClaps_claps, hkept', hz1]
    rfl
  · rw [hclaps]
    exact (NoReply.of_eq (by rw [hrw, hw, hu]; rfl) (by rw [hrw, hw, hu]; rfl)).trans
      (noReply_notify _ _ _)
  · have hunit : z1.copy.unit = z.copy.unit := by rw [hz1]; rfl
    rw [hclaps, ← hunit]
    exact (Mum.of_eq (by rw [hrw, hw, hu]; rfl) (by rw [hrw, hw, hu]; rfl)
      (by rw [hrw, hw, hu]; rfl)).raised (State.raised_notify _ _ _)

/-- The place of a clap counted over a segment: house ticks from its start at the device's rate. -/
theorem Device.clapPlace_spec {d : Device} {e : Echo} {j : Int} {n0 : Nat}
    (hjam : d.live.jam = some (j, n0)) (hrate : -10000 ≤ d.live.rate) :
    (e.clap = none → d.clapPlace e true = none) ∧
    (∀ k psi, e.clap = some (k, psi) → ∃ h,
      Nearest h (((k * 65536 + psi) * periodOf d.set.rate : Nat) * 100000000)
        (65536 * (100000000 + d.live.rate)) ∧
      d.clapPlace e true = some (j + h, (n0 + k) % dayOf d.set.rate)) := by
  constructor
  · intro h
    unfold Device.clapPlace
    simp only [h]
  · intro k psi h
    refine ⟨_, nearest_roundDiv _ (by omega), ?_⟩
    unfold Device.clapPlace
    simp only [h, hjam, if_true]
    rw [echoTicks, rateUnit]
    push_cast
    rfl

/-- Settles O33: an echo over a segment is measured, its claps counted with the rate it measured, and a
device that was OUT_OF_RANGE comes back. -/
theorem echoMeasures : Obligations.EchoMeasures := by
  intro f a e m d s rolling hf hp he hdrop hover hd hslot hroll
  have hexec := exec_polled hf hp he hdrop hover
  have hld : s.landed.dev f.request.slot = some d := hd
  constructor
  · intro j o1 b1 n0 hjam hbase hfresh hj hb
    obtain ⟨o, ho⟩ : ∃ o, o = measuredOffset (periodOf d.set.rate) e m.tick j := ⟨_, rfl⟩
    obtain ⟨x, hx⟩ : ∃ x, x = d.gauged (e.age + s.radio.entriesAfter m.number) o m.tick e.age := ⟨_, rfl⟩
    have hlive := Device.gauged_live (o := o) (e.age + s.radio.entriesAfter m.number) e.age hbase hb
    rw [← hx] at hlive
    have hxset : x.set = d.set := by rw [hx]; rfl
    have hxcur : x.live.current = d.live.current := by rw [hlive]
    have hxstate : x.live.state = d.live.state := by rw [hlive]
    have hechoed := State.echoed_measured (s := s.landed) hld hjam hfresh hj ho hx rfl
    obtain ⟨l, hl⟩ : ∃ l : Live, l = { x.live with lastClap := some e.clapCount } := ⟨_, rfl⟩
    have hxl : ({ x with live := { x.live with lastClap := some e.clapCount } } : Device) =
        { d with live := l } := by rw [hl, ← hxset]
    refine ⟨o, roundDiv ((o - o1) * 100000000) (m.tick - b1), roundDiv d.live.predicted 1000, l,
      ho ▸ measuredOffset_nearest _ _ _ _, nearest_roundDiv _ (by omega), nearest_roundDiv _ (by decide),
      by rw [hl, hlive], fun hout hno => ?_, fun hout hcur hnear => ?_, fun hout hcur hfar => ?_,
      fun ss ix c z hout hlog hz hopen hk hclap hne => ?_⟩
    · rw [if_neg hout, State.gauged_free hld (by rw [hxcur]; exact hno), hxl] at hechoed
      rw [hechoed] at hexec
      obtain ⟨hr, hs⟩ := quiet_pump (s := s) (u := s.landed.setDev f.request.slot _)
        (.of_eq rfl rfl) (.of_eq rfl rfl rfl)
      exact ⟨_, hexec, State.inner_pump _, hr, hs⟩
    · rw [if_pos hout, State.gauged_free hld (by rw [hxcur, hcur]; nofun), hxl,
        State.returnFrom_near (s.landed.dev_setDev_same hld (some { d with live := l })) (by
          rw [hl]; exact hxstate.trans hout) hnear, State.setDev_setDev] at hechoed
      rw [hechoed] at hexec
      obtain ⟨g1, g2, g3, g4, g5⟩ := returned_pump (returned_sent (x := { d with live := l })
        (new := .tracked) (o := some o) hroll (.inr rfl) hld rfl)
      exact ⟨_, hexec, g1, g2, g3, g4, g5⟩
    · rw [if_pos hout, State.gauged_free hld (by rw [hxcur, hcur]; nofun), hxl,
        State.returnFrom_far (s.landed.dev_setDev_same hld (some { d with live := l })) (by
          rw [hl]; exact hxstate.trans hout) (by rw [hl]; exact hxcur.trans hcur)
          (fun y hy => by cases hy; exact hfar), State.setDev_setDev] at hechoed
      rw [hechoed] at hexec
      obtain ⟨g0, g1, g2, g3, g4, g5⟩ := returned_post (returned_sent (x := { d with live := l })
        (new := .jamPending) (o := some o) hroll (.inl rfl) hld rfl) rfl
      exact ⟨_, hexec, g0, g1, g2, g3, g4, g5⟩
    · rw [if_neg hout] at hechoed
      obtain ⟨place, hplace⟩ : ∃ place, place = x.clapPlace e true := ⟨_, rfl⟩
      obtain ⟨t, ht⟩ : ∃ t, t = ((s.landed.setDev f.request.slot (some x)).writeEntry f.request.slot
        fun p => p.gauged x.live).takeClaps f.request.slot e true := ⟨_, rfl⟩
      obtain ⟨y, g1, g2, g3, g4, g5, g6, g7, g8, g9⟩ := State.gauged_logged (s := s.landed) (c := c) hld
        (hxcur.trans hlog) hz hopen (by rw [hxset]; exact hk) (by rw [hlive]; exact hclap) hne rfl hplace
        rfl ht
      rw [← ht] at hechoed
      rw [hechoed] at hexec
      have hrate : -10000 ≤ x.live.rate := by rw [hlive]; exact le_max_left _ _
      obtain ⟨hnone, hsome⟩ := Device.clapPlace_spec (d := x) (e := e) (by rw [hlive]; exact hjam) hrate
      rw [← hplace] at hnone hsome
      have htt : t.pump.takes = t.takes := t.pump_takes
      refine ⟨_, y, _, (z.copy.keptPlace place).map fun p => Clap.mk f.request.slot p.1 p.2, hexec, by
        rw [State.findTake_congr (congrArg TakeTable.entries htt)]; exact g1, rfl, ?_, by
        rw [EntriesKept, htt]; exact g3, by rw [htt]; exact g4, g5, g6, fun h => ?_,
        fun k psi hkp hlen => ?_, ?_, ?_, ?_⟩
      · rw [State.inner_pump, htt, g2, hxl]
        rfl
      · rcases h with h | h
        · rw [hnone h, TakeRecord.keptPlace]
          split <;> rfl
        · rw [TakeRecord.keptPlace, if_neg (by omega)]
          rfl
      · obtain ⟨h, hh1, hh2⟩ := hsome k psi hkp
        refine ⟨h, ?_, ?_⟩
        · rw [hxset] at hh1
          rw [hl]
          exact hh1
        · rw [TakeRecord.keptPlace, if_pos hlen, hh2, ← hxset]
          rfl
      · rw [g7]
        refine List.map_congr_left fun p _ => ?_
        rw [Participant.gauged, modLast_eq, hl]
      · exact ((NoReply.of_eq (s := s) (t := s.landed) rfl rfl).trans g8).trans (noReply_pump t)
      · rw [Option.map_map, Option.map_map]
        exact ((Mum.of_eq (s := s) (t := s.landed) rfl rfl rfl).raised g9).silent (silent_pump t)
  · intro hjam hout hcur
    have hechoed := State.echoed_unmeasured (s := s.landed) (e := e) (m := m) hld hjam hout
    obtain ⟨x, hx⟩ : ∃ x : Device, x = { d with live := { d.live with
      missedReplies := 0
      age := e.age + s.radio.entriesAfter m.number
      lastClap := some e.clapCount } } := ⟨_, rfl⟩
    have hclaps : (s.landed.setDev f.request.slot (some (d.replied
        (e.age + s.landed.radio.entriesAfter m.number)))).takeClaps f.request.slot e (!s.landed.stale m) =
        s.landed.setDev f.request.slot (some x) := by
      rw [State.takeClaps_counted (s.landed.dev_setDev_same hld _) (.inr (.inr (.inr fun ss ix h => by
        rw [show d.live.current = .logged ss ix from h] at hcur; cases hcur))), State.setDev_setDev, hx]
      rfl
    rw [hclaps, State.returnFrom_far (s.landed.dev_setDev_same hld (some x)) (by rw [hx]; exact hout)
      (by rw [hx]; exact hcur) (fun y hy => by cases hy), State.setDev_setDev] at hechoed
    rw [hechoed] at hexec
    obtain ⟨g0, g1, g2, g3, g4, g5⟩ := returned_post (returned_sent (x := x) (new := .jamPending)
      (o := none) (rolling := rolling) (by rw [hx]; exact hroll) (.inl rfl) hld rfl) rfl
    subst hx
    exact ⟨_, hexec, g0, g1, g4, g5⟩

end Sys2Proof.Machine
end

section
/-!
SUPPORT. The store arbiter with a save or a clear pending, the replies to waiting FLUSH requests, the
store's FAULT and LOG_FULL, and the requests to the store.
-/

namespace Sys2Proof.Machine

section
variable {s : State}

/-! ### What the arbiter begins first -/

theorem State.arbitrate_clear (hop : s.store.op = .idle) (hsave : s.store.save = none)
    {c : PendingClear} (hc : s.store.clear = some c) :
    s.arbitrate = { s with store := { s.store with op := .erase } } := by
  unfold State.arbitrate State.beginPending
  rw [if_neg (by simp [hop]), if_pos (by simp [hc]), hsave, hc]

theorem State.arbitrate_save (hop : s.store.op = .idle) (hc : s.store.clear = none)
    {p : PendingSave} (hsave : s.store.save = some p) : s.arbitrate = s.beginSettings 1 := by
  unfold State.arbitrate State.beginPending
  rw [if_neg (by simp [hop]), if_pos (by simp [hsave]), hsave, hc]

/-- Nothing waits once an operation has ended. -/
theorem State.settled_of_nothing {t : State} (hsave : t.store.save = none)
    (hclear : t.store.clear = none) (hreads : t.store.reads = []) (hw : t.nothingToWrite) :
    t.settled := .inr ⟨hsave, hclear, hreads, hw⟩

/-! ### Replies to waiting FLUSH requests -/

theorem mum_store (s : State) (x : Store) : Mum s { s with store := x } := .of_eq rfl rfl rfl

/-- A list of FLUSH requests answered in its order. -/
theorem answerFlushes_spec (fs : List WaitingFlush) (s : State) (st : Status)
    (g : WaitingFlush → List Field) {t : State}
    (ht : t = fs.foldl (fun t f => t.reply f.port 0x17 f.tag st (g f)) s) :
    t.inner = s.inner ∧ Mum s t ∧ ∀ p, t.outgoing p = s.outgoing p ++ flushReplies fs p st g := by
  subst ht
  induction fs generalizing s with
  | nil => exact ⟨rfl, Mum.refl s, fun p => (List.append_nil _).symm⟩
  | cons f fs ih =>
    obtain ⟨hi, hm, ho⟩ := ih (s.reply f.port 0x17 f.tag st (g f))
    refine ⟨hi.trans (s.inner_reply ..), (mum_reply s ..).trans hm, fun p => (ho p).trans ?_⟩
    rcases (show f.port = p ∨ p = otherPort f.port by cases f.port <;> cases p <;> simp [otherPort])
      with rfl | rfl
    · rw [State.outgoing_reply]
      simp [flushReplies]
    · have hne : f.port ≠ otherPort f.port := by cases f.port <;> nofun
      rw [State.outgoing_reply_other]
      simp [flushReplies, hne]

/-- Every waiting FLUSH answered with a status and the head take. -/
theorem State.failFlushes_spec (s : State) (st : Status) :
    (s.failFlushes st).inner = { s with store := { s.store with flushes := [] } }.inner ∧
      Mum s (s.failFlushes st) ∧ ∀ p, (s.failFlushes st).outgoing p =
        s.outgoing p ++ flushReplies s.store.flushes p st fun _ => s.headField := by
  have hhead : (s.takes.queue.head?.map fun i => [fIndex i]).getD [] = s.headField := by
    rw [State.headField]
    cases s.takes.queue.head? <;> rfl
  obtain ⟨hi, hm, ho⟩ := answerFlushes_spec s.store.flushes
    { s with store := { s.store with flushes := [] } } st (fun _ => s.headField)
    (t := s.failFlushes st) (by rw [State.failFlushes, hhead])
  exact ⟨hi, (mum_store s _).trans hm, fun p => (ho p).trans rfl⟩

/-- The waiting FLUSH requests whose takes are all committed are answered. -/
theorem State.testFlushes_spec (s : State) :
    s.testFlushes.inner = { s with store := { s.store with
      flushes := s.store.flushes.filter fun f => !f.done s.takes.queue } }.inner ∧
      Mum s s.testFlushes ∧ ∀ p, s.testFlushes.outgoing p = s.outgoing p ++
        flushReplies (s.store.flushes.filter fun f => f.done s.takes.queue) p .ok
          fun f => [fCount f.boundary.length] := by
  obtain ⟨hi, hm, ho⟩ := answerFlushes_spec (s.store.flushes.filter fun f => f.done s.takes.queue)
    { s with store := { s.store with
      flushes := s.store.flushes.filter fun f => !f.done s.takes.queue } } .ok
    (fun f => [fCount f.boundary.length]) (t := s.testFlushes) rfl
  exact ⟨hi, (mum_store s _).trans hm, fun p => (ho p).trans rfl⟩

/-! ### FAULT and LOG_FULL -/

/-- The store leaves READY: announced, and every waiting FLUSH answered. -/
theorem State.storeStops_spec (s : State) {st : StoreState} {why : Status} {cause : Nat}
    {page : Option Nat} {t : State}
    (ht : t = (({ s with store := { s.store with state := st } }).noteStore cause page
      s.takes.queue.head?).failFlushes why) :
    t.inner = { s with store := { s.store with state := st, flushes := [] } }.inner ∧
      Raised s t 0x4B ([fByte cause, fSession s.store.session] ++ fOpt1 fCount page ++
        fOpt1 fIndex s.takes.queue.head?) ∧
      ∀ p, t.outgoing p = s.outgoing p ++
        flushReplies s.store.flushes p why fun _ => s.headField := by
  obtain ⟨v, hv⟩ : ∃ v, v = ({ s with store := { s.store with state := st } }).noteStore cause page
    s.takes.queue.head? := ⟨_, rfl⟩
  rw [← hv] at ht
  obtain ⟨hi, hm, ho⟩ := State.failFlushes_spec v why
  rw [← ht] at hi hm ho
  have hvi : v.inner = { s with store := { s.store with state := st } }.inner := by
    rw [hv]; exact State.inner_notify _ _ _
  have hf := State.inner_fields hvi
  dsimp only at hf
  have hvs : v.store = { s.store with state := st } := by simp [hf]
  have hhead : v.headField = s.headField := by
    rw [State.headField, State.headField, show v.takes = s.takes by simp [hf]]
  refine ⟨hi.trans (State.inner_ext (by simp [hf])), ?_, fun p => ?_⟩
  · refine Raised.silent ?_ hm.silent
    rw [hv]
    exact (mum_store s _).raised (State.raised_notify _ _ _)
  · rw [ho, hhead, show v.store.flushes = s.store.flushes by rw [hvs], hv]
    exact congrArg (· ++ _) (State.outgoing_notify _ _ _ p)

/-- The store in FAULT at a page. -/
theorem State.enterFault_spec (s : State) (page : Nat) :
    (s.enterFault page).inner =
        { s with store := { s.store with state := .fault, flushes := [] } }.inner ∧
      Raised s (s.enterFault page) 0x4B ([fByte 0, fSession s.store.session, fByte 1, fCount page] ++
        fOpt1 fIndex s.takes.queue.head?) ∧
      ∀ p, (s.enterFault page).outgoing p = s.outgoing p ++
        flushReplies s.store.flushes p .storeFault fun _ => s.headField :=
  s.storeStops_spec rfl

/-- The log full at the pointer. -/
theorem State.enterLogFull_spec (s : State) :
    s.enterLogFull.inner =
        { s with store := { s.store with state := .logFull, flushes := [] } }.inner ∧
      Raised s s.enterLogFull 0x4B ([fByte 1, fSession s.store.session, fByte 1,
        fCount s.store.pointer] ++ fOpt1 fIndex s.takes.queue.head?) ∧
      ∀ p, s.enterLogFull.outgoing p = s.outgoing p ++
        flushReplies s.store.flushes p .logFull fun _ => s.headField :=
  s.storeStops_spec rfl

end

/-! ### SET_COMMIT_DELAY and FLUSH -/

/-- Settles O38: the delay set; a FLUSH answered at once, or listed with the queue as it stands. -/
theorem delayAndFlush : Obligations.DelayAndFlush := by
  intro q n s htaken hp
  refine ⟨fun happ hn => ?_, fun hscan hempty => ?_, fun hscan hqueue hready hop => ?_⟩
  · obtain ⟨u, hu⟩ : ∃ u : State, u = { s.enlist q 0x16 with
      store := { s.store with delay := n } } := ⟨_, rfl⟩
    have hexec : exec (.setCommitDelay q n) s = .next (u.reply q.port 0x16 q.tag .ok).pump := by
      refine (finish_taken htaken (Class.admits_control hp) (holds_long (by omega))).trans ?_
      rw [if_neg (by simp [happ]), if_neg (by omega), hu, State.enlist_store]
    obtain ⟨ha, hs⟩ := answered_silent (q := q) (k := 0x16) (st := .ok) (l := [])
      ((noReply_enlist s q 0x16 none).trans (.of_eq (t := u) (by rw [hu]) (by rw [hu])))
      ((mum_enlist s q 0x16 none).trans (.of_eq (t := u) (by rw [hu]) (by rw [hu]) (by rw [hu])))
    exact ⟨_, hexec, State.inner_ext (by simp [hu]), hs, ha⟩
  · have hexec : exec (.flush q) s =
        finish ((s.enlist q 0x17).reply q.port 0x17 q.tag .ok [fCount 0]) := by
      refine (finish_taken htaken (Class.admits_control hp) rfl).trans ?_
      dsimp only
      rw [if_neg (by simp [hscan]), if_pos (by simp [hempty])]
      rfl
    rw [hexec]
    exact answered_only
  · obtain ⟨u, hu⟩ : ∃ u : State, u = { s.enlist q 0x17 with
      store := { (s.enlist q 0x17).store with flushes := (s.enlist q 0x17).store.flushes ++
        [⟨(s.enlist q 0x17).takes.queue, q.port, q.tag⟩] } } := ⟨_, rfl⟩
    have hexec : exec (.flush q) s = .next u.pump := by
      refine (finish_taken htaken (Class.admits_control hp) rfl).trans ?_
      dsimp only
      rw [if_neg (by simp [hscan]), if_neg (by simp [hqueue]), if_neg (by simp [hready]),
        if_neg (by simp [hready]), State.arbitrate_settled (.inl (by simpa using hop)), ← hu]
    obtain ⟨hr, hs⟩ := quiet_pump
      ((noReply_enlist s q 0x17 none).trans (.of_eq (t := u) (by rw [hu]) (by rw [hu])))
      ((mum_enlist s q 0x17 none).trans (.of_eq (t := u) (by rw [hu]) (by rw [hu]) (by rw [hu])))
    exact ⟨_, hexec, hr, hs, State.inner_ext (by simp [hu])⟩

end Sys2Proof.Machine
end

section
/-!
SUPPORT. The bytes of a log page: it checks good, and its header and body are read back.
-/

namespace Sys2Proof.Machine

theorem ofLeBytes_uint {w n : Nat} (h : n < 2 ^ (8 * w)) : ofLeBytes (uint w n).bytes = n := by
  have hw : (uint w n).width = w := rfl
  rw [Field.bytes, uint_code h, hw, ofLeBytes_leBytes _ _ h]

section
variable {kind session index part parts : Nat} {body : List Byte}

/-- The content of a page: its six header fields, the body and the fill. -/
def pageContent (kind session index part parts : Nat) (body : List Byte) : List Byte :=
  (fByte kind).bytes ++ ((fSession session).bytes ++ ((fIndex index).bytes ++ ((fByte part).bytes ++
    ((fByte parts).bytes ++ ((fCount body.length).bytes ++
      (body ++ List.replicate (243 - body.length) (BitVec.ofNat 8 0xFF)))))))

theorem pageBytes_eq : pageBytes kind session index part parts body =
    pageContent kind session index part parts body ++
      leBytes 2 (crc16 (pageContent kind session index part parts body)) := by
  simp [pageBytes, pageContent, encodeFields]

theorem fByte_length (n : Nat) : (fByte n).bytes.length = 1 := Field.bytes_length _
theorem fSession_length (n : Nat) : (fSession n).bytes.length = 2 := Field.bytes_length _
theorem fIndex_length (n : Nat) : (fIndex n).bytes.length = 4 := Field.bytes_length _
theorem fCount_length (n : Nat) : (fCount n).bytes.length = 2 := Field.bytes_length _

theorem pageContent_length (h : body.length ≤ 243) :
    (pageContent kind session index part parts body).length = 254 := by
  simp [pageContent, fByte_length, fSession_length, fIndex_length, fCount_length]
  omega

/-- Every page that is made checks good. -/
theorem pageGood_pageBytes (h : body.length ≤ 243) :
    pageGood (pageBytes kind session index part parts body) = true := by
  have hlen := pageContent_length (kind := kind) (session := session) (index := index) (part := part)
    (parts := parts) h
  rw [pageBytes_eq, pageGood, List.drop_left' hlen, List.take_left' hlen,
    ofLeBytes_leBytes 2 _ (crc16_lt _), List.length_append, hlen, leBytes_length]
  simp

/-- The header and the body of a page that is laid out in its fields. -/
theorem pageFields_read {a b c d e f l : List Byte} (ha : a.length = 1) (hb : b.length = 2)
    (hc : c.length = 4) (hd : d.length = 1) (he : e.length = 1) (hf : f.length = 2) :
    pageHeader (a ++ (b ++ (c ++ (d ++ (e ++ (f ++ l)))))) =
        ⟨ofLeBytes a, ofLeBytes b, ofLeBytes c, ofLeBytes d, ofLeBytes e⟩ ∧
      pageBody (a ++ (b ++ (c ++ (d ++ (e ++ (f ++ l)))))) = l.take (ofLeBytes f) := by
  constructor
  · simp [pageHeader, List.drop_append, ha, hb, hc, hd, he, List.drop_eq_nil_of_le]
  · simp [pageBody, List.drop_append, ha, hb, hc, hd, he, hf, List.drop_eq_nil_of_le]

/-- The fields of the header, each from its own bytes, and the body from its length. -/
theorem pageBytes_read : pageHeader (pageBytes kind session index part parts body) =
    ⟨ofLeBytes (fByte kind).bytes, ofLeBytes (fSession session).bytes,
      ofLeBytes (fIndex index).bytes, ofLeBytes (fByte part).bytes,
      ofLeBytes (fByte parts).bytes⟩ ∧
    ∃ l, pageBody (pageBytes kind session index part parts body) =
      (body ++ l).take (ofLeBytes (fCount body.length).bytes) := by
  rw [pageBytes_eq, pageContent]
  generalize leBytes 2 _ = crc
  generalize List.replicate _ _ = fill
  simp only [List.append_assoc]
  obtain ⟨hh, hb⟩ := pageFields_read (l := body ++ (fill ++ crc)) (fByte_length kind)
    (fSession_length session) (fIndex_length index) (fByte_length part) (fByte_length parts)
    (fCount_length body.length)
  exact ⟨hh, _, hb⟩

theorem pageHeader_kind (h : kind < 256) :
    (pageHeader (pageBytes kind session index part parts body)).kind = kind := by
  rw [pageBytes_read.1]
  exact ofLeBytes_uint (w := 1) h

theorem pageHeader_session (h : session < 65536) :
    (pageHeader (pageBytes kind session index part parts body)).session = session := by
  rw [pageBytes_read.1]
  exact ofLeBytes_uint (w := 2) h

theorem pageHeader_index (h : index < 4294967296) :
    (pageHeader (pageBytes kind session index part parts body)).index = index := by
  rw [pageBytes_read.1]
  exact ofLeBytes_uint (w := 4) h

theorem pageHeader_part (h : part < 256) :
    (pageHeader (pageBytes kind session index part parts body)).part = part := by
  rw [pageBytes_read.1]
  exact ofLeBytes_uint (w := 1) h

theorem pageHeader_parts (h : parts < 256) :
    (pageHeader (pageBytes kind session index part parts body)).parts = parts := by
  rw [pageBytes_read.1]
  exact ofLeBytes_uint (w := 1) h

/-- The body is read back from its length field. -/
theorem pageBody_pageBytes (h : body.length ≤ 243) :
    pageBody (pageBytes kind session index part parts body) = body := by
  have hc : ofLeBytes (fCount body.length).bytes = body.length :=
    ofLeBytes_uint (w := 2) (show body.length < 65536 by omega)
  obtain ⟨l, hl⟩ := (pageBytes_read (kind := kind) (session := session) (index := index) (part := part)
    (parts := parts) (body := body)).2
  rw [hl, hc, List.take_left]

end

/-- A SESSION page: it checks good, of kind 1 and its session. -/
theorem sessionPage_good (cause session index time counter : Nat) :
    pageGood (sessionPage cause session index time counter) = true ∧
      (pageHeader (sessionPage cause session index time counter)).kind = 1 :=
  ⟨pageGood_pageBytes (by simp [encodeFields, Field.bytes_length, fByte, fTick, uint]),
    pageHeader_kind (by decide)⟩

/-! ### The pieces of a record -/

theorem chunksFrom_length {n : Nat} (hn : 0 < n) (fuel : Nat) (bs : List Byte)
    (hf : bs.length ≤ fuel) : ∀ c ∈ chunksFrom n fuel bs, c.length ≤ n := by
  induction fuel generalizing bs with
  | zero =>
    intro c hc
    rw [chunksFrom, List.mem_singleton] at hc
    subst hc
    omega
  | succ fuel ih =>
    intro c hc
    rw [chunksFrom] at hc
    split at hc
    · rw [List.mem_singleton] at hc
      subst hc
      assumption
    · rcases List.mem_cons.1 hc with rfl | hc
      · exact List.length_take_le _ _
      · exact ih _ (by rw [List.length_drop]; omega) c hc

theorem chunksFrom_flatten (n fuel : Nat) (bs : List Byte) :
    (chunksFrom n fuel bs).flatten = bs := by
  induction fuel generalizing bs with
  | zero => simp [chunksFrom]
  | succ fuel ih =>
    rw [chunksFrom]
    split
    · simp
    · rw [List.flatten_cons, ih, List.take_append_drop]

theorem chunks_length_le (bs : List Byte) : ∀ c ∈ chunks 243 bs, c.length ≤ 243 :=
  chunksFrom_length (by decide) _ _ (Nat.le_refl _)

theorem chunks_flatten (n : Nat) (bs : List Byte) : (chunks n bs).flatten = bs :=
  chunksFrom_flatten _ _ _

/-! ### The pages of a take record -/

theorem takePages_length (r : TakeRecord) :
    (takePages r).length = (chunks 243 (encodeTake r)).length := by
  simp [takePages]

/-- Part `k + 1` of a record, when it has as many parts. -/
theorem takePages_getElem (r : TakeRecord) (k : Nat) : (takePages r)[k]? =
    ((chunks 243 (encodeTake r))[k]?).map fun c => pageBytes pageTake r.session r.index (k + 1)
      (chunks 243 (encodeTake r)).length c := by
  simp [takePages, List.getElem?_zipIdx, Function.comp_def]

/-- The bodies of a record's pages joined are its bytes. -/
theorem takePages_body (r : TakeRecord) : (takePages r).flatMap pageBody = encodeTake r := by
  have hmap : (takePages r).map pageBody = (chunks 243 (encodeTake r)).zipIdx.map Prod.fst := by
    rw [takePages, List.map_map]
    refine List.map_congr_left fun x hx => ?_
    rw [Function.comp_apply]
    exact pageBody_pageBytes (chunks_length_le _ _ (List.fst_mem_of_mem_zipIdx hx))
  rw [List.flatMap_def, hmap, List.zipIdx_map_fst, chunks_flatten]

/-- Every page of a record is a good TAKE page of its session and log index. -/
theorem takePages_good (r : TakeRecord) : ∀ p ∈ takePages r, pageGood p = true ∧
    (pageHeader p).kind = 2 ∧ (r.session < 65536 → (pageHeader p).session = r.session) ∧
    (r.index < 4294967296 → (pageHeader p).index = r.index) := by
  intro p hp
  obtain ⟨k, hk⟩ := List.mem_iff_getElem?.1 hp
  rw [takePages_getElem, Option.map_eq_some_iff] at hk
  obtain ⟨c, hc, rfl⟩ := hk
  exact ⟨pageGood_pageBytes (chunks_length_le _ c (List.mem_of_getElem? hc)),
    pageHeader_kind (by decide), pageHeader_session, pageHeader_index⟩

/-- The pages of a record are numbered parts. -/
theorem takePages_part {r : TakeRecord} {m k : Nat} {p : List Byte}
    (hm : m = (chunks 243 (encodeTake r)).length) (h : m < 256) (hk : (takePages r)[k]? = some p) :
    (pageHeader p).part = k + 1 ∧ (pageHeader p).parts = m := by
  rw [takePages_getElem, Option.map_eq_some_iff] at hk
  obtain ⟨c, hc, rfl⟩ := hk
  have hlt : k < m := hm ▸ (List.getElem?_eq_some_iff.1 hc).1
  exact ⟨pageHeader_part (by omega), (pageHeader_parts (hm ▸ h)).trans hm.symm⟩

end Sys2Proof.Machine
end

section
/-!
SUPPORT. The settings write, CLEAR_LOG and its erase, and the start of a commit write.
-/

namespace Sys2Proof.Machine

/-! ### SAVE_SETTINGS -/

section
variable {s : State}

/-- A slot of the snapshot: its settings with the enable of its line. -/
theorem State.snapshot_slot (s : State) (i : Fin 32) : s.snapshot.slots[i] = (s.dev i).map fun d =>
    (d.set, (d.lineNo.map fun l => (s.line l).enabled).getD false) := by
  have hdev : s.dev i = s.slots[i] := by simp [State.dev]
  have henable : ∀ d : Device, s.enableOf d = (d.lineNo.map fun l => (s.line l).enabled).getD false := by
    intro d
    rw [State.enableOf]
    cases d.lineNo <;> rfl
  simp only [State.snapshot, Fin.getElem_fin, Vector.getElem_map, hdev, henable]

theorem State.snapshot_slate (s : State) (u : Fin 4) : s.snapshot.slates[u] = (s.unit u).info := by
  simp [State.snapshot, State.unit]

theorem State.snapshot_profile (s : State) (k : Fin 8) : s.snapshot.profiles[k] =
    ⟨(s.profile k).state, (s.profile k).count, (s.profile k).bias, (s.profile k).points⟩ := by
  simp [State.snapshot, State.profile, Profile.saved]

/-- The settings write ends, and nothing waits for the flash. -/
theorem State.endSettings_spec {p : PendingSave} (area : SettingsArea) (st : Status)
    (hclear : s.store.clear = none) (hreads : s.store.reads = []) (hw : s.nothingToWrite) :
    ∃ t, finish (s.endSettings p area st) = .next t ∧
      t.inner = { s with
        store := { s.store with save := none, op := .idle, lastWrite := false }
        flash := { s.flash with settings := area } }.inner ∧ Silent s t ∧
      t.outgoing p.port = s.outgoing p.port ++ [⟨replyMessage 0x19 p.tag st [], true, false⟩] ∧
      t.outgoing (otherPort p.port) = s.outgoing (otherPort p.port) := by
  obtain ⟨u, hu⟩ : ∃ u : State, u = { s with
    store := { s.store with save := none }, flash := { s.flash with settings := area } } := ⟨_, rfl⟩
  obtain ⟨v, hv⟩ : ∃ v, v = (u.reply p.port 0x19 p.tag st).endOp false := ⟨_, rfl⟩
  have hstore : v.store = { s.store with save := none, op := .idle, lastWrite := false } := by
    rw [hv, State.endOp, State.reply_store, hu]
  have hset : v.settled := State.settled_of_nothing (by rw [hstore]) (by rw [hstore]; exact hclear)
    (by rw [hstore]; exact hreads) (by
      rw [State.nothingToWrite, hstore, show v.takes = s.takes by rw [hv, State.endOp, State.reply_takes, hu]]
      exact hw)
  have hend : s.endSettings p area st = v := by
    rw [State.endSettings, ← hu, ← hv, State.arbitrate_settled hset]
  have hm : Mum s v := by
    rw [hv]
    exact ((Mum.of_eq (by rw [hu]) (by rw [hu]) (by rw [hu])).trans (mum_reply u _ _ _ _ _)).trans
      (.of_eq rfl rfl rfl)
  have ho : ∀ i, v.outgoing i = (u.reply p.port 0x19 p.tag st).outgoing i := by
    intro i
    rw [hv]
    exact State.outgoing_congr rfl rfl i
  have hou : ∀ i, u.outgoing i = s.outgoing i := State.outgoing_congr (by rw [hu]) (by rw [hu])
  rw [hend]
  refine ⟨_, rfl, ?_, hm.silent.trans (silent_pump v), ?_, ?_⟩
  · rw [State.inner_pump]
    refine State.inner_ext ?_
    rw [hstore, hv]
    simp [State.endOp, hu]
  · rw [State.outgoing_pump, ho, State.outgoing_reply, hou]
  · rw [State.outgoing_pump, ho, State.outgoing_reply_other, hou]

end

/-- Settles O40: the snapshot's write begins at once; it is kept, made again, or given up. -/
theorem settingsSaved : Obligations.SettingsSaved := by
  intro q p n s
  refine ⟨fun htaken hp hscan hsave hclear hop => ?_, fun hop hsave hclear hreads hw => ?_⟩
  · obtain ⟨x, hx⟩ : ∃ x, x = PendingSave.mk s.snapshot q.port q.tag s.store.arrivals := ⟨_, rfl⟩
    have hsnap : (s.enlist q 0x19).snapshot = s.snapshot :=
      State.reads_enlist s q 0x19 none State.snapshot (fun _ _ => rfl) fun _ _ => rfl
    obtain ⟨u, hu⟩ : ∃ u : State, u = { s.enlist q 0x19 with
      store := { s.store with save := some x, arrivals := s.store.arrivals + 1 } } := ⟨_, rfl⟩
    have hexec : exec (.saveSettings q) s = .next (u.beginSettings 1).pump := by
      refine (finish_taken htaken (Class.admits_control hp) rfl).trans ?_
      rw [if_neg (by simp [hscan]), if_neg (by simp [hsave]), hsnap, State.enlist_store, ← hx, ← hu,
        State.arbitrate_save (by rw [hu]; exact hop) (by rw [hu]; exact hclear) (by rw [hu])]
    obtain ⟨hr, hs⟩ := quiet_pump (u := u.beginSettings 1)
      ((noReply_enlist s q 0x19 none).trans (.of_eq (by rw [hu]; rfl) (by rw [hu]; rfl)))
      ((mum_enlist s q 0x19 none).trans (.of_eq (by rw [hu]; rfl) (by rw [hu]; rfl) (by rw [hu]; rfl)))
    have hsx : x.snapshot = s.snapshot := by rw [hx]
    refine ⟨_, x, hexec, State.inner_ext (by simp [State.beginSettings, hu]), by rw [hx], by rw [hx],
      by rw [hsx]; rfl, by rw [hsx]; rfl, by rw [hsx]; rfl, by rw [hsx]; rfl, ?_, ?_, ?_, hr, hs⟩
    · rw [hsx]; exact s.snapshot_slate
    · rw [hsx]; exact s.snapshot_profile
    · rw [hsx]; exact s.snapshot_slot
  · have hgood : exec (.settingsWriteDone true) s =
        finish (s.endSettings p (.good p.snapshot) .ok) := by
      show finish _ = _
      rw [hop, hsave]
      rfl
    have hbad : exec (.settingsWriteDone false) s = finish
        (if n < 2 then s.beginSettings 2 else s.endSettings p .bad .storeFault) := by
      show finish _ = _
      rw [hop, hsave]
      rfl
    refine ⟨?_, fun hn => ?_, fun hn => ?_⟩
    · rw [hgood]
      exact State.endSettings_spec _ _ hclear hreads hw
    · rw [hbad, if_pos (by omega)]
      obtain ⟨hr, hs⟩ := quiet_pump (s := s) (u := s.beginSettings 2) (.of_eq rfl rfl) (.of_eq rfl rfl rfl)
      exact ⟨_, rfl, State.inner_pump _, hr, hs⟩
    · rw [hbad, if_neg (by omega)]
      exact State.endSettings_spec _ _ hclear hreads hw

/-! ### CLEAR_LOG -/

section
variable {s : State}

/-- A pending CLEAR_LOG answered. -/
theorem State.answerClear_spec {c : PendingClear} (hc : s.store.clear = some c) (st : Status)
    (l : List Field) :
    (s.answerClear st l).inner = { s with store := { s.store with clear := none } }.inner ∧
      Mum s (s.answerClear st l) ∧ ∀ p, (s.answerClear st l).outgoing p = s.outgoing p ++
        if p = c.port then [⟨replyMessage 0x18 c.tag st l, true, false⟩] else [] := by
  obtain ⟨u, hu⟩ : ∃ u : State, u = { s with store := { s.store with clear := none } } := ⟨_, rfl⟩
  have heq : s.answerClear st l = u.reply c.port 0x18 c.tag st l := by
    rw [State.answerClear, hc, hu]
  have hou : ∀ p, u.outgoing p = s.outgoing p := State.outgoing_congr (by rw [hu]) (by rw [hu])
  rw [heq]
  refine ⟨(u.inner_reply ..).trans (by rw [hu]), ?_, fun p => ?_⟩
  · exact (Mum.of_eq (by rw [hu]) (by rw [hu]) (by rw [hu])).trans (mum_reply u ..)
  · rcases (show c.port = p ∨ p = otherPort c.port by cases c.port <;> cases p <;> simp [otherPort])
      with rfl | rfl
    · rw [State.outgoing_reply, hou, if_pos rfl]
    · rw [State.outgoing_reply_other, hou, if_neg (by cases c.port <;> nofun), List.append_nil]

theorem State.store_of_inner {t : State} (h : t.inner = s.inner) : t.store = s.store := by
  have hf := State.inner_fields h
  simp [hf]

/-- The entries left when the COMMITTED ones are freed. -/
theorem mem_keepUncommitted {es : Vector (Option Entry) 64} (e : Entry) :
    some e ∈ (es.map keepUncommitted).toList ↔ some e ∈ es.toList ∧ e.copy.state ≠ .committed := by
  have hkeep : ∀ o : Option Entry,
      keepUncommitted o = some e ↔ o = some e ∧ e.copy.state ≠ .committed := by
    intro o
    unfold keepUncommitted
    rw [Option.bind_eq_some_iff]
    constructor
    · rintro ⟨y, hy, h⟩
      split at h
      · cases h
      · cases h
        exact ⟨hy, by assumption⟩
    · rintro ⟨ho, hne⟩
      exact ⟨e, ho, if_neg hne⟩
  rw [Vector.toList_map, List.mem_map]
  constructor
  · rintro ⟨o, ho, h⟩
    obtain ⟨rfl, hne⟩ := (hkeep o).1 h
    exact ⟨ho, hne⟩
  · rintro ⟨h, hne⟩
    exact ⟨some e, h, (hkeep _).2 ⟨rfl, hne⟩⟩

/-- A clear that fails at a page: FAULT, every waiting FLUSH and then the CLEAR_LOG answered. -/
theorem State.faultClears_spec {u v : State} {c : PendingClear} (hc : u.store.clear = some c)
    (hsave : u.store.save = none) (hreads : u.store.reads = []) {page : Nat}
    (hv : v = (((u.enterFault page).answerClear .storeFault []).endOp false).arbitrate) :
    v.inner = { u with store := { u.store with
        state := .fault, flushes := [], clear := none, op := .idle, lastWrite := false } }.inner ∧
      Raised u v 0x4B ([fByte 0, fSession u.store.session, fByte 1, fCount page] ++
        fOpt1 fIndex u.takes.queue.head?) ∧
      ∀ p, v.outgoing p = u.outgoing p ++
        (flushReplies u.store.flushes p .storeFault fun _ => u.headField) ++
        if p = c.port then [⟨replyMessage 0x18 c.tag .storeFault [], true, false⟩] else [] := by
  obtain ⟨a, ha⟩ : ∃ a, a = u.enterFault page := ⟨_, rfl⟩
  obtain ⟨w, hw⟩ : ∃ w, w = a.answerClear .storeFault [] := ⟨_, rfl⟩
  obtain ⟨z, hz⟩ : ∃ z, z = w.endOp false := ⟨_, rfl⟩
  obtain ⟨hai, har, hao⟩ := u.enterFault_spec page
  rw [← ha] at hai har hao
  have has : a.store = { u.store with state := .fault, flushes := [] } := State.store_of_inner hai
  obtain ⟨hwi, hwm, hwo⟩ := State.answerClear_spec (s := a) (c := c) (by rw [has]; exact hc)
    .storeFault []
  rw [← hw] at hwi hwm hwo
  have hws : w.store = { a.store with clear := none } := State.store_of_inner hwi
  have hzs : z.store = { u.store with
      state := .fault, flushes := [], clear := none, op := .idle, lastWrite := false } := by
    rw [hz, State.endOp, hws, has]
  have hset : z.settled := State.settled_of_nothing (by rw [hzs]; exact hsave) (by rw [hzs])
    (by rw [hzs]; exact hreads) (.inl (by rw [hzs]; nofun))
  have hvz : v = z := by rw [hv, ← ha, ← hw, ← hz, State.arbitrate_settled hset]
  have haf := State.inner_fields hai
  have hwf := State.inner_fields hwi
  dsimp only at haf hwf
  rw [hvz]
  refine ⟨State.inner_ext ?_, ?_, fun p => ?_⟩
  · rw [hzs, hz]
    simp [State.endOp, hwf, haf]
  · exact (har.silent hwm.silent).silent
      (Mum.of_eq (by rw [hz]; rfl) (by rw [hz]; rfl) (by rw [hz]; rfl)).silent
  · rw [hz, State.outgoing_congr (s := w) (t := w.endOp false) rfl rfl, hwo, hao]

/-- The log area after an erase that failed at a page. -/
theorem readPage_erased (log : List (Nat × PageData)) (page : Nat) :
    let after := writePage page .damaged (log.filter fun x => decide (page ≤ x.1))
    readPage after page = some .damaged ∧ (∀ k, k < page → readPage after k = none) ∧
      ∀ k, page < k → readPage after k = readPage log k := by
  refine ⟨readPage_writePage_same _ _ _, fun k hk => ?_, fun k hk => ?_⟩
  · rw [readPage_writePage_other _ _ _ _ (by omega), readPage, List.find?_eq_none.2, Option.map_none]
    intro x hx
    have := (List.mem_filter.1 hx).2
    simp only [decide_eq_true_eq] at this ⊢
    omega
  · rw [readPage_writePage_other _ _ _ _ (by omega), readPage, readPage, List.find?_filter]
    congr 2
    funext x
    by_cases h : x.1 = k
    · simp [h]; omega
    · simp [h]

end

/-- Settles O39: the erase begins, goes on to the CLEARED page, or fails at a page. -/
theorem logCleared : Obligations.LogCleared := by
  intro q s
  refine ⟨fun htaken hp hscan hopen hclear hsave hreads hop hqueue ham => ?_, fun hop => ?_,
    fun page c hop hpage hclear hsave hreads => ?_⟩
  · obtain ⟨c, hc⟩ : ∃ c, c = PendingClear.mk q.port q.tag s.store.arrivals := ⟨_, rfl⟩
    obtain ⟨u, hu⟩ : ∃ u : State, u = { s.enlist q 0x18 with
      store := { s.store with clear := some c, arrivals := s.store.arrivals + 1 } } := ⟨_, rfl⟩
    obtain ⟨v, hv⟩ : ∃ v : State, v = { u with store := { u.store with op := .erase } } := ⟨_, rfl⟩
    have hopen' : (s.enlist q 0x18).anyTakeOpen = false := by
      rw [State.reads_enlist s q 0x18 none State.anyTakeOpen (fun _ _ => rfl) fun _ _ => rfl, hopen]
    have hexec : exec (.clearLog q) s = .next v.pump := by
      refine (finish_taken htaken (Class.admits_control hp) rfl).trans ?_
      rw [if_neg (by simp [hscan]), if_neg (by simp [hopen']), if_neg (by simp [hclear]),
        if_neg (by simp [Store.reading, hreads, hop]), if_neg (by simp [hqueue, ham]),
        State.enlist_store, ← hc, ← hu, State.arbitrate_clear (c := c) (by rw [hu]; exact hop)
          (by rw [hu]; exact hsave) (by rw [hu]), ← hv]
    obtain ⟨hr, hs⟩ := quiet_pump
      ((noReply_enlist s q 0x18 none).trans (.of_eq (t := v) (by rw [hv, hu]) (by rw [hv, hu])))
      ((mum_enlist s q 0x18 none).trans (.of_eq (t := v) (by rw [hv, hu]) (by rw [hv, hu])
        (by rw [hv, hu])))
    refine ⟨_, c, hexec, by simp [hv], by simp [hv, hu], by rw [hc], by rw [hc], by simp [hv, hu],
      by simp [hv, hu], by simp [hv, hu], hr, hs⟩
  · have hexec : exec (.logEraseDone none) s = .next s.eraseGood.pump := by
      show finish _ = _
      rw [hop]
      rfl
    obtain ⟨hr, hs⟩ := quiet_pump (s := s) (u := s.eraseGood) (.of_eq rfl rfl) (.of_eq rfl rfl rfl)
    obtain ⟨p, hp⟩ : ∃ p, p = sessionPage 1 s.store.session s.takes.lastIndex s.houseTime
      s.clock.counter := ⟨_, rfl⟩
    have hstore : s.eraseGood.pump.store = { s.store with
        pointer := 0, directory := [], skipped := 0, amendments := [], failures := 0
        op := .cleared p } := by
      rw [State.pump_store, hp]; rfl
    have hflash : s.eraseGood.pump.flash = { s.flash with log := [] } := State.pump_flash _
    have htakes : s.eraseGood.pump.takes =
        { s.takes with entries := s.takes.entries.map keepUncommitted } := State.pump_takes _
    refine ⟨_, hexec, by rw [hflash], by rw [hflash], by rw [hstore], by rw [hstore], by rw [hstore],
      by rw [hstore], by rw [hstore], by rw [hstore], by rw [htakes], by rw [htakes], by rw [htakes],
      fun e => ?_, ⟨p, by rw [hstore], hp ▸ sessionPage_good _ _ _ _ _⟩, by rw [hstore],
      State.pump_units _, State.pump_slots _, hr, hs⟩
    rw [htakes]
    exact mem_keepUncommitted e
  · obtain ⟨u, hu⟩ : ∃ u, u = s.emptyLog (writePage page .damaged
      (s.flash.log.filter fun x => decide (page ≤ x.1))) := ⟨_, rfl⟩
    obtain ⟨v, hv⟩ : ∃ v, v = (((u.enterFault page).answerClear .storeFault []).endOp
      false).arbitrate := ⟨_, rfl⟩
    obtain ⟨hi, hraise, hout⟩ := State.faultClears_spec (u := u) (c := c) (by rw [hu]; exact hclear)
      (by rw [hu]; exact hsave) (by rw [hu]; exact hreads) hv
    have hexec : exec (.logEraseDone (some page)) s = .next v.pump := by
      show finish _ = _
      rw [hop]
      dsimp only
      rw [if_pos (show page < logPages from hpage), State.eraseFailed, ← hu, ← hv]
      rfl
    have hf := State.inner_fields hi
    dsimp only at hf
    have hlog : v.flash.log = writePage page .damaged
        (s.flash.log.filter fun x => decide (page ≤ x.1)) := by
      rw [show v.flash = u.flash by simp [hf], hu]
      rfl
    obtain ⟨hl1, hl2, hl3⟩ := readPage_erased s.flash.log page
    have hus : ∀ p, u.outgoing p = s.outgoing p := by rw [hu]; exact State.outgoing_congr rfl rfl
    refine ⟨_, hexec, ?_, ?_, ?_, ?_, ?_, ?_, fun p => ?_, ?_⟩
    · rw [State.pump_store, State.store_of_inner hi, hu]
      rfl
    · exact State.inner_ext (by simp [hf, hu, State.emptyLog])
    · simp [hf, hu, State.emptyLog]
    · rw [State.pump_flash, hlog]; exact hl1
    · rw [State.pump_flash, hlog]; exact hl2
    · rw [State.pump_flash, hlog]; exact hl3
    · rw [State.outgoing_pump, hout, hus, hu]
      rfl
    · rw [hu] at hraise
      exact (Mum.raised (t := s.emptyLog _) (.of_eq rfl rfl rfl) hraise).silent (silent_pump v)

end Sys2Proof.Machine
end

section
/-!
SUPPORT. Commit writes: their start, the check of a page, and how a write ends.
-/

namespace Sys2Proof.Machine

section
variable {s : State}

theorem State.beginRead_none (h : s.store.op ≠ .idle ∨ s.store.reads = []) : s.beginRead = s := by
  unfold State.beginRead
  split
  · rename_i hop hr
    rcases h with h | h
    · exact absurd hop h
    · rw [hr] at h
      cases h
  · rfl

/-- With nothing pending and no read due, the arbiter begins a write, then a read. -/
theorem State.arbitrate_write (hop : s.store.op = .idle) (hsave : s.store.save = none)
    (hclear : s.store.clear = none) (hreads : s.store.lastWrite = true → s.store.reads = []) :
    s.arbitrate = s.beginWrite.beginRead := by
  unfold State.arbitrate
  rw [if_neg (by simp [hop]), if_neg (by simp [hsave, hclear]), if_neg fun h => h.2 (hreads h.1)]

theorem State.setRecord_eq (s : State) (i : Nat) (st : RecState) : s.setRecord i st =
    { s with takes := { s.takes with entries := s.takes.inState s.store.session i st none } } := rfl

end

/-- Settles O41: the head take's pages are its record in numbered parts, or they do not fit. -/
theorem commitBegins : Obligations.CommitBegins := by
  intro i m rest e s hop hready hsave hclear hreads ham hqueue hfind hdelay hout hm
  have hdelayOut : s.delayOut i = true := by
    simp [State.delayOut, hfind, hdelay, ticksPerSecond, hout]
  have hwrite : s.beginWrite = s.beginCommit i := by
    unfold State.beginWrite State.writable State.eligibleHead State.eligible
    simp [hready, ham, hqueue, hdelayOut]
  have hexec : exec .commitDelayExpiry s = .next (s.beginCommit i).beginRead.pump := by
    show finish _ = _
    rw [show s.headDelayOut = true by rw [State.headDelayOut, hqueue]; exact hdelayOut, if_pos rfl,
      State.arbitrate_write hop hsave hclear hreads, hwrite]
    rfl
  obtain ⟨pages, hpages⟩ : ∃ pages, pages = takePages { e.copy with state := .committing } := ⟨_, rfl⟩
  have hlen : pages.length = m := by rw [hpages, takePages_length, hm]
  have hbegin : s.beginCommit i = if logPages < s.store.pointer + pages.length then s.enterLogFull
      else { s.setRecord i .committing with
        store := { s.store with op := .commit i pages } } := by
    rw [State.beginCommit, hfind, hpages]
    rfl
  rw [hlen] at hbegin
  constructor
  · intro hfits
    obtain ⟨u, hu⟩ : ∃ u : State, u = { s.setRecord i .committing with
      store := { s.store with op := .commit i pages } } := ⟨_, rfl⟩
    rw [if_neg (by rw [logPages]; omega), ← hu] at hbegin
    rw [hbegin, State.beginRead_none (.inl (by rw [hu]; nofun))] at hexec
    obtain ⟨hr, hs⟩ := quiet_pump (s := s) (u := u) (.of_eq (by rw [hu]; rfl) (by rw [hu]; rfl))
      (.of_eq (by rw [hu]; rfl) (by rw [hu]; rfl) (by rw [hu]; rfl))
    refine ⟨_, pages, hexec, hlen, hpages ▸ takePages_body _, hpages ▸ takePages_good _,
      fun k p hlt hk => takePages_part hm hlt (hpages ▸ hk), ?_, hr, hs⟩
    rw [State.inner_pump, hu, State.setRecord_eq]
  · intro hfull hnone
    rw [if_pos (by rw [logPages]; omega)] at hbegin
    obtain ⟨hi, hraise, hreply⟩ := s.enterLogFull_spec
    have hstore := State.store_of_inner hi
    rw [hbegin, State.beginRead_none (.inr (by rw [hstore]; exact hnone))] at hexec
    refine ⟨_, hexec, ⟨by rw [State.pump_store, hstore], fun p => ?_⟩, ?_, ?_⟩
    · rw [State.outgoing_pump, hreply]
    · rw [State.inner_pump, hi]
    · rw [hqueue] at hraise
      exact hraise.silent (silent_pump _)

/-! ### What a write leaves alone -/

/-- From `u` to `t` the store's work has touched the store, the take table and the settings area at
most, and the settings area only when a settings write has begun. -/
def PageEnds (u t : State) : Prop :=
  t.inner = { u with store := t.store, flash := t.flash, takes := t.takes }.inner ∧
    t.flash.log = u.flash.log ∧ (t.store.op ≠ .settings 1 → t.flash.settings = u.flash.settings)

/-- From `u` to `t` the store and the take table have changed at most. -/
def StoreOnly (u t : State) : Prop := t.inner = { u with store := t.store, takes := t.takes }.inner

section
variable {u v w : State}

theorem StoreOnly.of_inner {x : Store} {k : TakeTable}
    (h : v.inner = { u with store := x, takes := k }.inner) : StoreOnly u v := by
  have hf := State.inner_fields h
  dsimp only at hf
  exact State.inner_ext (by simp [hf])

theorem StoreOnly.trans (h : StoreOnly u v) (g : StoreOnly v w) : StoreOnly u w := by
  have hf := State.inner_fields h
  have gf := State.inner_fields g
  dsimp only at hf gf
  exact State.inner_ext (by simp [hf, gf])

theorem StoreOnly.ends (h : StoreOnly u v) : PageEnds u v := by
  have hf := State.inner_fields h
  dsimp only at hf
  have hflash : v.flash = u.flash := by simp [hf]
  exact ⟨State.inner_ext (by simp [hf]), by rw [hflash], fun _ => by rw [hflash]⟩

theorem StoreOnly.pageEnds (h : StoreOnly u v) (g : PageEnds v w) : PageEnds u w := by
  obtain ⟨g1, g2, g3⟩ := g
  have hf := State.inner_fields h
  have gf := State.inner_fields g1
  dsimp only at hf gf
  have hflash : v.flash = u.flash := by simp [hf]
  exact ⟨State.inner_ext (by simp [hf, gf]), by rw [g2, hflash], fun hop => by rw [g3 hop, hflash]⟩

theorem PageEnds.pump (h : PageEnds u v) : PageEnds u v.pump := by
  obtain ⟨h1, h2, h3⟩ := h
  rw [PageEnds, State.pump_store, State.pump_flash, State.pump_takes, State.inner_pump]
  exact ⟨h1, h2, h3⟩

theorem storeOnly_endOp (v : State) (b : Bool) : StoreOnly v (v.endOp b) := rfl

theorem storeOnly_beginRead (v : State) : StoreOnly v v.beginRead := by
  unfold State.beginRead
  split <;> rfl

theorem storeOnly_enterFault (v : State) (page : Nat) : StoreOnly v (v.enterFault page) :=
  .of_inner (v.enterFault_spec page).1

theorem storeOnly_enterLogFull (v : State) : StoreOnly v v.enterLogFull :=
  .of_inner v.enterLogFull_spec.1

theorem storeOnly_stopCommit (v : State) (i : Nat) : StoreOnly v (v.stopCommit i) := rfl

theorem storeOnly_endCommit (v : State) (i : Nat) : StoreOnly v (v.endCommit i) := by
  obtain ⟨hi, -, -⟩ := State.testFlushes_spec { v.modTake v.store.session i (fun e =>
      { e.mod (fun r => { r with state := .committed }) with order := some v.takes.nextOrder }) with
    takes := { (v.modTake v.store.session i (fun e =>
      { e.mod (fun r => { r with state := .committed }) with order := some v.takes.nextOrder })).takes
        with queue := v.takes.queue.tail, nextOrder := v.takes.nextOrder + 1 } }
  exact .of_inner hi

theorem storeOnly_answerClear (v : State) (st : Status) (l : List Field) :
    StoreOnly v (v.answerClear st l) := by
  cases h : v.store.clear with
  | none =>
    rw [State.answerClear, h]
    rfl
  | some c => exact .of_inner (State.answerClear_spec h st l).1

theorem storeOnly_beginCommit (v : State) (i : Nat) : StoreOnly v (v.beginCommit i) := by
  unfold State.beginCommit
  split
  · rfl
  · dsimp only
    split
    · exact storeOnly_enterLogFull v
    · rfl

theorem storeOnly_beginWrite (v : State) : StoreOnly v v.beginWrite := by
  unfold State.beginWrite
  split
  · rfl
  · split
    · rw [State.beginAmend]
      split
      · exact storeOnly_enterLogFull v
      · rfl
    · exact storeOnly_beginCommit v _
    · rfl

theorem pageEnds_beginPending (v : State) : PageEnds v v.beginPending := by
  have hset : PageEnds v (v.beginSettings 1) := ⟨rfl, rfl, fun h => absurd rfl h⟩
  have herase : PageEnds v { v with store := { v.store with op := .erase } } :=
    StoreOnly.ends rfl
  unfold State.beginPending
  split
  · split
    · exact hset
    · exact herase
  · exact hset
  · exact herase
  · exact StoreOnly.ends rfl

/-- What the arbiter begins leaves the log area alone. -/
theorem pageEnds_arbitrate (v : State) : PageEnds v v.arbitrate := by
  unfold State.arbitrate
  split
  · exact StoreOnly.ends rfl
  · split
    · exact pageEnds_beginPending v
    · split
      · exact (storeOnly_beginRead v).ends
      · exact ((storeOnly_beginWrite v).trans (storeOnly_beginRead _)).ends

/-- An operation that has ended, and what the arbiter then begins. -/
theorem StoreOnly.ended (h : StoreOnly u v) (b : Bool) : PageEnds u (v.endOp b).arbitrate :=
  h.pageEnds ((storeOnly_endOp v b).pageEnds (pageEnds_arbitrate _))

end

/-! ### The page written, and the end of its operation -/

/-- The page in the flash, or its place damaged. -/
def State.pageDone (s : State) (page : List Byte) (ok : Bool) : State :=
  if ok then s.pageGoodAt page else s.pageBadAt

section
variable {s u : State} {page : List Byte} {ok : Bool}

theorem State.pageDone_eq {x : Store} {d : PageData} (hd : d = if ok then .bytes page else .damaged)
    (hx : x = { s.store with
      pointer := s.store.pointer + 1
      directory := s.store.directory ++ [if ok then some (pageHeader page) else none]
      skipped := if ok then s.store.skipped else s.store.skipped + 1
      failures := if ok then 0 else 1 }) :
    s.pageDone page ok = { s with
      store := x
      flash := { s.flash with log := writePage s.store.pointer d s.flash.log } } := by
  rw [hx, hd]
  cases ok <;> rfl

/-- A commit write after one of its pages. -/
theorem State.checkCommit_eq (i : Nat) (rest : List (List Byte)) (hu : u = s.pageDone page ok) :
    (ok = true → rest = [] → s.checkCommit i page rest ok =
      ((u.endCommit i).endOp true).arbitrate) ∧
    (ok = true → rest ≠ [] → u.store.pointer < 8192 → s.checkCommit i page rest ok =
      { u with store := { u.store with op := .commit i rest } }) ∧
    (ok = false → s.store.failures = 0 → u.store.pointer < 8192 →
      s.checkCommit i page rest ok = u) ∧
    ((ok = true ∧ rest ≠ []) ∨ (ok = false ∧ s.store.failures = 0) → 8192 ≤ u.store.pointer →
      s.checkCommit i page rest ok = (((u.stopCommit i).enterLogFull).endOp true).arbitrate) ∧
    (ok = false → s.store.failures ≠ 0 → s.checkCommit i page rest ok =
      (((u.stopCommit i).enterFault s.store.pointer).endOp true).arbitrate) := by
  have hfull : 8192 ≤ u.store.pointer ↔ logPages ≤ u.store.pointer := Iff.rfl
  cases ok with
  | true =>
    have hgood : s.pageGoodAt page = u := hu.symm
    unfold State.checkCommit
    rw [if_pos rfl, hgood]
    refine ⟨fun _ h => if_pos h, fun _ h hp => ?_, nofun, fun h hp => ?_, nofun⟩
    · rw [if_neg h, if_neg (by rw [← hfull]; omega)]
    · rcases h with ⟨-, h⟩ | ⟨h, -⟩
      · rw [if_neg h, if_pos (hfull.1 hp)]
      · cases h
  | false =>
    have hbad : s.pageBadAt = u := hu.symm
    unfold State.checkCommit
    rw [if_neg nofun, hbad]
    refine ⟨nofun, nofun, fun _ h hp => ?_, fun h hp => ?_, fun _ h => if_neg h⟩
    · rw [if_pos h, if_neg (by rw [← hfull]; omega)]
    · rcases h with ⟨h, -⟩ | ⟨-, h⟩
      · cases h
      · rw [if_pos h, if_pos (hfull.1 hp)]

/-- An AMENDMENT write after its page. -/
theorem State.checkAmend_eq (a : Amendment) (hu : u = s.pageDone page ok) :
    (ok = true → s.checkAmend a page ok = ((u.dropAmendment a).endOp true).arbitrate) ∧
    (ok = false → s.store.failures = 0 → u.store.pointer < 8192 → s.checkAmend a page ok = u) ∧
    (ok = false → s.store.failures = 0 → 8192 ≤ u.store.pointer →
      s.checkAmend a page ok = (u.enterLogFull.endOp true).arbitrate) ∧
    (ok = false → s.store.failures ≠ 0 → s.checkAmend a page ok =
      ((u.enterFault s.store.pointer).endOp true).arbitrate) := by
  have hfull : 8192 ≤ u.store.pointer ↔ logPages ≤ u.store.pointer := Iff.rfl
  cases ok with
  | true =>
    have hgood : s.pageGoodAt page = u := hu.symm
    unfold State.checkAmend
    rw [if_pos rfl, hgood]
    exact ⟨fun _ => rfl, nofun, nofun, nofun⟩
  | false =>
    have hbad : s.pageBadAt = u := hu.symm
    unfold State.checkAmend
    rw [if_neg nofun, hbad]
    refine ⟨nofun, fun _ h hp => ?_, fun _ h hp => ?_, fun _ h => if_neg h⟩
    · rw [if_pos h, if_neg (by rw [← hfull]; omega)]
    · rw [if_pos h, if_pos (hfull.1 hp)]

/-- The CLEARED page after its write. -/
theorem State.checkCleared_eq (hu : u = s.pageDone page ok) :
    (ok = true → s.checkCleared page ok = (((({ u with store := { u.store with
      state := .ready } }).noteStore 3 (some u.store.pointer) none).answerClear .ok
        [fCount u.store.pointer]).endOp false).arbitrate) ∧
    (ok = false → s.store.failures = 0 → s.checkCleared page ok = u) ∧
    (ok = false → s.store.failures ≠ 0 → s.checkCleared page ok =
      ((((u.enterFault s.store.pointer).answerClear .storeFault []).endOp false).arbitrate)) := by
  cases ok with
  | true =>
    have hgood : s.pageGoodAt page = u := hu.symm
    unfold State.checkCleared
    rw [if_pos rfl, hgood]
    exact ⟨fun _ => rfl, nofun, nofun⟩
  | false =>
    have hbad : s.pageBadAt = u := hu.symm
    unfold State.checkCleared
    rw [if_neg nofun, hbad]
    exact ⟨nofun, fun _ h => if_pos h, fun _ h => if_neg h⟩

/-- The page after its write, whatever its operation then does. -/
theorem page_ends {x : Store} {d : PageData} {v : State} (hd : d = if ok then .bytes page else .damaged)
    (hu : u = { s with
      store := x, flash := { s.flash with log := writePage s.store.pointer d s.flash.log } })
    (h : PageEnds u v) :
    readPage v.flash.log s.store.pointer = some (if ok then .bytes page else .damaged) ∧
      (∀ k, k ≠ s.store.pointer → readPage v.flash.log k = readPage s.flash.log k) ∧
      (v.store.op ≠ .settings 1 → v.flash.settings = s.flash.settings) ∧
      v.inner = { s with store := v.store, flash := v.flash, takes := v.takes }.inner := by
  obtain ⟨hi, hlog, hset⟩ := h
  have hlog' : v.flash.log = writePage s.store.pointer d s.flash.log := by rw [hlog, hu]
  refine ⟨?_, fun k hk => ?_, fun hop => ?_, ?_⟩
  · rw [hlog', readPage_writePage_same, hd]
  · rw [hlog', readPage_writePage_other _ _ _ _ hk]
  · rw [hset hop, hu]
  · rw [hi, hu]

/-- A write that cannot go on, with nothing else for the flash to do: the store has left READY. -/
theorem write_stopped {w v : State} {st : StoreState} {why : Status} {cause pg : Nat}
    (hm : Mum s w) (hr : NoReply s w) (hq : w.takes.queue = s.takes.queue)
    (hfl : w.store.flushes = s.store.flushes) (hss : w.store.session = s.store.session)
    (hsave : w.store.save = none) (hclear : w.store.clear = none) (hreads : w.store.reads = [])
    (hst : st ≠ .ready)
    (h : v.inner = { w with store := { w.store with state := st, flushes := [] } }.inner ∧
      Raised w v 0x4B ([fByte cause, fSession w.store.session, fByte 1, fCount pg] ++
        fOpt1 fIndex w.takes.queue.head?) ∧
      ∀ p, v.outgoing p = w.outgoing p ++
        flushReplies w.store.flushes p why fun _ => w.headField) :
    (v.endOp true).arbitrate.pump.store = { w.store with
        state := st, flushes := [], op := .idle, lastWrite := true } ∧
      (v.endOp true).arbitrate.pump.takes = w.takes ∧
      FlushesFail s (v.endOp true).arbitrate.pump why ∧
      Raised s (v.endOp true).arbitrate.pump 0x4B
        ([fByte cause, fSession s.store.session, fByte 1, fCount pg] ++
          fOpt1 fIndex s.takes.queue.head?) := by
  obtain ⟨hi, hraise, ho⟩ := h
  have hvs : v.store = { w.store with state := st, flushes := [] } := State.store_of_inner hi
  have hes : (v.endOp true).store = { w.store with
      state := st, flushes := [], op := .idle, lastWrite := true } := by rw [State.endOp, hvs]
  have hset : (v.endOp true).settled := State.settled_of_nothing (by rw [hes]; exact hsave)
    (by rw [hes]; exact hclear) (by rw [hes]; exact hreads) (.inl (by rw [hes]; exact hst))
  have hhead : w.headField = s.headField := by rw [State.headField, State.headField, hq]
  have hf := State.inner_fields hi
  dsimp only at hf
  rw [State.arbitrate_settled hset]
  refine ⟨by rw [State.pump_store, hes], ?_, ⟨by rw [State.pump_store, hes], fun p => ?_⟩, ?_⟩
  · rw [State.pump_takes]
    show v.takes = _
    simp [hf]
  · rw [State.outgoing_pump, State.outgoing_congr (s := v) (t := v.endOp true) rfl rfl, ho, hr p, hfl,
      hhead]
  · rw [hss, hq] at hraise
    exact (hm.raised hraise).silent
      ((Mum.of_eq (s := v) (t := v.endOp true) rfl rfl rfl).silent.trans (silent_pump _))

/-- A write that has ended well, with nothing else for the flash to do. -/
theorem write_ended {v : State} (hm : Mum s v) (b : Bool) (hsave : v.store.save = none)
    (hclear : v.store.clear = none) (hreads : v.store.reads = [])
    (ham : v.store.amendments = []) (hq : v.takes.queue = []) :
    (v.endOp b).arbitrate.pump.store = { v.store with op := .idle, lastWrite := b } ∧
      (v.endOp b).arbitrate.pump.takes = v.takes ∧ Silent s (v.endOp b).arbitrate.pump ∧
      ∀ p, (v.endOp b).arbitrate.pump.outgoing p = v.outgoing p := by
  have hhead : (v.endOp b).eligibleHead = none := by
    rw [State.eligibleHead, show (v.endOp b).takes.queue = [] from hq]
  rw [State.arbitrate_nothing (s := v.endOp b) (State.beginWrite_none (.inr ⟨ham, hhead⟩)) hsave hclear hreads]
  refine ⟨State.pump_store _, State.pump_takes _, ?_, fun p => ?_⟩
  · exact (hm.trans (.of_eq (s := v) (t := v.endOp b) rfl rfl rfl)).silent.trans (silent_pump _)
  · rw [State.outgoing_pump]
    exact State.outgoing_congr rfl rfl p

end

end Sys2Proof.Machine
end

section
/-!
SUPPORT. The check of a page of a commit write, of an amendment and of CLEAR_LOG.
-/

namespace Sys2Proof.Machine

section
variable {s u t : State} {x : Store} {d : PageData} {page : List Byte} {ok : Bool} {head : List Field}

/-- With an empty queue every waiting FLUSH is done. -/
theorem WaitingFlush.done_nil (f : WaitingFlush) : f.done [] = true := by simp [WaitingFlush.done]

/-- The only closed take COMMITTED: every waiting FLUSH is answered. -/
theorem State.endCommit_spec {i : Nat} (hq : u.takes.queue = [i]) :
    (u.endCommit i).inner = { u with
        store := { u.store with flushes := [] }
        takes := { u.takes with
          entries := u.takes.inState u.store.session i .committed (some u.takes.nextOrder)
          queue := []
          nextOrder := u.takes.nextOrder + 1 } }.inner ∧
      Mum u (u.endCommit i) ∧ ∀ p, (u.endCommit i).outgoing p = u.outgoing p ++
        flushReplies u.store.flushes p .ok fun f => [fCount f.boundary.length] := by
  obtain ⟨k, hk⟩ : ∃ k : State, k = { u with takes := { u.takes with
      entries := u.takes.inState u.store.session i .committed (some u.takes.nextOrder)
      queue := []
      nextOrder := u.takes.nextOrder + 1 } } := ⟨_, rfl⟩
  have hend : u.endCommit i = k.testFlushes := by
    rw [hk, ← show u.takes.queue.tail = [] by rw [hq]; rfl]
    rfl
  obtain ⟨hi, hm, ho⟩ := k.testFlushes_spec
  have hkq : k.takes.queue = [] := by rw [hk]
  have hks : k.store = u.store := by rw [hk]
  have hall : (k.store.flushes.filter fun f => f.done k.takes.queue) = u.store.flushes := by
    rw [hkq, hks, List.filter_eq_self.2 fun f _ => f.done_nil]
  have hnone : (k.store.flushes.filter fun f => !f.done k.takes.queue) = [] := by
    rw [hkq, List.filter_eq_nil_iff.2 fun f _ => by simp [f.done_nil]]
  rw [hall] at ho
  rw [hnone] at hi
  rw [hend]
  refine ⟨hi.trans (by rw [hk]), ?_, fun p => ?_⟩
  · exact (Mum.of_eq (by rw [hk]) (by rw [hk]) (by rw [hk])).trans hm
  · rw [ho, State.outgoing_congr (s := u) (t := k) (by rw [hk]) (by rw [hk])]

/-- The amendments behind a take whose commit write stops are dropped. -/
theorem State.stopCommit_eq (i : Nat) : u.stopCommit i = { u with
    takes := { u.takes with entries := u.takes.inState u.store.session i .closed none }
    store := { u.store with amendments := u.store.amendments.filter fun a =>
      ¬ (a.session = u.store.session ∧ a.index = i) } } := by
  have hf : (u.store.amendments.filter fun a => !(a.session = u.store.session && a.index = i)) =
      u.store.amendments.filter fun a => ¬ (a.session = u.store.session ∧ a.index = i) :=
    List.filter_congr fun a _ => by simp
  rw [← hf]
  rfl

theorem commitPage_checked {i : Nat} {rest : List (List Byte)} (hx : x = { s.store with
      pointer := s.store.pointer + 1
      directory := s.store.directory ++ [if ok then some (pageHeader page) else none]
      skipped := if ok then s.store.skipped else s.store.skipped + 1
      failures := if ok then 0 else 1 })
    (hhead : head = fOpt1 fIndex s.takes.queue.head?) (hu : u = s.pageDone page ok)
    (hue : u = { s with
      store := x, flash := { s.flash with log := writePage s.store.pointer d s.flash.log } })
    (ht : t = (s.checkCommit i page rest ok).pump) :
    (ok = true → rest ≠ [] → s.store.pointer + 1 < 8192 →
      t.store = { x with op := .commit i rest } ∧ t.takes = s.takes ∧ NoReply s t ∧ Silent s t) ∧
    (ok = false → s.store.failures = 0 → s.store.pointer + 1 < 8192 →
      t.store = x ∧ t.takes = s.takes ∧ NoReply s t ∧ Silent s t) ∧
    (s.store.save = none → s.store.clear = none → s.store.reads = [] →
      (ok = true → rest = [] → s.takes.queue = [i] → s.store.amendments = [] →
        t.store = { x with flushes := [], op := .idle, lastWrite := true } ∧
        t.takes = { s.takes with
          entries := s.takes.inState s.store.session i .committed (some s.takes.nextOrder)
          queue := []
          nextOrder := s.takes.nextOrder + 1 } ∧ Silent s t ∧
        ∀ p, t.outgoing p = s.outgoing p ++ flushReplies s.store.flushes p .ok fun f =>
          [fCount f.boundary.length]) ∧
      ((ok = true ∧ rest ≠ []) ∨ (ok = false ∧ s.store.failures = 0) →
        8192 ≤ s.store.pointer + 1 →
        t.store = { x with
          state := .logFull
          amendments := s.store.amendments.filter fun a =>
            ¬ (a.session = s.store.session ∧ a.index = i)
          flushes := []
          op := .idle
          lastWrite := true } ∧
        t.takes = { s.takes with entries := s.takes.inState s.store.session i .closed none } ∧
        FlushesFail s t .logFull ∧
        Raised s t 0x4B ([fByte 1, fSession s.store.session, fByte 1,
          fCount (s.store.pointer + 1)] ++ head)) ∧
      (ok = false → s.store.failures = 1 →
        t.store = { x with
          state := .fault
          amendments := s.store.amendments.filter fun a =>
            ¬ (a.session = s.store.session ∧ a.index = i)
          flushes := []
          op := .idle
          lastWrite := true } ∧
        t.takes = { s.takes with entries := s.takes.inState s.store.session i .closed none } ∧
        FlushesFail s t .storeFault ∧
        Raised s t 0x4B ([fByte 0, fSession s.store.session, fByte 1,
          fCount s.store.pointer] ++ head))) := by
  obtain ⟨hlast, hnext, hagain, hfull, hfault⟩ := State.checkCommit_eq i rest hu
  have hptr : u.store.pointer = s.store.pointer + 1 := by rw [hue, hx]
  have hm : Mum s u := .of_eq (by rw [hue]) (by rw [hue]) (by rw [hue])
  have hr : NoReply s u := .of_eq (by rw [hue]) (by rw [hue])
  obtain ⟨w, hw⟩ : ∃ w, w = u.stopCommit i := ⟨_, rfl⟩
  have hwe := hw.trans (State.stopCommit_eq i)
  have hws : w.store = { x with amendments := s.store.amendments.filter fun a =>
      ¬ (a.session = s.store.session ∧ a.index = i) } := by
    rw [hwe, hue, hx]
  have hwt : w.takes = { s.takes with
      entries := s.takes.inState s.store.session i .closed none } := by
    rw [hwe, hue, hx]
  have hmw : Mum s w := .of_eq (by rw [hwe, hue]) (by rw [hwe, hue]) (by rw [hwe, hue])
  have hrw : NoReply s w := .of_eq (by rw [hwe, hue]) (by rw [hwe, hue])
  rw [← hw] at hfull hfault
  refine ⟨fun ho hne hp => ?_, fun ho h0 hp => ?_, fun hsave hclear hreads =>
    ⟨fun ho he hq ham => ?_, fun h hp => ?_, fun ho h1 => ?_⟩⟩
  · rw [hnext ho hne (by omega)] at ht
    have hq := quiet_pump (s := s) (u := { u with store := { u.store with op := .commit i rest } })
      (hr.trans (.of_eq rfl rfl)) (hm.trans (.of_eq rfl rfl rfl))
    rw [ht, State.pump_store, State.pump_takes, hue]
    rw [hue] at hq
    exact ⟨rfl, rfl, hq⟩
  · rw [hagain ho h0 (by omega)] at ht
    rw [ht, State.pump_store, State.pump_takes]
    exact ⟨by rw [hue], by rw [hue], quiet_pump hr hm⟩
  · obtain ⟨hi, hme, hoe⟩ := State.endCommit_spec (u := u) (i := i) (by rw [hue]; exact hq)
    have hf := State.inner_fields hi
    dsimp only at hf
    have hes : (u.endCommit i).store = { x with flushes := [] } := by
      rw [State.store_of_inner hi, hue]
    have het : (u.endCommit i).takes = { s.takes with
        entries := s.takes.inState s.store.session i .committed (some s.takes.nextOrder)
        queue := []
        nextOrder := s.takes.nextOrder + 1 } := by
      rw [show (u.endCommit i).takes = _ from hf.2.2.2.2.2.2.2.2.2.2.2.1, hue, hx]
    obtain ⟨g1, g2, g3, g4⟩ := write_ended (hm.trans hme) true (by rw [hes, hx]; exact hsave)
      (by rw [hes, hx]; exact hclear) (by rw [hes, hx]; exact hreads)
      (by rw [hes, hx]; exact ham) (by rw [het])
    rw [ht, hlast ho he]
    refine ⟨by rw [g1, hes], by rw [g2, het], g3, fun p => ?_⟩
    rw [g4, hoe, hr p, hue, hx]
  · rw [ht, hfull h (by omega), hhead]
    have hpw : w.store.pointer = s.store.pointer + 1 := by rw [hws, hx]
    obtain ⟨g1, g2, g3, g4⟩ := write_stopped hmw hrw (by rw [hwt]) (by rw [hws, hx]) (by rw [hws, hx])
      (by rw [hws, hx]; exact hsave) (by rw [hws, hx]; exact hclear) (by rw [hws, hx]; exact hreads)
      (by nofun) w.enterLogFull_spec
    exact ⟨by rw [g1, hws], by rw [g2, hwt], g3, by rw [← hpw]; exact g4⟩
  · rw [ht, hfault ho (by omega), hhead]
    obtain ⟨g1, g2, g3, g4⟩ := write_stopped hmw hrw (by rw [hwt]) (by rw [hws, hx]) (by rw [hws, hx])
      (by rw [hws, hx]; exact hsave) (by rw [hws, hx]; exact hclear) (by rw [hws, hx]; exact hreads)
      (by nofun) (w.enterFault_spec s.store.pointer)
    exact ⟨by rw [g1, hws], by rw [g2, hwt], g3, g4⟩

theorem amendPage_checked {a : Amendment} (hx : x = { s.store with
      pointer := s.store.pointer + 1
      directory := s.store.directory ++ [if ok then some (pageHeader page) else none]
      skipped := if ok then s.store.skipped else s.store.skipped + 1
      failures := if ok then 0 else 1 })
    (hhead : head = fOpt1 fIndex s.takes.queue.head?) (hu : u = s.pageDone page ok)
    (hue : u = { s with
      store := x, flash := { s.flash with log := writePage s.store.pointer d s.flash.log } })
    (ht : t = (s.checkAmend a page ok).pump) :
    (ok = false → s.store.failures = 0 → s.store.pointer + 1 < 8192 →
      t.store = x ∧ t.takes = s.takes ∧ NoReply s t ∧ Silent s t) ∧
    (s.store.save = none → s.store.clear = none → s.store.reads = [] →
      (ok = true → s.store.amendments = [a] → s.takes.queue = [] →
        t.store = { x with amendments := [], op := .idle, lastWrite := true } ∧
        t.takes = s.takes ∧ NoReply s t ∧ Silent s t) ∧
      (ok = false → s.store.failures = 0 → 8192 ≤ s.store.pointer + 1 →
        t.store = { x with
          state := .logFull, flushes := [], op := .idle, lastWrite := true } ∧
        t.takes = s.takes ∧ FlushesFail s t .logFull ∧
        Raised s t 0x4B ([fByte 1, fSession s.store.session, fByte 1,
          fCount (s.store.pointer + 1)] ++ head)) ∧
      (ok = false → s.store.failures = 1 →
        t.store = { x with
          state := .fault, flushes := [], op := .idle, lastWrite := true } ∧
        t.takes = s.takes ∧ FlushesFail s t .storeFault ∧
        Raised s t 0x4B ([fByte 0, fSession s.store.session, fByte 1,
          fCount s.store.pointer] ++ head))) := by
  obtain ⟨hgood, hagain, hfull, hfault⟩ := State.checkAmend_eq a hu
  have hus : u.store = x := by rw [hue]
  have hut : u.takes = s.takes := by rw [hue]
  have hptr : x.pointer = s.store.pointer + 1 := by rw [hx]
  have hm : Mum s u := .of_eq (by rw [hue]) (by rw [hue]) (by rw [hue])
  have hr : NoReply s u := .of_eq (by rw [hue]) (by rw [hue])
  refine ⟨fun ho h0 hp => ?_, fun hsave hclear hreads => ⟨fun ho ham hq => ?_, fun ho h0 hp => ?_,
    fun ho h1 => ?_⟩⟩
  · rw [ht, hagain ho h0 (by rw [hus]; omega), State.pump_store, State.pump_takes]
    exact ⟨hus, hut, quiet_pump hr hm⟩
  · have hds : (u.dropAmendment a).store = { x with amendments := [] } := by
      rw [State.dropAmendment, hus, hx, ham, List.erase_cons_head]
    obtain ⟨g1, g2, g3, g4⟩ := write_ended (hm.trans (.of_eq (t := u.dropAmendment a) rfl rfl rfl)) true
      (by rw [hds, hx]; exact hsave) (by rw [hds, hx]; exact hclear) (by rw [hds, hx]; exact hreads)
      (by rw [hds]) (by rw [show (u.dropAmendment a).takes = s.takes from hut]; exact hq)
    rw [ht, hgood ho]
    exact ⟨by rw [g1, hds], g2.trans hut, fun p => (g4 p).trans (hr p), g3⟩
  · rw [ht, hfull ho h0 (by rw [hus]; omega), hhead]
    obtain ⟨g1, g2, g3, g4⟩ := write_stopped hm hr (by rw [hut]) (by rw [hus, hx]) (by rw [hus, hx])
      (by rw [hus, hx]; exact hsave) (by rw [hus, hx]; exact hclear) (by rw [hus, hx]; exact hreads)
      (by nofun) u.enterLogFull_spec
    exact ⟨by rw [g1, hus], by rw [g2, hut], g3, by rw [← hptr, ← hus]; exact g4⟩
  · rw [ht, hfault ho (by omega), hhead]
    obtain ⟨g1, g2, g3, g4⟩ := write_stopped hm hr (by rw [hut]) (by rw [hus, hx]) (by rw [hus, hx])
      (by rw [hus, hx]; exact hsave) (by rw [hus, hx]; exact hclear) (by rw [hus, hx]; exact hreads)
      (by nofun) (u.enterFault_spec s.store.pointer)
    exact ⟨by rw [g1, hus], by rw [g2, hut], g3, g4⟩

theorem clearedPage_checked {c : PendingClear} (hc : s.store.clear = some c) (hx : x = { s.store with
      pointer := s.store.pointer + 1
      directory := s.store.directory ++ [if ok then some (pageHeader page) else none]
      skipped := if ok then s.store.skipped else s.store.skipped + 1
      failures := if ok then 0 else 1 })
    (hhead : head = fOpt1 fIndex s.takes.queue.head?) (hu : u = s.pageDone page ok)
    (hue : u = { s with
      store := x, flash := { s.flash with log := writePage s.store.pointer d s.flash.log } })
    (ht : t = (s.checkCleared page ok).pump) :
    (ok = false → s.store.failures = 0 → t.store = x ∧ t.takes = s.takes ∧ NoReply s t ∧
      Silent s t) ∧
    (s.store.save = none → s.store.reads = [] → s.store.flushes = [] →
      (ok = true → s.store.amendments = [] → s.takes.queue = [] →
        t.store = { x with
          state := .ready, clear := none, op := .idle, lastWrite := false } ∧
        t.takes = s.takes ∧
        t.outgoing c.port = s.outgoing c.port ++ [⟨replyMessage 0x18 c.tag .ok
          [fCount (s.store.pointer + 1)], true, false⟩] ∧
        t.outgoing (otherPort c.port) = s.outgoing (otherPort c.port) ∧
        Raised s t 0x4B [fByte 3, fSession s.store.session, fByte 1,
          fCount (s.store.pointer + 1), fByte 0]) ∧
      (ok = false → s.store.failures = 1 →
        t.store = { x with
          state := .fault, clear := none, op := .idle, lastWrite := false } ∧
        t.takes = s.takes ∧
        t.outgoing c.port = s.outgoing c.port ++
          [⟨replyMessage 0x18 c.tag .storeFault [], true, false⟩] ∧
        t.outgoing (otherPort c.port) = s.outgoing (otherPort c.port) ∧
        Raised s t 0x4B ([fByte 0, fSession s.store.session, fByte 1,
          fCount s.store.pointer] ++ head))) := by
  obtain ⟨hgood, hagain, hfault⟩ := State.checkCleared_eq hu
  have hus : u.store = x := by rw [hue]
  have hut : u.takes = s.takes := by rw [hue]
  have hptr : x.pointer = s.store.pointer + 1 := by rw [hx]
  have hm : Mum s u := .of_eq (by rw [hue]) (by rw [hue]) (by rw [hue])
  have hr : NoReply s u := .of_eq (by rw [hue]) (by rw [hue])
  have hother : otherPort c.port ≠ c.port := by cases c.port <;> nofun
  refine ⟨fun ho h0 => ?_, fun hsave hreads hfl => ⟨fun ho ham hq => ?_, fun ho h1 => ?_⟩⟩
  · rw [ht, hagain ho h0, State.pump_store, State.pump_takes]
    exact ⟨hus, hut, quiet_pump hr hm⟩
  · obtain ⟨v, hv⟩ : ∃ v : State, v = ({ u with store := { u.store with
        state := .ready } }).noteStore 3 (some u.store.pointer) none := ⟨_, rfl⟩
    have hvs : v.store = { x with state := .ready } := by
      rw [hv, State.noteStore, State.notify_store, hus]
    have hvt : v.takes = s.takes := by
      rw [hv, State.noteStore, State.notify_takes, hut]
    have hvr : NoReply s v := by
      rw [hv]
      exact (hr.trans (.of_eq (s := u) rfl rfl)).trans (noReply_notify _ _ _)
    obtain ⟨hi, hma, ho'⟩ := State.answerClear_spec (s := v) (c := c) (by rw [hvs, hx]; exact hc) .ok
      [fCount u.store.pointer]
    obtain ⟨w, hw⟩ : ∃ w, w = v.answerClear .ok [fCount u.store.pointer] := ⟨_, rfl⟩
    rw [← hv, ← hw] at hgood
    rw [← hw] at hi hma ho'
    have hws : w.store = { x with state := .ready, clear := none } := by
      rw [State.store_of_inner hi, hvs]
    have hwt : w.takes = s.takes := by
      have hf := State.inner_fields hi
      dsimp only at hf
      rw [← hvt]
      simp [hf]
    obtain ⟨g1, g2, g3, g4⟩ := write_ended hma false (by rw [hws, hx]; exact hsave) (by rw [hws])
      (by rw [hws, hx]; exact hreads) (by rw [hws, hx]; exact ham) (by rw [hwt]; exact hq)
    have hraise : Raised s v 0x4B [fByte 3, fSession s.store.session, fByte 1,
        fCount (s.store.pointer + 1), fByte 0] := by
      have h := (hm.trans (mum_store u { u.store with state := .ready })).raised
        (State.raised_notify _ 0x4B ([fByte 3, fSession u.store.session] ++
          fOpt1 fCount (some u.store.pointer) ++ fOpt1 fIndex none))
      rw [hv]
      rw [show s.store.session = u.store.session by rw [hus, hx], ← hptr, ← hus]
      exact h
    rw [ht, hgood ho]
    refine ⟨by rw [g1, hws], by rw [g2, hwt], ?_, ?_, hraise.silent g3⟩
    · rw [g4, ho', hvr, if_pos rfl, hus, hptr]
    · rw [g4, ho', hvr, if_neg hother, List.append_nil]
  · obtain ⟨v, hv⟩ : ∃ v, v = ((((u.enterFault s.store.pointer).answerClear .storeFault []).endOp
      false).arbitrate) := ⟨_, rfl⟩
    obtain ⟨hi, hraise, hreply⟩ := State.faultClears_spec (u := u) (c := c)
      (by rw [hus, hx]; exact hc) (by rw [hus, hx]; exact hsave) (by rw [hus, hx]; exact hreads) hv
    have hnone : u.store.flushes = [] := by rw [hus, hx]; exact hfl
    have hf := State.inner_fields hi
    dsimp only at hf
    rw [hut, show u.store.session = s.store.session by rw [hus, hx], ← hhead] at hraise
    rw [ht, hfault ho (by omega), ← hv]
    refine ⟨?_, ?_, ?_, ?_, (hm.raised hraise).silent (silent_pump v)⟩
    · have hxf : x.flushes = [] := by rw [hx]; exact hfl
      rw [State.pump_store, State.store_of_inner hi]
      simp only [hus, hxf]
    · rw [State.pump_takes, ← hut]
      simp [hf]
    · rw [State.outgoing_pump, hreply, hr, hnone, if_pos rfl]
      exact congrArg (· ++ _) (List.append_nil _)
    · rw [State.outgoing_pump, hreply, hr, hnone, if_neg hother, List.append_nil]
      exact List.append_nil _

end

section
variable {s u : State} {page : List Byte} {ok : Bool}

/-- However a commit write goes on from its page. -/
theorem pageEnds_checkCommit (i : Nat) (rest : List (List Byte)) (hu : u = s.pageDone page ok) :
    PageEnds u (s.checkCommit i page rest ok) := by
  obtain ⟨hlast, hnext, hagain, hfull, hfault⟩ := State.checkCommit_eq i rest hu
  have hstop := storeOnly_stopCommit u i
  rcases Nat.lt_or_ge u.store.pointer 8192 with hp | hp
  · cases ok with
    | true =>
      by_cases h : rest = []
      · rw [hlast rfl h]
        exact (storeOnly_endCommit u i).ended true
      · rw [hnext rfl h hp]
        exact StoreOnly.ends rfl
    | false =>
      by_cases h : s.store.failures = 0
      · rw [hagain rfl h hp]
        exact StoreOnly.ends rfl
      · rw [hfault rfl h]
        exact (hstop.trans (storeOnly_enterFault _ _)).ended true
  · cases ok with
    | true =>
      by_cases h : rest = []
      · rw [hlast rfl h]
        exact (storeOnly_endCommit u i).ended true
      · rw [hfull (.inl ⟨rfl, h⟩) hp]
        exact (hstop.trans (storeOnly_enterLogFull _)).ended true
    | false =>
      by_cases h : s.store.failures = 0
      · rw [hfull (.inr ⟨rfl, h⟩) hp]
        exact (hstop.trans (storeOnly_enterLogFull _)).ended true
      · rw [hfault rfl h]
        exact (hstop.trans (storeOnly_enterFault _ _)).ended true

theorem pageEnds_checkAmend (a : Amendment) (hu : u = s.pageDone page ok) :
    PageEnds u (s.checkAmend a page ok) := by
  obtain ⟨hgood, hagain, hfull, hfault⟩ := State.checkAmend_eq a hu
  cases ok with
  | true =>
    rw [hgood rfl]
    exact StoreOnly.ended (v := u.dropAmendment a) rfl true
  | false =>
    by_cases h : s.store.failures = 0
    · rcases Nat.lt_or_ge u.store.pointer 8192 with hp | hp
      · rw [hagain rfl h hp]
        exact StoreOnly.ends rfl
      · rw [hfull rfl h hp]
        exact (storeOnly_enterLogFull u).ended true
    · rw [hfault rfl h]
      exact (storeOnly_enterFault u _).ended true

theorem pageEnds_checkCleared (hu : u = s.pageDone page ok) :
    PageEnds u (s.checkCleared page ok) := by
  obtain ⟨hgood, hagain, hfault⟩ := State.checkCleared_eq hu
  cases ok with
  | true =>
    rw [hgood rfl]
    have hnote : StoreOnly u (({ u with store := { u.store with state := .ready } }).noteStore 3
        (some u.store.pointer) none) := .of_inner (State.inner_notify _ _ _)
    exact (hnote.trans (storeOnly_answerClear _ _ _)).ended false
  | false =>
    by_cases h : s.store.failures = 0
    · rw [hagain rfl h]
      exact StoreOnly.ends rfl
    · rw [hfault rfl h]
      exact ((storeOnly_enterFault u _).trans (storeOnly_answerClear _ _ _)).ended false

end

/-- Settles O42: each kind of write is followed through the four outcomes of its page. -/
theorem pageWriteChecked : Obligations.PageWriteChecked := by
  intro ok s x page head hop hx hhead
  obtain ⟨d, hd⟩ : ∃ d : PageData, d = if ok then .bytes page else .damaged := ⟨_, rfl⟩
  obtain ⟨u, hu⟩ : ∃ u, u = s.pageDone page ok := ⟨_, rfl⟩
  have hue := hu.trans (State.pageDone_eq hd hx)
  have hexec : ∀ v, (match s.store.op with
      | .commit i (p :: rest) => s.checkCommit i p rest ok
      | .amend a p => s.checkAmend a p ok
      | .cleared p => s.checkCleared p ok
      | _ => s) = v → exec (.pageWriteCheck ok) s = .next v.pump := by
    rintro v rfl
    rfl
  rcases hop with ⟨i, rest, hop⟩ | ⟨a, hop⟩ | hop
  · obtain ⟨h1, h2, h3, h4⟩ := page_ends hd hue (pageEnds_checkCommit i rest hu).pump
    refine ⟨_, hexec (s.checkCommit i page rest ok) (by rw [hop]), h1, h2, h3, h4,
      fun j l h _ => ?_, fun a h => ?_, fun c h => ?_⟩
    · rw [hop] at h
      cases h
      exact commitPage_checked hx hhead hu hue rfl
    · rw [hop] at h
      cases h
    · rw [hop] at h
      cases h
  · obtain ⟨h1, h2, h3, h4⟩ := page_ends hd hue (pageEnds_checkAmend a hu).pump
    refine ⟨_, hexec (s.checkAmend a page ok) (by rw [hop]), h1, h2, h3, h4, fun j l h => ?_,
      fun b h => ?_, fun c h => ?_⟩
    · rw [hop] at h
      cases h
    · rw [hop] at h
      cases h
      exact amendPage_checked hx hhead hu hue rfl
    · rw [hop] at h
      cases h
  · obtain ⟨h1, h2, h3, h4⟩ := page_ends hd hue (pageEnds_checkCleared hu).pump
    refine ⟨_, hexec (s.checkCleared page ok) (by rw [hop]), h1, h2, h3, h4, fun j l h => ?_,
      fun b h => ?_, fun c _ hc => ?_⟩
    · rw [hop] at h
      cases h
    · rw [hop] at h
      cases h
    · exact clearedPage_checked hc hx hhead hu hue rfl

end Sys2Proof.Machine
end

section
/-!
SUPPORT. Start-up: the settings applied, the scan of the log area, and its completion.
-/

namespace Sys2Proof.Machine

/-! ### SETTINGS_APPLY -/

/-- What a saved slot says of a line, when it names it. -/
def namesLine (n : Nat) (x : Option (DeviceSettings × Bool) × Nat) : Option (Nat × Bool) :=
  match x.1 with
  | some (d, on) => if d.att = .line n then some (x.2, on) else none
  | none => none

theorem namesLine_eq_some {n i : Nat} {o : Option (DeviceSettings × Bool)} {y : Nat × Bool} :
    namesLine n (o, i) = some y ↔ ∃ d, o = some (d, y.2) ∧ d.att = .line n ∧ y.1 = i := by
  obtain ⟨j, on⟩ := y
  unfold namesLine
  cases o with
  | none => simp
  | some p =>
    obtain ⟨d, b⟩ := p
    by_cases h : d.att = .line n
    · simp [h, and_comm, eq_comm]
    · simp only [h, if_false]
      constructor
      · nofun
      · rintro ⟨e, he, ha, -⟩
        cases he
        exact absurd ha h

section
variable {c : Snapshot}

theorem Snapshot.mem_slots {i : Nat} {o : Option (DeviceSettings × Bool)} :
    (o, i) ∈ c.slots.toList.zipIdx ↔ ∃ h : i < 32, c.slots[i] = o := by
  rw [List.mk_mem_zipIdx_iff_getElem?, Vector.getElem?_toList, Vector.getElem?_eq_some_iff]

/-- The one saved slot that names a line. -/
theorem Snapshot.onLine_unique {n : Nat} {i : Fin 32} {d : DeviceSettings} {on : Bool}
    (hi : c.slots[i] = some (d, on)) (ha : d.att = .line n)
    (hu : ∀ (j : Fin 32) y b, c.slots[j] = some (y, b) → y.att = .line n → j = i) :
    c.onLine n = some (i.val, on) := by
  have hmem : (some (d, on), i.val) ∈ c.slots.toList.zipIdx := Snapshot.mem_slots.2 ⟨i.isLt, hi⟩
  show c.slots.toList.zipIdx.findSome? (namesLine n) = _
  cases hf : c.slots.toList.zipIdx.findSome? (namesLine n) with
  | none =>
    have := List.findSome?_eq_none_iff.1 hf _ hmem
    rw [(namesLine_eq_some (y := (i.val, on))).2 ⟨d, rfl, ha, rfl⟩] at this
    cases this
  | some y =>
    obtain ⟨⟨o, j⟩, hj, hy⟩ := List.exists_of_findSome?_eq_some hf
    obtain ⟨k, b⟩ := y
    obtain ⟨e, rfl, he, rfl⟩ := namesLine_eq_some.1 hy
    obtain ⟨hlt, hslot⟩ := Snapshot.mem_slots.1 hj
    have hji := hu ⟨_, hlt⟩ e b hslot he
    subst hji
    have hsame := hslot.symm.trans hi
    cases hsame
    rfl

theorem Snapshot.onLine_none {n : Nat}
    (h : ∀ (j : Fin 32) y b, c.slots[j] = some (y, b) → y.att ≠ .line n) : c.onLine n = none := by
  show c.slots.toList.zipIdx.findSome? (namesLine n) = none
  refine List.findSome?_eq_none_iff.2 fun ⟨o, j⟩ hj => ?_
  cases hy : namesLine n (o, j) with
  | none => rfl
  | some y =>
    obtain ⟨e, rfl, he, -⟩ := namesLine_eq_some.1 hy
    obtain ⟨hlt, hslot⟩ := Snapshot.mem_slots.1 hj
    exact absurd he (h ⟨j, hlt⟩ e y.2 hslot)

end

section
variable (s : State) (c : Snapshot)

theorem State.applySnapshot_line (n : Fin 16) :
    (s.applySnapshot c).line n = (s.line n).restore (c.onLine n) := by
  simp [State.applySnapshot, State.line]

theorem State.applySnapshot_unit (u : Fin 4) :
    (s.applySnapshot c).unit u = { s.unit u with info := c.slates[u] } := by
  simp [State.applySnapshot, State.unit]

theorem State.applySnapshot_profile (k : Fin 8) :
    (s.applySnapshot c).profile k = (c.profiles[k]).restore := by
  simp [State.applySnapshot, State.profile]

/-- A saved slot as a device just declared, over the profiles restored. -/
theorem State.applySnapshot_dev (i : Nat) : (s.applySnapshot c).dev i =
    ((c.slots[i]?).join).map fun y => (s.applySnapshot c).newDevice y.1 := by
  have h : ∀ d, ({ s with profiles := c.profiles.map SavedProfile.restore } : State).newDevice d =
      (s.applySnapshot c).newDevice d := fun _ => rfl
  simp only [State.dev, State.applySnapshot, Vector.getElem?_map]
  cases c.slots[i]? with
  | none => rfl
  | some o => cases o <;> rfl

end

/-- Settles O44: a good copy is applied whole, and without one every default stands. -/
theorem settingsApplied : Obligations.SettingsApplied := by
  intro s happ
  have hexec : exec .settingsApply s = .next s.applySettings.pump := by
    show finish _ = _
    rw [if_neg (by simp [happ])]
    rfl
  refine ⟨_, hexec, fun c hc => ?_, fun hbad => ?_, ?_⟩
  · obtain ⟨a, ha⟩ : ∃ a, a = s.applySnapshot c := ⟨_, rfl⟩
    have heq : s.applySettings = { a with
        store := { a.store with applied := true, loaded := true } } := by
      rw [State.applySettings, hc, ha]
    have hslots : s.applySettings.pump.slots = a.slots := by rw [State.pump_slots, heq]
    have hlines : s.applySettings.pump.lines = a.lines := by rw [State.pump_lines, heq]
    have hprofiles : s.applySettings.pump.profiles = a.profiles := by rw [State.pump_profiles, heq]
    have hunits : s.applySettings.pump.units = a.units := by rw [State.pump_units, heq]
    have hdev : ∀ i, s.applySettings.pump.dev i =
        ((c.slots[i]?).join).map fun y => a.newDevice y.1 := fun i => by
      rw [State.dev_congr hslots, ha, State.applySnapshot_dev]
    have hline : ∀ n : Fin 16, s.applySettings.pump.line n = (s.line n).restore (c.onLine n) :=
      fun n => by rw [State.line_congr hlines, ha, State.applySnapshot_line]
    refine ⟨?_, fun u => ?_, fun k => ?_, fun i => ?_, fun i d hd => ?_,
      fun n i x on hi hx hu => ?_, fun n hn => ?_⟩
    · rw [hslots, hlines, hprofiles, hunits, State.inner_pump, heq, ha]
      rfl
    · rw [State.unit_congr hunits, ha, State.applySnapshot_unit]
    · rw [State.profile_congr hprofiles, ha, State.applySnapshot_profile]
      exact ⟨rfl, rfl, rfl, rfl, rfl⟩
    · rw [hdev, show c.slots[i.val]? = some c.slots[i] by simp]
      cases c.slots[i] <;> rfl
    · rw [hdev, Option.map_eq_some_iff] at hd
      obtain ⟨y, -, rfl⟩ := hd
      have hcrc : ∀ p : Option Nat, a.profileCrc p =
          p.map fun n => (s.applySettings.pump.profile n).crc := fun p => by
        rw [State.profileCrc]
        congr 1
        funext n
        rw [State.profile_congr hprofiles]
      show Live.fresh y.1.att (a.profileCrc y.1.profile) = _
      rw [hcrc]
      rfl
    · rw [hline, Snapshot.onLine_unique hi hx hu]
      refine ⟨rfl, rfl, ?_, rfl, rfl, rfl⟩
      cases on with
      | false => rfl
      | true =>
        show Sense.lineState (s.line n).sense = _
        cases (s.line n).sense <;> rfl
    · rw [hline, Snapshot.onLine_none hn]
      rfl
  · have heq : s.applySettings = { s.applyDefaults with
        store := { s.applyDefaults.store with applied := true, loaded := false } } := by
      unfold State.applySettings
      rcases hbad with h | h <;> rw [h]
    have hunits : s.applySettings.pump.units = s.applyDefaults.units := by rw [State.pump_units, heq]
    refine ⟨?_, fun u hu => ?_⟩
    · rw [hunits, State.inner_pump, heq]
      rfl
    · rw [State.unit_congr hunits]
      simp [State.applyDefaults, State.unit, hu]
  · unfold State.applySettings
    split
    · exact quiet_pump (.of_eq rfl rfl) (.of_eq rfl rfl rfl)
    · exact quiet_pump (.of_eq rfl rfl) (.of_eq rfl rfl rfl)
    · exact quiet_pump (.of_eq rfl rfl) (.of_eq rfl rfl rfl)

/-! ### LOG_SCAN_PAGE_READ -/

/-- Settles O45: a blank page ends the scan, and another joins the directory. -/
theorem scanReadsPage : Obligations.ScanReadsPage := by
  intro s happ hend
  have hexec : exec .logScanPageRead s = .next s.scanPage.pump := by
    show finish _ = _
    rw [if_pos (by simp [happ, hend])]
    rfl
  constructor
  · intro hblank
    have heq : s.scanPage = { s with store := { s.store with scanEnded := true } } := by
      rw [State.scanPage, hblank]
    rw [heq] at hexec
    exact ⟨_, hexec, State.inner_pump _, quiet_pump (.of_eq rfl rfl) (.of_eq rfl rfl rfl)⟩
  · intro d x hread hclass
    have hx : entryOf d = x := by
      rcases hclass with ⟨bs, rfl, hgood, rfl⟩ | ⟨rfl | ⟨bs, rfl, hbad⟩, rfl⟩
      · exact if_pos hgood
      · rfl
      · exact if_neg (by simp [hbad])
    have heq : s.scanPage = { s with store := { s.store with
        pointer := s.store.pointer + 1
        directory := s.store.directory ++ [x]
        skipped := if x = none then s.store.skipped + 1 else s.store.skipped
        scanEnded := decide (8192 ≤ s.store.pointer + 1) } } := by
      rw [State.scanPage, hread]
      dsimp only
      rw [hx]
      cases x <;> rfl
    rw [heq] at hexec
    exact ⟨_, hexec, State.inner_pump _, quiet_pump (.of_eq rfl rfl) (.of_eq rfl rfl rfl)⟩

end Sys2Proof.Machine
end

section
/-!
SUPPORT. The completion of the scan: the new session, its page and what is announced.
-/

namespace Sys2Proof.Machine

/-! ### The new session and its last log index -/

section
variable {dir : List (Option PageHeader)}

theorem mem_sessions {n : Nat} : n ∈ (dir.filterMap fun x => x.map PageHeader.session) ↔
    ∃ h, some h ∈ dir ∧ h.session = n := by
  simp only [List.mem_filterMap, Option.map_eq_some_iff]
  constructor
  · rintro ⟨-, ho, h, rfl, rfl⟩
    exact ⟨h, ho, rfl⟩
  · rintro ⟨h, ho, rfl⟩
    exact ⟨_, ho, h, rfl, rfl⟩

/-- No good page, or a largest session among the good pages. -/
theorem largestSession_spec (dir : List (Option PageHeader)) :
    (largestSession dir = none ∧ ∀ h, some h ∉ dir) ∨
      ∃ g, some g ∈ dir ∧ largestSession dir = some g.session ∧
        ∀ h, some h ∈ dir → h.session ≤ g.session := by
  unfold largestSession
  cases hm : (dir.filterMap fun x => x.map PageHeader.session).max? with
  | none =>
    refine .inl ⟨rfl, fun h hh => ?_⟩
    have := mem_sessions.2 ⟨h, hh, rfl⟩
    rw [List.max?_eq_none_iff.1 hm] at this
    cases this
  | some n =>
    obtain ⟨hn, hle⟩ := List.max?_eq_some_iff.1 hm
    obtain ⟨g, hg, rfl⟩ := mem_sessions.1 hn
    exact .inr ⟨g, hg, rfl, fun h hh => hle _ (mem_sessions.2 ⟨h, hh, rfl⟩)⟩

theorem mem_indices {session n : Nat} : n ∈ (dir.filterMap fun x => x.bind fun h =>
    if h.session = session then some h.index else none) ↔
      ∃ h, some h ∈ dir ∧ h.session = session ∧ h.index = n := by
  simp only [List.mem_filterMap, Option.bind_eq_some_iff]
  constructor
  · rintro ⟨-, ho, h, rfl, hi⟩
    split at hi
    · cases hi
      exact ⟨h, ho, by assumption, rfl⟩
    · cases hi
  · rintro ⟨h, ho, hs, rfl⟩
    exact ⟨_, ho, h, rfl, if_pos hs⟩

/-- The last log index bounds those of its session, and is one of them unless it is 0. -/
theorem largestIndex_spec (dir : List (Option PageHeader)) (session : Nat) :
    (∀ h, some h ∈ dir → h.session = session → h.index ≤ largestIndex dir session) ∧
      (largestIndex dir session ≠ 0 → ∃ h, some h ∈ dir ∧ h.session = session ∧
        h.index = largestIndex dir session) := by
  unfold largestIndex
  cases hm : (dir.filterMap fun x => x.bind fun h =>
      if h.session = session then some h.index else none).max? with
  | none =>
    refine ⟨fun h hh hs => ?_, fun h => absurd rfl h⟩
    have := mem_indices.2 ⟨h, hh, hs, rfl⟩
    rw [List.max?_eq_none_iff.1 hm] at this
    cases this
  | some n =>
    obtain ⟨hn, hle⟩ := List.max?_eq_some_iff.1 hm
    exact ⟨fun h hh hs => hle _ (mem_indices.2 ⟨h, hh, hs, rfl⟩), fun _ => mem_indices.1 hn⟩

/-- The new session: the first, or the one after the largest found. -/
theorem newSession_spec (hmax : ∀ h, some h ∈ dir → h.session ≤ 65535) :
    ((∀ h, some h ∉ dir) → newSession dir = 1) ∧
    (∀ g, some g ∈ dir → (∀ h, some h ∈ dir → h.session ≤ g.session) →
      newSession dir = if g.session = 65535 then 1 else g.session + 1) ∧
    1 ≤ newSession dir ∧ newSession dir ≤ 65535 ∧
    ((∀ h, some h ∈ dir → h.session < newSession dir) ∨
      (newSession dir = 1 ∧ ∃ h, some h ∈ dir ∧ h.session = 65535)) := by
  unfold newSession
  rcases largestSession_spec dir with ⟨hn, hnone⟩ | ⟨g, hg, hn, hle⟩
  · rw [hn]
    exact ⟨fun _ => rfl, fun g hg => absurd hg (hnone g), Nat.le_refl 1, by decide,
      .inl fun h hh => absurd hh (hnone h)⟩
  · rw [hn]
    dsimp only
    have hgmax := hmax g hg
    refine ⟨fun hnone => absurd hg (hnone g), fun g' hg' hle' => ?_, ?_, ?_, ?_⟩
    · rw [Nat.le_antisymm (hle' g hg) (hle g' hg')]
    · split <;> omega
    · split <;> omega
    · by_cases h : g.session = 65535
      · exact .inr ⟨if_pos h, g, hg, h⟩
      · rw [if_neg h]
        exact .inl fun k hk => Nat.lt_succ_of_le (hle k hk)

end

/-! ### The SESSION page -/

section
variable {s w : State} {page : List Byte} {first second : Bool}

theorem notify_notices_le (s : State) (k : Nat) (b : List Field) :
    (s.notify k b).notices.length ≤ s.notices.length + 1 := by
  unfold State.notify
  split
  · simp
  · exact Nat.le_succ _

/-- The places of the start-up's SESSION page: the pointer, the page after it, or none. -/
theorem State.writeSession_cases (s : State) (page : List Byte) (first second : Bool) :
    (8192 ≤ s.store.pointer → s.writeSession page first second = s.enterLogFull) ∧
    (s.store.pointer < 8192 → first = true →
      s.writeSession page first second = (s.pageGoodAt page).storeReady) ∧
    (s.store.pointer + 1 = 8192 → first = false →
      s.writeSession page first second = s.pageBadAt.enterLogFull) ∧
    (s.store.pointer + 1 < 8192 → first = false → second = true →
      s.writeSession page first second = (s.pageBadAt.pageGoodAt page).storeReady) ∧
    (s.store.pointer + 1 < 8192 → first = false → second = false →
      s.writeSession page first second = s.pageBadAt.pageBadAt.enterFault (s.store.pointer + 1)) := by
  have h1 : logPages ≤ s.store.pointer ↔ 8192 ≤ s.store.pointer := Iff.rfl
  have h2 : logPages ≤ s.pageBadAt.store.pointer ↔ 8192 ≤ s.store.pointer + 1 := Iff.rfl
  unfold State.writeSession
  refine ⟨fun h => if_pos h, fun h hf => ?_, fun h hf => ?_, fun h hf hs => ?_, fun h hf hs => ?_⟩
  · rw [if_neg (by rw [h1]; omega), if_pos hf]
  · rw [if_neg (by rw [h1]; omega), if_neg (by simp [hf]), if_pos (h2.2 (by omega))]
  · rw [if_neg (by rw [h1]; omega), if_neg (by simp [hf]), if_neg (by rw [h2]; omega), if_pos hs]
  · rw [if_neg (by rw [h1]; omega), if_neg (by simp [hf]), if_neg (by rw [h2]; omega),
      if_neg (by simp [hs])]
    rfl

/-- The store has gone from `u` to `w` out of READY, with one STORE notice. -/
def StoreStopped (u w : State) (st : StoreState) : Prop :=
  w.inner = { u with store := { u.store with state := st, flushes := [] } }.inner ∧
    (∃ b, Raised u w 0x4B b) ∧ w.notices.length ≤ u.notices.length + 1

theorem storeStopped_logFull (u : State) : StoreStopped u u.enterLogFull .logFull := by
  obtain ⟨hi, hr, -⟩ := u.enterLogFull_spec
  obtain ⟨-, hm, -⟩ := (({ u with store := { u.store with state := .logFull } }).noteStore 1
    (some u.store.pointer) u.takes.queue.head?).failFlushes_spec .logFull
  refine ⟨hi, ⟨_, hr⟩, ?_⟩
  rw [State.enterLogFull, hm.notices]
  exact notify_notices_le _ _ _

theorem storeStopped_fault (u : State) (page : Nat) :
    StoreStopped u (u.enterFault page) .fault := by
  obtain ⟨hi, hr, -⟩ := u.enterFault_spec page
  obtain ⟨-, hm, -⟩ := (({ u with store := { u.store with state := .fault } }).noteStore 0
    (some page) u.takes.queue.head?).failFlushes_spec .storeFault
  refine ⟨hi, ⟨_, hr⟩, ?_⟩
  rw [State.enterFault, hm.notices]
  exact notify_notices_le _ _ _

/-- The SESSION page tried: what has changed, and what has been said of it. -/
structure SessionTried (s w : State) : Prop where
  inner : w.inner = { s with store := w.store, flash := w.flash }.inner
  settings : w.flash.settings = s.flash.settings
  loaded : w.store.loaded = s.store.loaded
  quiet : w.store.state = .ready → NoReply s w ∧ Mum s w
  stopped : w.store.state ≠ .ready →
    (∃ b, Raised s w 0x4B b) ∧ w.notices.length ≤ s.notices.length + 1

theorem SessionTried.of_ready (hw : w = { s with store := w.store, flash := w.flash })
    (hf : w.flash.settings = s.flash.settings) (hl : w.store.loaded = s.store.loaded)
    (hx : w.store.state = .ready) : SessionTried s w where
  inner := congrArg State.inner hw
  settings := hf
  loaded := hl
  quiet _ := ⟨.of_eq (by rw [hw]) (by rw [hw]), .of_eq (by rw [hw]) (by rw [hw]) (by rw [hw])⟩
  stopped h := absurd hx h

theorem SessionTried.of_stopped {u : State} {st : StoreState}
    (hu : u = { s with store := u.store, flash := u.flash })
    (hf : u.flash.settings = s.flash.settings) (hl : u.store.loaded = s.store.loaded)
    (hst : st ≠ .ready) (h : StoreStopped u w st) : SessionTried s w := by
  obtain ⟨hi, ⟨b, hr⟩, hn⟩ := h
  have hw := State.inner_fields hi
  have huf := State.inner_fields (congrArg State.inner hu)
  dsimp only at hw huf
  have hws : w.store = { u.store with state := st, flushes := [] } := State.store_of_inner hi
  have hwf : w.flash = u.flash := by simp [hw]
  have hm : Mum s u := .of_eq (by rw [hu]) (by rw [hu]) (by rw [hu])
  refine ⟨State.inner_ext ?_, by rw [hwf, hf], by rw [hws, hl], fun h => ?_, fun _ => ?_⟩
  · simp [hw, huf]
  · rw [hws] at h
    exact absurd h hst
  · rw [← hm.notices]
    exact ⟨⟨b, hm.raised hr⟩, hn⟩

theorem State.writeSession_tried (s : State) (page : List Byte) (first second : Bool) :
    SessionTried s (s.writeSession page first second) := by
  obtain ⟨hfull, hfirst, hlast, hsecond, hfault⟩ := s.writeSession_cases page first second
  rcases Nat.lt_or_ge s.store.pointer 8192 with hp | hp
  · cases first with
    | true =>
      rw [hfirst hp rfl]
      exact .of_ready rfl rfl rfl rfl
    | false =>
      rcases Nat.lt_or_ge (s.store.pointer + 1) 8192 with hp1 | hp1
      · cases second with
        | true =>
          rw [hsecond hp1 rfl rfl]
          exact .of_ready rfl rfl rfl rfl
        | false =>
          rw [hfault hp1 rfl rfl]
          exact .of_stopped (u := s.pageBadAt.pageBadAt) rfl rfl rfl (by decide) (storeStopped_fault _ _)
      · rw [hlast (by omega) rfl]
        exact .of_stopped (u := s.pageBadAt) rfl rfl rfl (by decide) (storeStopped_logFull _)
  · rw [hfull hp]
    exact .of_stopped (u := s) rfl rfl rfl (by decide) (storeStopped_logFull s)

end

/-! ### SCAN_COMPLETE -/

/-- With no tally active no take opens at the scan's end. -/
theorem State.openAtScan_none {s : State} (h : ∀ i d, s.dev i = some d → s.tallies d = false)
    (u : Nat) : s.openAtScan u = s := by
  have hnone : (s.assigned u).filter (fun x => s.tallies x.2) = [] :=
    List.filter_eq_nil_iff.2 fun x hx => by
      obtain ⟨hd, -⟩ := State.mem_assigned.1 hx
      simp [h x.1 x.2 hd]
  rw [State.openAtScan]
  rw [hnone, if_pos (by simp)]

/-- The state after the scan, its SESSION page tried as `w`. -/
theorem exec_scanComplete {s w u : State} {first second : Bool} {session index : Nat}
    (hend : s.store.scanEnded = true) (hscan : s.store.scanned = false)
    (hquiet : ∀ i d, s.dev i = some d → s.tallies d = false)
    (hsession : session = newSession s.store.directory)
    (hindex : index = largestIndex s.store.directory session)
    (hw : w = s.writeSession (sessionPage 0 session index s.houseTime s.clock.counter) first second)
    (hu : u = { w with
      store := { w.store with session := session, scanned := true }
      takes := { w.takes with lastIndex := index } }) :
    exec (.scanComplete first second) s = .next u.noteStarted.pump := by
  have hi := State.inner_fields (s.writeSession_tried (sessionPage 0 session index s.houseTime
    s.clock.counter) first second).inner
  rw [← hw] at hi
  dsimp only at hi
  have hslots : u.noteStarted.slots = s.slots := by
    rw [State.noteStarted, State.notify_slots, hu]
    simp [hi]
  have hlines : u.noteStarted.lines = s.lines := by
    rw [State.noteStarted, State.notify_lines, hu]
    simp [hi]
  have hnone : ∀ i d, u.noteStarted.dev i = some d → u.noteStarted.tallies d = false := by
    intro i d hd
    rw [State.dev_congr hslots] at hd
    have h := hquiet i d hd
    unfold State.tallies at h ⊢
    simp only [State.line_congr hlines]
    exact h
  have hcomplete : s.completeScan first second = u.noteStarted := by
    rw [State.completeScan]
    dsimp only
    rw [← hsession, ← hindex, ← hw, ← hu]
    exact List.foldl_fixed' (State.openAtScan_none hnone) _
  show finish _ = _
  rw [if_pos (by simp [hend, hscan]), hcomplete]
  rfl

/-- Settles O46: the session follows from the directory, and the five ends of its page from the
pointer and the two read-backs. -/
theorem scanCompletes : Obligations.ScanCompletes := by
  intro first second s hend hscan hquiet hmax
  obtain ⟨session, hsession⟩ : ∃ n, n = newSession s.store.directory := ⟨_, rfl⟩
  obtain ⟨index, hindex⟩ : ∃ n, n = largestIndex s.store.directory session := ⟨_, rfl⟩
  obtain ⟨page, hpage⟩ : ∃ p, p = sessionPage 0 session index s.houseTime s.clock.counter := ⟨_, rfl⟩
  obtain ⟨w, hw⟩ : ∃ w, w = s.writeSession page first second := ⟨_, rfl⟩
  obtain ⟨u, hu⟩ : ∃ u : State, u = { w with
    store := { w.store with session := session, scanned := true }
    takes := { w.takes with lastIndex := index } } := ⟨_, rfl⟩
  obtain ⟨t, ht⟩ : ∃ t, t = u.noteStarted.pump := ⟨_, rfl⟩
  have hexec : exec (.scanComplete first second) s = .next t := by
    rw [ht]
    exact exec_scanComplete hend hscan hquiet hsession hindex (hpage ▸ hw) hu
  obtain ⟨hwi, hwset, hwload, hwquiet, hwstop⟩ := hw ▸ s.writeSession_tried page first second
  obtain ⟨hfull, hfirst, hlast, hsecond, hfault⟩ := s.writeSession_cases page first second
  rw [← hw] at hfull hfirst hlast hsecond hfault
  obtain ⟨hs1, hs2, hs3, hs4, hs5⟩ := newSession_spec hmax
  obtain ⟨hix1, hix2⟩ := largestIndex_spec s.store.directory session
  rw [← hsession] at hs1 hs2 hs3 hs4 hs5
  rw [← hindex] at hix1 hix2
  have hti : t.inner = u.inner := by
    rw [ht, State.inner_pump]
    exact State.inner_notify _ _ _
  have hwf := State.inner_fields hwi
  have htf := State.inner_fields hti
  dsimp only at hwf
  have hts : t.store = { w.store with session := session, scanned := true } := by
    rw [State.store_of_inner hti, hu]
  have hwt : w.takes = s.takes := by simp [hwf]
  have htt : t.takes = { s.takes with lastIndex := index } := by
    rw [show t.takes = u.takes by simp [htf], hu, hwt]
  have htfl : t.flash = w.flash := by rw [show t.flash = u.flash by simp [htf], hu]
  have hmu : Mum w u := .of_eq (by rw [hu]) (by rw [hu]) (by rw [hu])
  have hru : NoReply w u := .of_eq (by rw [hu]) (by rw [hu])
  have hrt : NoReply u t := by
    rw [ht]
    exact (noReply_notify _ _ _).trans (noReply_pump _)
  have hraise : Raised w t 0x41 [fSession session, fFlag s.store.loaded, fCount t.store.pointer,
      fCount t.store.skipped, fByte t.store.state.code] := by
    rw [hts, ← hwload]
    have h := (hmu.raised (State.raised_notify u 0x41 [fSession u.store.session,
      fFlag u.store.loaded, fCount u.store.pointer, fCount u.store.skipped,
      fByte u.store.state.code])).silent (silent_pump _)
    rw [← State.noteStarted, ← ht, hu] at h
    exact h
  have hgood : pageGood page = true ∧ (pageHeader page).kind = 1 := hpage ▸ sessionPage_good _ _ _ _ _
  have hpsess : (pageHeader page).session = t.store.session := by
    rw [hts, hpage]
    exact pageHeader_session (show session < 65536 by omega)
  refine ⟨t, hexec, by rw [hts], by rw [hts]; exact hs1, by rw [hts]; exact hs2, by rw [hts]; exact hs3,
    by rw [hts]; exact hs4, by rw [hts]; exact hs5, by rw [hts, htt]; exact hix1,
    by rw [hts, htt]; exact hix2, by simp [htf, hu, hwf], by simp [htf, hu, hwf],
    by rw [htfl, hwset], State.inner_ext (by simp [htf, hu, hwf]), fun hf hp => ?_,
    fun hf hs2 hp => ?_, fun hp => ?_, fun hf hp => ?_, fun hf hs2 hp => ?_, fun hne hroom => ?_⟩
  · have he := hfirst hp hf
    obtain ⟨hq, hm⟩ := hwquiet (by rw [he]; rfl)
    have hlog : t.flash.log = writePage s.store.pointer (.bytes page) s.flash.log := by
      rw [htfl, he]; rfl
    refine ⟨by rw [hts, he]; rfl, by rw [hts, he]; rfl, by rw [hts, he]; rfl, ⟨page, ?_, hgood.1,
      hgood.2, hpsess, by rw [hts, he]; rfl⟩, fun k hk => ?_, (hq.trans hru).trans hrt, ?_⟩
    · rw [hlog, readPage_writePage_same]
    · rw [hlog, readPage_writePage_other _ _ _ _ hk]
    · have h := hm.raised hraise
      rw [show t.store.skipped = s.store.skipped by rw [hts, he]; rfl,
        show t.store.state = .ready by rw [hts, he]; rfl] at h
      rw [show t.store.session = session by rw [hts]]
      exact h
  · have he := hsecond hp hf hs2
    obtain ⟨hq, hm⟩ := hwquiet (by rw [he]; rfl)
    have hlog : t.flash.log = writePage (s.store.pointer + 1) (.bytes page)
        (writePage s.store.pointer .damaged s.flash.log) := by
      rw [htfl, he]; rfl
    refine ⟨by rw [hts, he]; rfl, by rw [hts, he]; rfl, by rw [hts, he]; rfl, ?_, ⟨page, ?_, hgood.1,
      hgood.2, hpsess, ?_⟩, (hq.trans hru).trans hrt, ?_⟩
    · rw [hlog, readPage_writePage_other _ _ _ _ (by omega), readPage_writePage_same]
    · rw [hlog, readPage_writePage_same]
    · rw [hts, he]
      exact List.append_assoc _ _ _
    · have h := hm.raised hraise
      rw [show t.store.state = .ready by rw [hts, he]; rfl] at h
      rw [show t.store.session = session by rw [hts]]
      exact h
  · obtain ⟨hi, -⟩ := storeStopped_logFull s
    rw [← hfull hp] at hi
    have hf := State.inner_fields hi
    dsimp only at hf
    have hws := State.store_of_inner hi
    exact ⟨by rw [hts, hws], by rw [hts, hws], by rw [htfl]; simp [hf]⟩
  · obtain ⟨hi, -⟩ := storeStopped_logFull s.pageBadAt
    rw [← hlast hp hf] at hi
    have hf := State.inner_fields hi
    dsimp only at hf
    have hws := State.store_of_inner hi
    refine ⟨by rw [hts, hws], by rw [hts, hws]; exact hp, ?_⟩
    rw [htfl, show w.flash = s.pageBadAt.flash by simp [hf]]
    exact readPage_writePage_same _ _ _
  · obtain ⟨hi, -⟩ := storeStopped_fault s.pageBadAt.pageBadAt (s.store.pointer + 1)
    rw [← hfault hp hf hs2] at hi
    have hws := State.store_of_inner hi
    exact ⟨by rw [hts, hws], by rw [hts, hws]; rfl⟩
  · obtain ⟨⟨b, hb⟩, hlen⟩ := hwstop (by rw [hts] at hne; exact hne)
    exact Raised.twice hb hraise (by omega) (by omega)

end Sys2Proof.Machine
end

section
/-!
SUPPORT. MARK_TAKE: the record in the table, and the amendment handed to the store.
-/

namespace Sys2Proof.Machine

section
variable {q : Req} {a : MarkArgs} {s : State}

/-- The note after a MARK_TAKE. -/
theorem carried_note (r : TakeRecord) :
    (a.note = none → ((carried a).apply r).note = r.note) ∧
    (a.note = some [] → ((carried a).apply r).note = none) ∧
    (∀ x, a.note = some x → x ≠ [] → ((carried a).apply r).note = some x) := by
  unfold carried Amendment.apply
  refine ⟨fun h => by simp [h], fun h => by simp [h], fun x h hx => ?_⟩
  cases x with
  | nil => exact absurd rfl hx
  | cons c l => simp [h]

/-- The note of a take not in the table, as far as the request carries one. -/
theorem unreadNoteOf_spec (counter : Nat) : (a.note = some [] → unreadNoteOf a counter = none) ∧
    (∀ x, a.note = some x → x ≠ [] → unreadNoteOf a counter = some x) := by
  unfold unreadNoteOf
  refine ⟨fun h => by simp [h], fun x h hx => ?_⟩
  cases x with
  | nil => exact absurd rfl hx
  | cons c l => simp [h]

/-- An accepted MARK_TAKE, of a take in the table or of another. -/
theorem exec_markTake (htaken : Taken s q) (hp : q.port = .control) (hfits : a.fits = true)
    (hm : markChanges a = true) (hss : a.session = s.store.session) (h1 : 1 ≤ a.index)
    (h2 : a.index ≤ s.takes.lastIndex) {u : State} (hu : u = s.enlist q 0x14) :
    (∀ e, s.findTake a.session a.index = some e → exec (.markTake q a) s =
      .next (((u.markInTable a e.copy).arbitrate).reply q.port 0x14 q.tag .ok
        (markReply a ((carried a).apply e.copy).marks ((carried a).apply e.copy).note
          (!e.copy.state.unstored))).pump) ∧
    (s.findTake a.session a.index = none → exec (.markTake q a) s =
      .next ((((u.handAmendment (carried a)).exportAmendment (carried a)).arbitrate).reply q.port 0x14
        q.tag .ok (markReply a (unreadMarks a s.clock.counter)
          (unreadNoteOf a s.clock.counter) true)).pump) := by
  have hfind : (s.enlist q 0x14).findTake a.session a.index = s.findTake a.session a.index :=
    State.findTake_congr (by rw [State.enlist_takes]) _ _
  constructor
  · intro e he
    refine (finish_taken htaken (Class.admits_control hp) hfits).trans ?_
    rw [if_neg (by simp [hm]), if_neg (by simp [hss]; omega), hfind, he, hu]
  · intro he
    refine (finish_taken htaken (Class.admits_control hp) hfits).trans ?_
    rw [if_neg (by simp [hm]), if_neg (by simp [hss]; omega), hfind, he, hu, State.enlist_clock]

/-- An exporter context that is idle takes no amendment. -/
theorem State.exportAmendment_idle (h : s.exporter.phase = .idle) (x : Amendment) :
    s.exportAmendment x = s := by
  have hx : s.exporter.amended x = s.exporter := if_pos (.inl h)
  rw [State.exportAmendment, hx]
  exact State.exportRun_idle h

/-- An amendment for which there is room and none of its take waits joins the queue. -/
theorem State.handAmendment_new {x : Amendment} (hlen : s.store.amendments.length < 16)
    (hnone : ∀ y ∈ s.store.amendments, ¬ (y.session = x.session ∧ y.index = x.index)) :
    s.handAmendment x = { s with store := { s.store with
      amendments := s.store.amendments ++ [x] } } := by
  have hany : s.store.amendments.any x.sameTake = false := by
    rw [List.any_eq_false]
    intro y hy hsame
    simp only [Amendment.sameTake, Bool.and_eq_true, decide_eq_true_eq] at hsame
    exact hnone y hy ⟨hsame.1.symm, hsame.2.symm⟩
  rw [State.handAmendment, if_neg (by simp [hany]), if_pos hlen]

/-- A MARK_TAKE of a take in the table, answered: the record is changed, and the store is `x`. -/
theorem markTake_answered {e : Entry} {x : Store} {v : State} {flag : Nat} {n : Option Text}
    {l : List Field} (he : s.findTake a.session a.index = some e)
    (hv : v = { (s.enlist q 0x14).modTake a.session a.index
      (fun e => e.mod fun r => (carried a).apply r) with store := x })
    (hn : n = ((carried a).apply e.copy).note)
    (hl : l = markReply a ((carried a).apply e.copy).marks n (decide (flag = 1))) (hflag : flag < 2)
    {t : State} (ht : t = (v.reply q.port 0x14 q.tag .ok l).pump) :
    t.findTake a.session a.index = some { e with copy := { e.copy with
        circled := a.circled.getD e.copy.circled
        falseStart := a.falseStart.getD e.copy.falseStart
        note := n } } ∧
      (a.note = none → n = e.copy.note) ∧ (a.note = some [] → n = none) ∧
      (∀ x, a.note = some x → x ≠ [] → n = some x) ∧
      EntriesKept s t a.session a.index ∧ t.takes.queue = s.takes.queue ∧
      t.inner = { s with takes := t.takes, store := x }.inner ∧ Silent s t ∧
      Answered s t q 0x14 .ok ([fSession a.session, fIndex a.index,
        fByte (marksByte (a.circled.getD e.copy.circled)
          (a.falseStart.getD e.copy.falseStart) e.copy.timeUncertain)] ++
        fOpt fText n ++ [fByte flag]) := by
  obtain ⟨w, hw⟩ : ∃ w, w = (s.enlist q 0x14).modTake a.session a.index
    (fun e => e.mod fun r => (carried a).apply r) := ⟨_, rfl⟩
  rw [← hw] at hv
  have htt : t.takes = w.takes := by rw [ht, State.pump_takes, State.reply_takes, hv]
  have hfind : (s.enlist q 0x14).findTake a.session a.index = some e := by
    rw [State.findTake_congr (s := s) (by rw [State.enlist_takes]), he]
  obtain ⟨hn1, hn2, hn3⟩ := carried_note (a := a) e.copy
  have hlist : l = [fSession a.session, fIndex a.index,
      fByte (marksByte (a.circled.getD e.copy.circled)
        (a.falseStart.getD e.copy.falseStart) e.copy.timeUncertain)] ++
      fOpt fText n ++ [fByte flag] := by
    have hf : fFlag (decide (flag = 1)) = fByte flag := by
      rcases Nat.lt_or_ge flag 1 with h | h
      · rw [show flag = 0 by omega]; rfl
      · rw [show flag = 1 by omega]; rfl
    rw [hl, markReply, hf]
    rfl
  obtain ⟨ha, hs⟩ := answered_silent (q := q) (k := 0x14) (st := .ok) (l := l)
    ((noReply_enlist s q 0x14 none).trans (.of_eq (t := v) (by rw [hv, hw]; rfl) (by rw [hv, hw]; rfl)))
    ((mum_enlist s q 0x14 none).trans (.of_eq (t := v) (by rw [hv, hw]; rfl) (by rw [hv, hw]; rfl)
      (by rw [hv, hw]; rfl)))
  rw [← ht] at ha hs
  rw [hn]
  refine ⟨?_, hn1, hn2, hn3, ?_, ?_, ?_, hs, by rw [← hn, ← hlist]; exact ha⟩
  · rw [State.findTake_congr (s := w) (by rw [htt]), hw]
    exact State.findTake_modTake_same (f := fun e => e.mod fun r => (carried a).apply r)
      (fun _ => ⟨rfl, rfl⟩) hfind
  · have hk := (s.enlist q 0x14).modTake_kept a.session a.index
      fun e => e.mod fun r => (carried a).apply r
    rw [← hw] at hk
    unfold EntriesKept at hk ⊢
    rw [htt]
    simpa only [State.enlist_takes] using hk
  · rw [htt, hw]
    show (s.enlist q 0x14).takes.queue = _
    rw [State.enlist_takes]
  · rw [htt]
    exact State.inner_ext (by simp [ht, hv, hw])

end

/-- Settles O37: the record in the table is changed; a stored take's values are queued as an
amendment. -/
theorem takeMarked : Obligations.TakeMarked := by
  intro q a s htaken hp hfits hm hss h1 h2
  obtain ⟨u, hu⟩ : ∃ u, u = s.enlist q 0x14 := ⟨_, rfl⟩
  obtain ⟨hfound, hmissing⟩ := exec_markTake htaken hp hfits hm hss h1 h2 hu
  have hus : u.store = s.store := by rw [hu, State.enlist_store]
  have hue : u.exporter = s.exporter := by rw [hu, State.enlist_exporter]
  have hut : u.takes = s.takes := by rw [hu, State.enlist_takes]
  obtain ⟨w, hw⟩ : ∃ w, w = u.modTake a.session a.index
    (fun e => e.mod fun r => (carried a).apply r) := ⟨_, rfl⟩
  have hws : w.store = s.store := by rw [hw, State.modTake_store, hus]
  have hwe : w.exporter = s.exporter := by rw [hw, State.modTake_exporter, hue]
  refine ⟨fun e he hst hset => ?_, fun hidle hop hlen hnone => ⟨fun e he hst => ?_, fun he => ?_⟩⟩
  · obtain ⟨n, hn⟩ : ∃ n, n = ((carried a).apply e.copy).note := ⟨_, rfl⟩
    have hmark : u.markInTable a e.copy = w := by
      unfold State.markInTable
      rw [← hw]
      rcases hst with ho | ⟨hc, hidle⟩
      · exact if_pos ho
      · dsimp only
        rw [if_neg (by rw [hc]; nofun), if_pos hc, State.exportAmendment_idle (by rw [hwe]; exact hidle)]
    have hwset : w.settled := by
      unfold State.settled State.nothingToWrite at hset ⊢
      have hq : w.takes.queue = s.takes.queue := by
        rw [hw]
        show u.takes.queue = _
        rw [hut]
      rw [hws, hq]
      exact hset
    have hstored : (!e.copy.state.unstored) = decide (0 = 1) := by
      rcases hst with ho | ⟨hc, -⟩
      · simp [RecState.unstored, ho]
      · simp [RecState.unstored, hc]
    have hexec := hfound e he
    rw [hmark, State.arbitrate_settled hwset, hstored, ← hn] at hexec
    exact ⟨_, n, hexec, markTake_answered (x := s.store) (v := w) (flag := 0) he
      (by rw [hw, hu, ← State.enlist_store s q 0x14 none]; rfl) hn rfl (by decide) rfl⟩
  · obtain ⟨-, hes, hei⟩ := State.findTake_some he
    obtain ⟨n, hn⟩ : ∃ n, n = ((carried a).apply e.copy).note := ⟨_, rfl⟩
    obtain ⟨am, ham⟩ : ∃ am, am = ((carried a).apply e.copy).amendment := ⟨_, rfl⟩
    have ham' : am = Amendment.mk a.session a.index (some (a.circled.getD e.copy.circled))
        (some (a.falseStart.getD e.copy.falseStart)) (some (n.getD [])) := by
      rw [ham, hn, ← hes, ← hei]
      rfl
    obtain ⟨v, hv⟩ : ∃ v : State, v = { w with store := { s.store with
      amendments := s.store.amendments ++ [am] } } := ⟨_, rfl⟩
    have hhand : w.handAmendment am = v := by
      rw [hv, ← hws]
      refine State.handAmendment_new (by rw [hws]; exact hlen) ?_
      rw [hws, ham']
      exact hnone
    have hmark : u.markInTable a e.copy = v := by
      unfold State.markInTable
      rw [← hw]
      dsimp only
      rw [← ham, if_neg (by rcases hst with h | h <;> rw [h] <;> nofun),
        if_neg (by rcases hst with h | h <;> rw [h] <;> nofun), hhand,
        State.exportAmendment_idle (by rw [hv]; show w.exporter.phase = _; rw [hwe]; exact hidle)]
    have hstored : (!e.copy.state.unstored) = decide (1 = 1) := by
      rcases hst with h | h <;> simp [RecState.unstored, h]
    have hexec := hfound e he
    rw [hmark, State.arbitrate_settled (.inl (by rw [hv]; exact hop)), hstored, ← hn] at hexec
    obtain ⟨t, ht⟩ : ∃ t, t = (v.reply q.port 0x14 q.tag .ok
      (markReply a ((carried a).apply e.copy).marks n (decide (1 = 1)))).pump := ⟨_, rfl⟩
    rw [← ht] at hexec
    refine ⟨t, n, hexec, ?_⟩
    rw [← ham']
    exact markTake_answered (v := v) (flag := 1) he (by rw [hv, hw, hu]) hn rfl
      (by decide) ht
  · obtain ⟨v, hv⟩ : ∃ v : State, v = { u with store := { s.store with
      amendments := s.store.amendments ++ [carried a] } } := ⟨_, rfl⟩
    have hhand : u.handAmendment (carried a) = v := by
      rw [hv, ← hus]
      exact State.handAmendment_new (by rw [hus]; exact hlen) (by rw [hus]; exact hnone)
    have hexec := hmissing he
    rw [hhand, State.exportAmendment_idle (by rw [hv]; show u.exporter.phase = _; rw [hue]; exact hidle),
      State.arbitrate_settled (.inl (by rw [hv]; exact hop))] at hexec
    obtain ⟨ha, hs⟩ := answered_silent (q := q) (k := 0x14) (st := .ok)
      (l := markReply a (unreadMarks a s.clock.counter) (unreadNoteOf a s.clock.counter) true)
      ((noReply_enlist s q 0x14 none).trans (.of_eq (t := v) (by rw [hv, hu]) (by rw [hv, hu])))
      ((mum_enlist s q 0x14 none).trans (.of_eq (t := v) (by rw [hv, hu]) (by rw [hv, hu])
        (by rw [hv, hu])))
    obtain ⟨hn1, hn2⟩ := unreadNoteOf_spec (a := a) s.clock.counter
    exact ⟨_, _, _, _, _, hexec, hn1, hn2, fun b h => by rw [h]; rfl, fun b h => by rw [h]; rfl,
      State.inner_ext (by simp [hv, hu, carried]), hs, ha⟩

end Sys2Proof.Machine
end

section
/-!
SUPPORT. What the exporter engine's moves keep of its context, and the two exporter requests.
-/

namespace Sys2Proof.Machine

/-! ### What every move keeps -/

/-- The exporter goes on: what was asked and what has been sent stay, and it is not IDLE. -/
structure GoesOn (x y : Exporter) : Prop where
  phase : x.phase ≠ .idle → y.phase ≠ .idle
  tag : y.tag = x.tag
  session : y.session = x.session
  range : y.range = x.range
  blockSize : y.blockSize = x.blockSize
  follow : y.follow = x.follow
  sent : y.sent = x.sent
  lastSent : y.lastSent = x.lastSent

section
variable {x y z : Exporter}

theorem GoesOn.refl (x : Exporter) : GoesOn x x := ⟨id, rfl, rfl, rfl, rfl, rfl, rfl, rfl⟩

theorem GoesOn.trans (h : GoesOn x y) (g : GoesOn y z) : GoesOn x z where
  phase hx := g.phase (h.phase hx)
  tag := g.tag.trans h.tag
  session := g.session.trans h.session
  range := g.range.trans h.range
  blockSize := g.blockSize.trans h.blockSize
  follow := g.follow.trans h.follow
  sent := g.sent.trans h.sent
  lastSent := g.lastSent.trans h.lastSent

theorem goesOn_handBlock (x : Exporter) (b : Block) : GoesOn x (x.handBlock b) where
  phase hx := by
    show (if b.final ∧ x.follow then ExportPhase.following else x.phase) ≠ .idle
    split
    · nofun
    · exact hx
  tag := rfl
  session := rfl
  range := rfl
  blockSize := rfl
  follow := rfl
  sent := rfl
  lastSent := rfl

theorem goesOn_collect (x : Exporter) (i : Nat) (r : TakeRecord) : GoesOn x (x.collect i r) := by
  unfold Exporter.collect Exporter.formFull
  split <;> exact ⟨id, rfl, rfl, rfl, rfl, rfl, rfl, rfl⟩

end

section
variable {s t : State}

theorem goesOn_examine (s : State) (i : Nat) : GoesOn s.exporter (s.examine i).exporter := by
  unfold State.examine
  split
  · split
    · exact ⟨id, rfl, rfl, rfl, rfl, rfl, rfl, rfl⟩
    · exact goesOn_collect _ _ _
  · split <;> exact ⟨id, rfl, rfl, rfl, rfl, rfl, rfl, rfl⟩

theorem goesOn_followHead (s : State) (i : Nat) : GoesOn s.exporter (s.followHead i).exporter := by
  unfold State.followHead
  split
  · exact ⟨id, rfl, rfl, rfl, rfl, rfl, rfl, rfl⟩
  · split <;> exact ⟨id, rfl, rfl, rfl, rfl, rfl, rfl, rfl⟩

/-- One move of the engine. -/
theorem State.exportMove_goesOn (h : s.exportMove = some t) : GoesOn s.exporter t.exporter := by
  unfold State.exportMove at h
  dsimp only at h
  split at h
  · cases h
  split at h
  · cases h
    exact ⟨id, rfl, rfl, rfl, rfl, rfl, rfl, rfl⟩
  · cases h
    exact goesOn_handBlock _ _
  · split at h
    · cases h
    split at h
    · cases h
      exact goesOn_examine s _
    · cases h
      exact ⟨id, rfl, rfl, rfl, rfl, rfl, rfl, rfl⟩
    · cases h
      exact goesOn_followHead s _
    · cases h

theorem exportMoves_goesOn (n : Nat) (s : State) : GoesOn s.exporter (exportMoves n s).exporter := by
  induction n generalizing s with
  | zero => exact GoesOn.refl _
  | succ n ih =>
    unfold exportMoves
    split
    · rename_i t ht
      exact (State.exportMove_goesOn ht).trans (ih t)
    · exact GoesOn.refl _

/-- The engine and then the store's arbiter, when no write can begin: the exporter goes on, and the store
has at most a read more. -/
theorem State.exportRun_settled (h : s.settled) : ∃ x y, s.exportRun.arbitrate =
    { s with exporter := x, store := y } ∧ GoesOn s.exporter x := by
  obtain ⟨x, r, hrun⟩ := s.exportRun_eq
  have hgo : GoesOn s.exporter x := by
    have hg := exportMoves_goesOn (s.exporter.remaining + s.exporter.queue.length + 4) s
    rw [← State.exportRun, hrun] at hg
    exact hg
  obtain ⟨v, hv⟩ : ∃ v : State, v = { s with
    exporter := x, store := { s.store with reads := r } } := ⟨_, rfl⟩
  have hwrite : v.store.op ≠ .idle ∨
      (v.store.save = none ∧ v.store.clear = none ∧ v.beginWrite = v) := by
    rw [hv]
    rcases h with hop | ⟨hsave, hclear, -, hst | ⟨ham, -, hq⟩⟩
    · exact .inl hop
    · exact .inr ⟨hsave, hclear, State.beginWrite_none (.inl hst)⟩
    · exact .inr ⟨hsave, hclear, State.beginWrite_none (.inr ⟨ham, by
        rw [State.eligibleHead, show ({ s with exporter := x, store := { s.store with
          reads := r } } : State).takes.queue = [] from hq]⟩)⟩
  obtain ⟨y, hy⟩ := State.arbitrate_reads hwrite
  exact ⟨x, y, by rw [hrun, ← hv, hy, hv], hgo⟩

end

/-! ### EXPORT_TAKES and CANCEL_EXPORT -/

theorem holds_word {n : Nat} (h : n < 65536) : holds 2 n = true := decide_eq_true h

theorem exportArgsOk_fits {a : ExportArgs} (h : exportArgsOk a = true) : a.fits = true := by
  obtain ⟨-, hsession, -, hstart, hcount, -, hblock, -⟩ := of_decide_eq_true h
  rw [ExportArgs.fits, holds_word (by omega), holds_long (by omega), holds_word (by omega),
    holds_word (by omega)]
  rfl

/-- Settles O49: the count begins over the range asked; a cancel ends what is on no message. -/
theorem exportStartsAndCancels : Obligations.ExportStartsAndCancels := by
  intro q a s htaken hp
  refine ⟨fun hok hcount hscan hidle hset => ?_, fun hidle => ?_, fun hphase hcancel hhanded => ?_⟩
  · obtain ⟨u, hu⟩ : ∃ u : State, u = { s.enlist q 0x1D with
      exporter := .start q.tag a (some (a.start, a.start + a.count - 1)) } := ⟨_, rfl⟩
    obtain ⟨l, hl⟩ : ∃ l, l = [fByte 1, fIndex a.start, fIndex (a.start + a.count - 1),
      fLong a.count] := ⟨_, rfl⟩
    obtain ⟨v, hv⟩ : ∃ v, v = u.reply q.port 0x1D q.tag .ok l := ⟨_, rfl⟩
    have hrange : (s.enlist q 0x1D).exportRange a = some (a.start, a.start + a.count - 1) :=
      if_pos hcount
    have hsize : rangeSize (some (a.start, a.start + a.count - 1)) = a.count := by
      show a.start + a.count - 1 + 1 - a.start = a.count
      omega
    have hvset : v.settled := by
      unfold State.settled State.nothingToWrite at hset ⊢
      simpa [hv, hu] using hset
    obtain ⟨x, y, hrun, hgo⟩ := State.exportRun_settled hvset
    obtain ⟨w, hw⟩ : ∃ w : State, w = { v with exporter := x, store := y } := ⟨_, rfl⟩
    rw [← hw] at hrun
    have hexec : exec (.exportTakes q a) s = .next w.pump := by
      refine (finish_taken htaken (Class.admits_suite hp) (exportArgsOk_fits hok)).trans ?_
      dsimp only
      rw [if_neg (by simp [hok]), if_neg (by simp [hscan]), if_neg (by simp [hidle]), hrange, hsize,
        ← hu, show fOpt (fun r : Nat × Nat => [fIndex r.1, fIndex r.2])
          (some (a.start, a.start + a.count - 1)) ++ [fLong a.count] = l by rw [hl]; rfl, ← hv, hrun]
    have hvx : v.exporter = .start q.tag a (some (a.start, a.start + a.count - 1)) := by
      rw [hv, State.reply_exporter, hu]
    have hwx : w.pump.exporter = x := by rw [State.pump_exporter, hw]
    rw [hvx] at hgo
    have hmu : Mum s u :=
      (mum_enlist s q 0x1D none).trans (.of_eq (by rw [hu]) (by rw [hu]) (by rw [hu]))
    have hru : NoReply s u := (noReply_enlist s q 0x1D none).trans (.of_eq (by rw [hu]) (by rw [hu]))
    have hmv : Mum s w :=
      (hmu.trans (hv ▸ mum_reply u _ _ _ _ _)).trans (.of_eq (by rw [hw]) (by rw [hw]) (by rw [hw]))
    have hav : Answered s v q 0x1D .ok l := hru.answered (hv ▸ answered_reply u q 0x1D .ok l)
    refine ⟨_, hexec, ?_, ?_, ?_, ?_, ?_, ?_, by simp [hw, hv, hu], by simp [hw, hv, hu],
      by simp [hw, hv, hu], hmv.silent.trans (silent_pump w), ?_⟩
    · rw [hwx]; exact hgo.phase nofun
    · rw [hwx]; exact hgo.tag
    · rw [hwx]; exact hgo.session
    · rw [hwx]; exact hgo.range
    · rw [hwx]; exact hgo.blockSize
    · rw [hwx]; exact hgo.follow
    · rw [← hl]
      exact (hav.noReply (.of_eq (by rw [hw]) (by rw [hw]))).noReply (noReply_pump w)
  · have hexec : exec (.cancelExport q) s =
        finish ((s.enlist q 0x1E).reply q.port 0x1E q.tag .notFound) := by
      refine (finish_taken htaken (Class.admits_suite hp) rfl).trans ?_
      rw [if_pos (by simp [hidle])]
      rfl
    rw [hexec]
    exact answered_only
  · obtain ⟨u, hu⟩ : ∃ u : State, u = { s.enlist q 0x1E with
      exporter := .reset, store := s.store.withdrawExport } := ⟨_, rfl⟩
    have hstop : s.exporter.stop.handed.isSome = false := by
      show s.exporter.handed.isSome = false
      rw [hhanded]
      rfl
    have hexec : exec (.cancelExport q) s = .next (u.reply q.port 0x1E q.tag .ok
        [fByte s.exporter.tag, fCount s.exporter.lastSent]).pump := by
      refine (finish_taken htaken (Class.admits_suite hp) rfl).trans ?_
      dsimp only
      rw [State.enlist_exporter, if_neg hphase, if_neg (by simp [hcancel]), if_neg (by simp [hstop]),
        State.enlist_store, hu, hp]
      rfl
    obtain ⟨ha, hs⟩ := answered_silent (q := q) (k := 0x1E) (st := .ok)
      (l := [fByte s.exporter.tag, fCount s.exporter.lastSent])
      ((noReply_enlist s q 0x1E none).trans (.of_eq (t := u) (by rw [hu]) (by rw [hu])))
      ((mum_enlist s q 0x1E none).trans (.of_eq (t := u) (by rw [hu]) (by rw [hu]) (by rw [hu])))
    refine ⟨_, hexec, by simp [hu], fun x hx => ?_, by simp [hu], by simp [hu], hs, ha⟩
    rw [State.pump_store, State.reply_store, hu] at hx
    exact of_decide_eq_true (List.mem_filter.1 hx).2

end Sys2Proof.Machine
end

section
/-!
SUPPORT. A block that has been sent, the follow queue, and what a close and a mark hand to the exporter.
-/

namespace Sys2Proof.Machine

/-! ### A block sent -/

/-- The context once a block has been sent, unless that ends the exporter. -/
def Exporter.blockSent (x : Exporter) (b : Block) : Exporter :=
  { x with
    handed := none
    sent := x.sent ++ b.takes.map TakeRecord.index
    lastSent := b.seq
    amendments := x.amendments.map fun h =>
      if (b.takes.map TakeRecord.index).contains h.amendment.index then { h with ready := true } else h }

theorem Exporter.messageSent_block {x : Exporter} {tag : Nat} {b : Block}
    (h : x.handed = some (.block tag b)) : x.messageSent =
      if b.final ∧ !x.follow ∧ x.cancel.isNone then .reset else x.blockSent b := by
  unfold Exporter.messageSent
  rw [h]
  rfl

section
variable {s : State} {m : ExportMsg}

/-- The suite port's transmitter freed of an exporter message. -/
def State.freed (s : State) : State := { s with suite := { s.suite with tx := none } }

theorem mum_freed (s : State) : Mum s s.freed := .of_eq rfl rfl rfl

theorem noReply_freed (h : s.suite.tx = some (.exported m)) : NoReply s s.freed := by
  intro p
  cases p with
  | control => rfl
  | suite => simp [State.outgoing, State.freed, State.port, h]

theorem State.inner_freed (s : State) : s.freed.inner = s.inner := rfl

theorem State.settled_freed (h : s.settled) (x : Exporter) :
    ({ s.freed with exporter := x } : State).settled := h

/-- A message of the exporter sent with no cancel waiting. -/
theorem exec_exportSent (htx : s.suite.tx = some (.exported m)) (hc : s.exporter.cancel = none) :
    exec (.messageSent .suite) s = .next
      (({ s.freed with exporter := s.exporter.messageSent } : State).exportRun.arbitrate).pump := by
  show finish _ = _
  rw [show (s.port .suite).tx = some (.exported m) from htx]
  show Host.Outcome.next ((s.freed.afterSent .suite (.exported m)).arbitrate).pump = _
  rw [State.afterSent, show s.freed.exporter.cancel = none from hc]
  rfl

/-- A message of the exporter sent while a cancel waits for it. -/
theorem exec_exportCancelled (htx : s.suite.tx = some (.exported m)) {c : Nat}
    (hc : s.exporter.cancel = some c) : exec (.messageSent .suite) s = .next
      ((({ s.freed with exporter := s.exporter.messageSent } : State).endExport c).arbitrate).pump := by
  show finish _ = _
  rw [show (s.port .suite).tx = some (.exported m) from htx]
  show Host.Outcome.next ((s.freed.afterSent .suite (.exported m)).arbitrate).pump = _
  rw [State.afterSent, show s.freed.exporter.cancel = some c from hc]
  rfl

/-- What the engine and the arbiter leave of a sent message. -/
theorem exportSent_quiet (htx : s.suite.tx = some (.exported m)) {v : State} {x : Exporter} {y : Store}
    (hv : v = { s.freed with exporter := x, store := y }) :
    v.pump.inner = { s with exporter := x, store := y }.inner ∧ NoReply s v.pump ∧
      Silent s v.pump := by
  obtain ⟨hr, hs⟩ := quiet_pump (u := v)
    ((noReply_freed htx).trans (.of_eq (by rw [hv]) (by rw [hv])))
    ((mum_freed s).trans (.of_eq (by rw [hv]) (by rw [hv]) (by rw [hv])))
  refine ⟨?_, hr, hs⟩
  rw [State.inner_pump, hv]
  rfl

end

/-! ### The engine's moves in the follow phase -/

section
variable {s t : State}

theorem exportMoves_step (h : s.exportMove = some t) (n : Nat) :
    exportMoves (n + 1) s = exportMoves n t := by rw [exportMoves, h]

/-- With a block formed and a message on the way the engine waits. -/
theorem State.exportMove_stalled (hh : s.exporter.handed ≠ none) (hf : s.exporter.formed ≠ none) :
    s.exportMove = none := by
  unfold State.exportMove
  dsimp only
  split
  · rfl
  split
  · rename_i h _
    exact absurd h hh
  · rename_i h _ _
    exact absurd h hh
  · rw [if_pos (by simp [Exporter.stalled, Option.isSome_iff_ne_none, hf])]

/-- In the follow phase with nothing to hand, the head of the queue is taken. -/
theorem State.exportMove_follow {i : Nat} {q : List Nat} (hp : s.exporter.phase = .following)
    (hc : s.exporter.cancel = none) (ha : s.exporter.amendments = [])
    (hf : s.exporter.formed = none) (hr : s.exporter.reading = none) (hq : s.exporter.queue = i :: q) :
    s.exportMove = some (s.followHead i) := by
  unfold State.exportMove
  dsimp only
  rw [if_neg (by simp [hp, hc]), ha, hf]
  simp [Exporter.stalled, hr, hf, hc, hp, hq]

/-- A formed block is handed when nothing else is on the way. -/
theorem State.exportMove_hand {b : Block} (hp : s.exporter.phase = .following)
    (hc : s.exporter.cancel = none) (hh : s.exporter.handed = none)
    (ha : s.exporter.amendments = []) (hf : s.exporter.formed = some b) :
    s.exportMove = some { s with exporter := s.exporter.handBlock b } := by
  unfold State.exportMove
  dsimp only
  rw [if_neg (by simp [hp, hc]), hh, ha, hf]
  rfl

/-- In the follow phase with an empty queue and nothing to hand, the engine waits. -/
theorem State.exportMove_empty (hp : s.exporter.phase = .following)
    (hc : s.exporter.cancel = none) (ha : s.exporter.amendments = [])
    (hf : s.exporter.formed = none) (hq : s.exporter.queue = []) : s.exportMove = none := by
  unfold State.exportMove
  dsimp only
  rw [if_neg (by simp [hp, hc]), ha, hf]
  simp [hp, hq]

end

section
variable {s : State} {i : Nat} (hp : s.exporter.phase = .following) (hc : s.exporter.cancel = none)
  (ha : s.exporter.amendments = []) (hf : s.exporter.formed = none)
  (hr : s.exporter.reading = none) (hq : s.exporter.queue = [i])
include hp hc ha hf hr hq

/-- The only head of the follow queue, found in the table, goes out as a block of its own. -/
theorem State.exportRun_follow (hh : s.exporter.handed = none) {e : Entry} (he : s.findTake s.exporter.session i = some e) :
    s.exportRun = { s with exporter := { s.exporter with
      queue := []
      losses := 0
      seq := nextSeq s.exporter.seq
      handed := some (.block s.exporter.tag
        ⟨s.exporter.seq, true, [e.copy], 0, false, 0, 0, s.exporter.losses⟩) } } := by
  obtain ⟨u, hu⟩ : ∃ u : State, u = { s with exporter := s.exporter.formFollow e.copy } := ⟨_, rfl⟩
  have hhead : s.followHead i = u := by
    rw [State.followHead, he, hu]
  obtain ⟨b, hb⟩ : ∃ b : Block,
      b = ⟨s.exporter.seq, true, [e.copy], 0, false, 0, 0, s.exporter.losses⟩ := ⟨_, rfl⟩
  obtain ⟨v, hv⟩ : ∃ v : State, v = { u with exporter := u.exporter.handBlock b } := ⟨_, rfl⟩
  have h1 := State.exportMove_follow hp hc ha hf hr hq
  have h2 : u.exportMove = some v := by
    rw [hv]
    exact State.exportMove_hand (by rw [hu]; exact hp) (by rw [hu]; exact hc) (by rw [hu]; exact hh)
      (by rw [hu]; exact ha) (by rw [hu, hb]; rfl)
  have hvp : v.exporter.phase = .following := by
    rw [hv, hu, hb]
    show (if false = true ∧ s.exporter.follow = true then ExportPhase.following
      else s.exporter.phase) = _
    rw [if_neg (by simp), hp]
  have h3 : v.exportMove = none := State.exportMove_empty hvp (by rw [hv, hu]; exact hc)
    (by rw [hv, hu]; exact ha) (by rw [hv, hu]; rfl) (by rw [hv, hu]; exact congrArg List.tail hq)
  rw [State.exportRun, exportMoves_step h1, hhead, exportMoves_step h2, exportMoves_of_none h3]
  have hve : v.exporter = { s.exporter with
      queue := []
      losses := 0
      seq := nextSeq s.exporter.seq
      handed := some (.block s.exporter.tag b) } := by
    have hx : v.exporter = { (s.exporter.formFollow e.copy) with
        handed := some (.block s.exporter.tag b), formed := none
        phase := v.exporter.phase } := by rw [hv, hu]; rfl
    rw [hx, hvp, ← hp, Exporter.formFollow, hq, ← hf]
    rfl
  have hvs : v = { s with exporter := v.exporter } := by rw [hv, hu]
  rw [hvs, hve, hb]

/-- The only head of the follow queue, found nowhere, is counted among the losses. -/
theorem State.exportRun_lost (he : s.findTake s.exporter.session i = none)
    (hd : completePages s.store.directory s.exporter.session i = none)
    (hl : s.exporter.losses < 65535) :
    s.exportRun = { s with exporter := { s.exporter with
      queue := [], losses := s.exporter.losses + 1 } } := by
  obtain ⟨u, hu⟩ : ∃ u : State, u = { s with exporter := { s.exporter with
    queue := [], losses := s.exporter.losses + 1 } } := ⟨_, rfl⟩
  have hlose : s.exporter.loseHead i = { s.exporter with
      queue := [], losses := s.exporter.losses + 1 } := by
    rw [Exporter.loseHead, Exporter.dropAmendment, bump16, if_pos hl, hq]
    show ({ s.exporter with queue := [], losses := s.exporter.losses + 1
                            amendments := s.exporter.amendments.filter _ } : Exporter) = _
    rw [ha]
    exact congrArg (fun l => ({ s.exporter with
      queue := [], losses := s.exporter.losses + 1, amendments := l } : Exporter)) ha.symm
  have hhead : s.followHead i = u := by
    rw [State.followHead, he]
    dsimp only
    rw [if_neg (by simp [State.storeHolds, hd]), hlose, hu]
  have h1 := State.exportMove_follow hp hc ha hf hr hq
  have h2 : u.exportMove = none := State.exportMove_empty (by rw [hu]; exact hp)
    (by rw [hu]; exact hc) (by rw [hu]; exact ha) (by rw [hu]; exact hf) (by rw [hu])
  rw [State.exportRun, exportMoves_step h1, hhead, exportMoves_of_none h2, hu]

end

/-! ### What a close and a mark hand to the exporter -/

section
variable {s : State}

theorem PageEnds.exporter {u v : State} (h : PageEnds u v) : v.exporter = u.exporter := by
  have hf := State.inner_fields h.1
  dsimp only at hf
  simp [hf]

/-- The exporter context after a take's close: what the close hands it, while it waits. -/
theorem State.closeTake_exporter {u ss ix : Nat} (hcur : (s.unit u).current = .logged ss ix)
    (hh : s.exporter.handed ≠ none) (hf : s.exporter.formed ≠ none)
    {x : Exporter} (hx : x = s.exporter.closed ss ix) (hxh : x.handed = s.exporter.handed)
    (hxf : x.formed = s.exporter.formed) : (s.closeTake u).exporter = x := by
  obtain ⟨v, hv⟩ : ∃ v : State, v = { s.frozen ss ix with exporter := x } := ⟨_, rfl⟩
  have hfreeze : s.freezeTake ss ix = v := by
    rw [State.freezeTake_eq, ← hx, ← hv]
    refine State.exportRun_of_none (State.exportMove_stalled ?_ ?_)
    · rw [hv]
      exact hxh ▸ hh
    · rw [hv]
      exact hxf ▸ hf
  have hclose : s.closeTake u =
      ((v.stopRolling u (.logged ss ix)).noteClosed (s.closing u)).arbitrate := by
    unfold State.closeTake
    simp only [hcur, hfreeze]
  rw [hclose, PageEnds.exporter (pageEnds_arbitrate _), State.noteClosed, State.notify_exporter,
    State.stopRolling_eq, hv]

/-- A take that closes behind the count joins the follow queue. -/
theorem Exporter.closed_queue {x : Exporter} {ss ix : Nat} (hp : x.phase ≠ .idle)
    (hfollow : x.follow = true) (hc : x.cancel = none) (hs : x.session = ss)
    (hlen : x.queue.length < 64) (hbehind : ∀ a b, x.range = some (a, b) →
      ix < a ∨ b < ix ∨ ∃ l, x.last = some l ∧ ix ≤ l) :
    x.closed ss ix = { x with queue := x.queue ++ [ix] } := by
  have hahead : x.ahead ix = false := by
    unfold Exporter.ahead
    cases hr : x.range with
    | none => rfl
    | some r =>
      obtain ⟨a, b⟩ := r
      rcases hbehind a b hr with h | h | ⟨l, hl, h⟩
      · simp; omega
      · simp; omega
      · simp [hl]; omega
  rw [Exporter.closed, if_neg (by simp [hp, hfollow, hc, hs, hahead]), if_pos hlen]

/-- An amendment of a take already sent joins the list, ready to be handed. -/
theorem Exporter.amended_sent {x : Exporter} {am : Amendment} (hp : x.phase ≠ .idle)
    (hfollow : x.follow = true) (hc : x.cancel = none) (hs : x.session = am.session)
    (hsent : am.index ∈ x.sent) (hlen : x.amendments.length < 16)
    (hnone : ∀ h ∈ x.amendments, h.amendment.session = am.session →
      h.amendment.index ≠ am.index) :
    x.amended am = { x with amendments := x.amendments ++ [⟨am, true⟩] } := by
  have hany : (x.amendments.any fun h => am.sameTake h.amendment) = false := by
    rw [List.any_eq_false]
    intro h hh hsame
    simp only [Amendment.sameTake, Bool.and_eq_true, decide_eq_true_eq] at hsame
    exact hnone h hh hsame.1.symm hsame.2.symm
  rw [Exporter.amended, if_neg (by simp [hp, hfollow, hc, hs]), if_pos (by simpa using hsent),
    Exporter.enter, if_neg (by simp [hany]), if_pos hlen]

end

/-- Settles O50: the context once a block is sent, and what a close and a mark hand to it. -/
theorem exportEnds : Obligations.ExportEnds := by
  refine ⟨fun tag b s htx hhanded hset => ⟨fun hfinal hfollow hc => ?_, fun c hc => ?_,
    fun hfinal hc => ?_, fun i hp hfollow hc hr hf ham hq => ?_⟩, fun q ix e s htaken hp hset he
      hphase hfollow hc hsess hh hf => ⟨fun u hu hcur ho hlen hbehind => ?_,
        fun a after hfits hm hss hix h1 h2 hclosed hsent hlen hnone hafter => ?_⟩⟩
  · have hx : s.exporter.messageSent = .reset := by
      rw [Exporter.messageSent_block hhanded, if_pos (by simp [hfinal, hfollow, hc])]
    have hexec := exec_exportSent htx hc
    rw [hx, State.exportRun_idle rfl, State.arbitrate_settled (State.settled_freed hset _)] at hexec
    exact ⟨_, hexec, exportSent_quiet htx rfl⟩
  · have hx : s.exporter.messageSent = s.exporter.blockSent b := by
      rw [Exporter.messageSent_block hhanded, if_neg (by simp [hc])]
    obtain ⟨u, hu⟩ : ∃ u : State, u = { s.freed with exporter := .reset } := ⟨_, rfl⟩
    obtain ⟨v, hv⟩ : ∃ v, v = u.reply .suite 0x1E c .ok [fByte s.exporter.tag, fCount b.seq] :=
      ⟨_, rfl⟩
    have hend : ({ s.freed with exporter := s.exporter.messageSent } : State).endExport c = v := by
      rw [hx, hv, hu]
      rfl
    have hvset : v.settled := by
      have := State.settled_freed hset .reset
      rw [← hu] at this
      unfold State.settled State.nothingToWrite at this ⊢
      simpa [hv] using this
    have hexec := exec_exportCancelled htx hc
    rw [hend, State.arbitrate_settled hvset] at hexec
    have hru : NoReply s u := (noReply_freed htx).trans (.of_eq (by rw [hu]) (by rw [hu]))
    refine ⟨_, hexec, ?_, ?_, ?_⟩
    · rw [State.inner_pump, hv, State.inner_reply, hu]
      rfl
    · have hm : Mum s v := ((mum_freed s).trans (.of_eq (t := u) (by rw [hu]) (by rw [hu])
        (by rw [hu]))).trans (hv ▸ mum_reply u _ _ _ _ _)
      exact hm.silent.trans (silent_pump v)
    · rw [State.outgoing_pump, hv, State.outgoing_reply, hru]
  · have hx : s.exporter.messageSent = s.exporter.blockSent b := by
      rw [Exporter.messageSent_block hhanded, if_neg (by simp [hfinal])]
    obtain ⟨x, y, hrun, hgo⟩ := State.exportRun_settled
      (State.settled_freed hset (s.exporter.blockSent b))
    have hexec := exec_exportSent htx hc
    rw [hx, hrun] at hexec
    obtain ⟨hi, hr, hs⟩ := exportSent_quiet (s := s) htx (x := x) (y := y) rfl
    have hfields := State.inner_fields hi
    dsimp only at hfields
    refine ⟨_, hexec, ?_, ?_, ?_, ?_, ?_, hr, hs⟩
    · rw [State.pump_exporter]; exact hgo.sent
    · rw [State.pump_exporter]; exact hgo.lastSent
    · rw [State.pump_exporter]; exact hgo.tag
    · rw [State.pump_takes]; rfl
    · rw [State.pump_flash]; rfl
  · have hx : s.exporter.messageSent = s.exporter.blockSent b := by
      rw [Exporter.messageSent_block hhanded, if_neg (by simp [hfollow])]
    obtain ⟨u, hu⟩ : ∃ u : State, u = { s.freed with exporter := s.exporter.blockSent b } := ⟨_, rfl⟩
    have hua : u.exporter.amendments = [] := by
      rw [hu]
      show s.exporter.amendments.map _ = []
      rw [ham]
      rfl
    have hexec := exec_exportSent htx hc
    rw [hx, ← hu] at hexec
    have hblock : s.exporter.blockSent b = { s.exporter with
        handed := none
        sent := s.exporter.sent ++ b.takes.map TakeRecord.index
        lastSent := b.seq } := by
      rw [Exporter.blockSent, ham]
      exact congrArg (fun l => ({ s.exporter with
        handed := none
        sent := s.exporter.sent ++ b.takes.map TakeRecord.index
        lastSent := b.seq
        amendments := l } : Exporter)) ham.symm
    refine ⟨fun e he => ?_, fun he hd hl => ?_⟩
    · rw [State.exportRun_follow (s := u) (by rw [hu]; exact hp) (by rw [hu]; exact hc) hua
        (by rw [hu]; exact hf) (by rw [hu]; exact hr) (by rw [hu]; exact hq) (by rw [hu]; rfl)
        (by rw [hu]; exact he), hu, State.arbitrate_settled (State.settled_freed hset _), hblock] at hexec
      exact ⟨_, hexec, exportSent_quiet htx rfl⟩
    · rw [State.exportRun_lost (s := u) (by rw [hu]; exact hp) (by rw [hu]; exact hc) hua
        (by rw [hu]; exact hf) (by rw [hu]; exact hr) (by rw [hu]; exact hq) (by rw [hu]; exact he)
        (by rw [hu]; exact hd) (by rw [hu]; exact hl), hu,
        State.arbitrate_settled (State.settled_freed hset _), hblock] at hexec
      exact ⟨_, hexec, exportSent_quiet htx rfl⟩
  · have hcur' : ((s.enlist q 0x13).unit u).current = .logged s.store.session ix := by
      rw [State.enlist_unit, hcur]
    have hqueue := Exporter.closed_queue hphase hfollow hc hsess hlen hbehind
    refine ⟨_, exec_endTake htaken hp hu (by rw [hcur]; nofun), ?_⟩
    rw [State.pump_exporter, State.reply_exporter, State.closeTake_exporter hcur'
      (by rw [State.enlist_exporter]; exact hh) (by rw [State.enlist_exporter]; exact hf)
      (x := { s.exporter with queue := s.exporter.queue ++ [ix] })
      (by rw [State.enlist_exporter, hqueue]) (by rw [State.enlist_exporter])
      (by rw [State.enlist_exporter])]
  · subst hix
    obtain ⟨u, hu⟩ : ∃ u, u = s.enlist q 0x14 := ⟨_, rfl⟩
    rw [← hss] at he
    obtain ⟨-, hes, hei⟩ := State.findTake_some he
    have hexec := (exec_markTake htaken hp hfits hm hss h1 h2 hu).1 e he
    refine ⟨_, hexec, ?_⟩
    obtain ⟨am, ham⟩ : ∃ am, am = ((carried a).apply e.copy).amendment := ⟨_, rfl⟩
    have hnote : ((carried a).apply e.copy).note.getD [] = after := by
      rw [hafter]
      show (match a.note with
        | none => e.copy.note
        | some [] => none
        | some t => some t).getD [] = _
      cases a.note with
      | none => rfl
      | some t => cases t <;> rfl
    have ham' : am = Amendment.mk s.store.session a.index (some (a.circled.getD e.copy.circled))
        (some (a.falseStart.getD e.copy.falseStart)) (some after) := by
      rw [ham, ← hnote, ← hss, ← hes, ← hei]
      rfl
    obtain ⟨w, hw⟩ : ∃ w, w = u.modTake a.session a.index
      (fun e => e.mod fun r => (carried a).apply r) := ⟨_, rfl⟩
    have hwx : w.exporter = s.exporter := by
      rw [hw, State.modTake_exporter, hu, State.enlist_exporter]
    have hamended : w.exporter.amended am = { s.exporter with
        amendments := s.exporter.amendments ++ [⟨am, true⟩] } := by
      rw [hwx]
      exact Exporter.amended_sent hphase hfollow hc (by rw [ham', hsess]) (by rw [ham']; exact hsent)
        hlen (by rw [ham']; exact hnone)
    obtain ⟨v, hv⟩ : ∃ v : State, v = { w with exporter := w.exporter.amended am } := ⟨_, rfl⟩
    have hmark : u.markInTable a e.copy = v := by
      unfold State.markInTable
      rw [← hw]
      dsimp only
      rw [if_neg (by rw [hclosed]; nofun), if_pos hclosed, ← ham, State.exportAmendment, ← hv]
      refine State.exportRun_of_none (State.exportMove_stalled ?_ ?_)
      · rw [hv, hamended]; exact hh
      · rw [hv, hamended]; exact hf
    rw [State.pump_exporter, State.reply_exporter, hmark, PageEnds.exporter (pageEnds_arbitrate v), hv,
      hamended, ham']

end Sys2Proof.Machine
end

section
/-!
SUPPORT. Conform queries: what a search answers, and the query of the take table.
-/

namespace Sys2Proof.Machine

/-! ### The reply to a query -/

section
variable (s : State) (p : Port) (k tag : Nat) (st : Status) (l : List Field)

/-- The context of a port answered, the reply to be sent. -/
def State.contextAnswered (s : State) (p : Port) : State :=
  s.modPort p fun x => { x with conform := .answered }

theorem State.inner_replyQuery : (s.replyQuery p k tag st l).inner = (s.contextAnswered p).inner := by
  cases p <;> rfl

theorem State.replyQuery_store : (s.replyQuery p k tag st l).store = s.store := s.modPort_store p _

theorem State.replyQuery_takes : (s.replyQuery p k tag st l).takes = s.takes := s.modPort_takes p _

theorem mum_replyQuery : Mum s (s.replyQuery p k tag st l) := by
  cases p <;> exact ⟨rfl, rfl, rfl⟩

theorem State.outgoing_replyQuery : (s.replyQuery p k tag st l).outgoing p =
    s.outgoing p ++ [⟨replyMessage k tag st l, true, true⟩] := by
  cases p <;> simp [State.replyQuery, State.outgoing, State.modPort, State.port]

theorem State.outgoing_replyQuery_other : (s.replyQuery p k tag st l).outgoing (otherPort p) =
    s.outgoing (otherPort p) := by
  cases p <;> rfl

end

section
variable {s : State}

/-- A query answered, with nothing for the store to do. -/
theorem replyQuery_sent {u : State} {p : Port} {k tag : Nat} {st : Status} {l : List Field}
    (hset : u.settled) :
    (u.replyQuery p k tag st l).arbitrate.pump.inner = (u.contextAnswered p).inner ∧
      Silent u (u.replyQuery p k tag st l).arbitrate.pump ∧
      (u.replyQuery p k tag st l).arbitrate.pump.outgoing (otherPort p) =
        u.outgoing (otherPort p) ∧
      (u.replyQuery p k tag st l).arbitrate.pump.outgoing p =
        u.outgoing p ++ [⟨replyMessage k tag st l, true, true⟩] := by
  have hset' : (u.replyQuery p k tag st l).settled := by
    unfold State.settled State.nothingToWrite at hset ⊢
    rwa [State.replyQuery_store, State.replyQuery_takes]
  rw [State.arbitrate_settled hset']
  refine ⟨?_, (mum_replyQuery u p k tag st l).silent.trans (silent_pump _), ?_, ?_⟩
  · rw [State.inner_pump, State.inner_replyQuery]
  · rw [State.outgoing_pump, State.outgoing_replyQuery_other]
  · rw [State.outgoing_pump, State.outgoing_replyQuery]

/-! ### What a search finds and answers -/

theorem State.searchOn_done {p : Port} {tag : Nat} {q : Search} {toRead : List Nat}
    {found : List Match} (h : q.limit ≤ found.length ∨ toRead = []) :
    s.searchOn p tag q toRead found = s.answerSearch p tag q found := by
  unfold State.searchOn
  rcases h with h | h
  · rw [if_pos h]
  · rw [h]
    split <;> rfl

/-- A query with scope TABLE that names no take. -/
theorem State.search_table {p : Port} {tag : Nat} {q : Search}
    (hq : ∀ a b c d i, q ≠ .whereIs a b c d (some i)) : s.search p tag q false =
      s.answerSearch p tag q
        (((s.tableRecords q.session).filterMap (q.examine s.houseTime)).take q.limit) := by
  have hfound : examineAll q s.houseTime (s.tableRecords q.session) [] =
      ((s.tableRecords q.session).filterMap (q.examine s.houseTime)).take q.limit :=
    examineAll_eq q s.houseTime _ [] (Nat.zero_le _)
  unfold State.search
  split
  · exact absurd rfl (hq _ _ _ _ _)
  · rw [hfound]
    exact State.searchOn_done (.inr rfl)

/-- The records of a session in the table. -/
def State.sessionRecords (s : State) (session : Nat) : List TakeRecord :=
  (s.takes.entries.toList.filterMap (Option.map Entry.copy)).filter
    (fun r => decide (r.session = session))

theorem State.tableRecords_perm (s : State) (session : Nat) :
    (s.tableRecords session).Perm (s.sessionRecords session) := (tableRecords_spec s session).1

/-- An order of the session's records by strictly descending log index is the order they are
searched in. -/
theorem State.tableRecords_eq {session : Nat} {order : List TakeRecord}
    (hp : order.Perm (s.sessionRecords session))
    (hs : order.Pairwise fun x y => y.index < x.index) : s.tableRecords session = order := by
  have hnodup : (order.map TakeRecord.index).Nodup :=
    List.pairwise_map.2 (hs.imp fun h => Nat.ne_of_gt h)
  have hperm := (s.tableRecords_perm session).trans hp.symm
  exact hperm.eq_of_pairwise (fun a b ha hb hab hba =>
      List.inj_on_of_nodup_map hnodup (hperm.subset ha) hb (Nat.le_antisymm hba hab))
    (tableRecords_spec s session).2 (hs.imp Nat.le_of_lt)

theorem Search.answer_where {a b c d house : Nat} {i : Option Nat} {m : Match} {rest : List Match} :
    Search.answer (.whereIs a b c d i) house (m :: rest) =
      (.ok, m.whereFields house (decide (rest ≠ []))) := by
  cases rest <;> rfl

theorem Search.answer_nil (q : Search) (house : Nat) : q.answer house [] = (.notFound, []) := by
  cases q <;> rfl

theorem Search.answer_at {a tick house : Nat} {ms : List Match} (h : ms ≠ []) :
    Search.answer (.atTick a tick) house ms =
      (.ok, fByte (min ms.length 4) ::
        (ms.take 4).flatMap (fun m => m.takeFields ++ m.placeFields) ++
          [fByte (if 4 < ms.length then 1 else 0)]) := by
  cases ms with
  | nil => exact absurd rfl h
  | cons m ms =>
    have hlen : ((m :: ms).take 4).length = min (m :: ms).length 4 := by
      rw [List.length_take, Nat.min_comm]
    have hflag : fFlag (decide (4 < (m :: ms).length)) =
        fByte (if 4 < (m :: ms).length then 1 else 0) := by
      by_cases h4 : 4 < (m :: ms).length
      · rw [if_pos h4, decide_eq_true h4]; rfl
      · rw [if_neg h4, decide_eq_false h4]; rfl
    show (Status.ok, fByte ((m :: ms).take 4).length :: _ ++ [fFlag _]) = _
    rw [hlen, hflag]

/-- What the first five of a list answer is what the whole answers. -/
theorem Search.answer_at_take {a tick house : Nat} {ms : List Match} :
    Search.answer (.atTick a tick) house (ms.take 5) = Search.answer (.atTick a tick) house ms := by
  cases ms with
  | nil => rfl
  | cons m ms =>
    have hne : (m :: ms).take 5 ≠ [] := by simp
    have htake : ((m :: ms).take 5).take 4 = (m :: ms).take 4 := by
      rw [List.take_take]
      rfl
    have hmin : min ((m :: ms).take 5).length 4 = min (m :: ms).length 4 := by
      rw [List.length_take]; omega
    have hmore : 4 < ((m :: ms).take 5).length ↔ 4 < (m :: ms).length := by
      rw [List.length_take]; omega
    rw [Search.answer_at hne, Search.answer_at (by simp), htake, hmin]
    simp only [hmore]

theorem filterMap_ite {α β : Type} (p : α → Prop) [DecidablePred p] (f : α → β) (l : List α) :
    (l.filterMap fun x => if p x then some (f x) else none) =
      (l.filter fun x => decide (p x)).map f := by
  induction l with
  | nil => rfl
  | cons x l ih =>
    by_cases h : p x
    · simp [h, ih]
    · simp [h, ih]

/-- An AT_TICK over records that are OPEN or have an end. -/
theorem examine_atTick {session tick now : Nat} {order : List TakeRecord}
    (hend : ∀ r ∈ order, r.state = .opened ∨ ∃ fin, r.endTick = some fin) :
    order.filterMap (Search.examine (.atTick session tick) now) =
      (order.filter (fun r => decide (r.startTick ≤ tick ∧
        tick ≤ (if r.state = .opened then now else r.endTick.getD 0)))).map (fun r =>
          Match.mk r tick (if r.state = .opened then some now else none)) := by
  rw [← filterMap_ite]
  refine List.filterMap_congr fun r hr => ?_
  have hfin : (if r.state = .opened then now else r.endTick.getD now) =
      (if r.state = .opened then now else r.endTick.getD 0) := by
    rcases hend r hr with h | ⟨fin, h⟩
    · rw [if_pos h, if_pos h]
    · rw [h]; rfl
  rw [Search.examine, TakeRecord.spans, hfin]
  simp only [decide_eq_true_eq]

end

/-! ### Queries of the take table -/

section
variable {q : Req} {s : State}

/-- What a query leaves that is answered at once. -/
def QueryAnswered (s t : State) (q : Req) (k : Nat) (a : Answer) : Prop :=
  t.inner = (s.contextAnswered q.port).inner ∧ Silent s t ∧
    t.outgoing (otherPort q.port) = s.outgoing (otherPort q.port) ∧
    t.outgoing q.port = s.outgoing q.port ++ [⟨replyMessage k q.tag a.1 a.2, true, true⟩]

theorem State.contextAnswered_enlist (k : Nat) :
    ((s.enlist q k).contextAnswered q.port).inner = (s.contextAnswered q.port).inner := by
  obtain ⟨p, tag, more⟩ := q
  cases p <;> rfl

/-- A query that reaches an idle context and is answered there. -/
theorem arriveQuery_answered (htaken : Taken s q) (hidle : (s.port q.port).conform = .idle)
    (hset : s.settled) {k : Nat} {x : Query} {layout : Bool} (hlayout : layout = true) {a : Answer}
    (h : (s.enlist q k).handQuery q.port q.tag x =
      (s.enlist q k).replyQuery q.port k q.tag a.1 a.2) :
    ∃ t, finish (s.admitWith q k .both layout fun s => s.arriveQuery q k x) = .next t ∧
      QueryAnswered s t q k a := by
  have hadmit : s.admitWith q k .both layout (fun s => s.arriveQuery q k x) =
      s.arriveQuery q k x := by
    obtain ⟨h1, h2, h3⟩ := htaken
    have hn : ¬ 4 ≤ (s.port q.port).outstanding.length := by omega
    simp [State.admitWith, reqFits, hn, h2, Class.admits_both, holds, h3, hlayout]
  rw [hadmit, State.arriveQuery, if_pos hidle, h]
  obtain ⟨h1, h2, h3, h4⟩ := replyQuery_sent (p := q.port) (k := k) (tag := q.tag) (st := a.1) (l := a.2)
    (State.settled_enlist q k none hset)
  have hno := noReply_enlist s q k none
  exact ⟨_, rfl, h1.trans (State.contextAnswered_enlist k),
    (mum_enlist s q k none).silent.trans h2, h3.trans (hno _), h4.trans (by rw [hno])⟩

theorem State.tableRecords_enlist (k session : Nat) :
    (s.enlist q k).tableRecords session = s.tableRecords session :=
  State.reads_enlist s q k none (fun s => s.tableRecords session) (fun _ _ => rfl) fun _ _ => rfl

/-- A WHERE_IS of the table that passes its checks. -/
theorem whereIs_answered (htaken : Taken s q) (hidle : (s.port q.port).conform = .idle)
    (hset : s.settled) {session slot rate : Nat} {l : Label} {index : Option Nat}
    (h1 : 1 ≤ session) (h2 : session ≤ 65535) (hslot : slot < 32) (hr1 : 1 ≤ rate) (hr2 : rate ≤ 17)
    (hl : labelHolds l = true) (hok : labelOk rate l = true)
    (hix : ∀ n, index = some n → 1 ≤ n ∧ n ≤ 4294967295) {a : Answer}
    (h : (s.enlist q 0x1B).search q.port q.tag
        (.whereIs session slot (frameOf rate l) rate index) false =
      (s.enlist q 0x1B).replyQuery q.port 0x1B q.tag a.1 a.2) :
    ∃ t, exec (.whereIs q ⟨session, slot, l, 0, some rate, index⟩) s = .next t ∧
      QueryAnswered s t q 0x1B a := by
  have hfits : WhereArgs.fits ⟨session, slot, l, 0, some rate, index⟩ = true := by
    simp only [WhereArgs.fits, holds_word (show session < 65536 by omega),
      holds_byte (show slot < 256 by omega), hl, holds_byte (show 0 < 256 by decide),
      holdsOpt_byte (o := some rate) (fun n hn => by cases hn; omega),
      holdsOpt_long (fun n hn => Nat.lt_succ_of_le (hix n hn).2), Bool.and_self]
  have hranges : whereRangesOk ⟨session, slot, l, 0, some rate, index⟩ = true := by
    have hrate : rateCodeOk rate = true := by simp [rateCodeOk, hr1, hr2]
    have hindex : (index.map fun i => decide (1 ≤ i ∧ i ≤ 4294967295)).getD true = true := by
      cases index with
      | none => rfl
      | some n => exact decide_eq_true (hix n rfl)
    rw [whereRangesOk, hindex, decide_eq_true ⟨h1, h2, Nat.le_of_lt_succ hslot, Nat.zero_le 1⟩]
    show (true && rateCodeOk rate && true) = true
    rw [hrate]
    rfl
  refine arriveQuery_answered htaken hidle hset hfits ?_
  show (s.enlist q 0x1B).handWhere q.port q.tag _ = _
  rw [State.handWhere, if_neg (by simp [hranges])]
  show (if !labelOk rate l then _ else _) = _
  rw [if_neg (by simp [hok]), if_neg (by simp)]
  exact h

/-- An AT_TICK of the table that passes its checks. -/
theorem atTick_answered (htaken : Taken s q) (hidle : (s.port q.port).conform = .idle)
    (hset : s.settled) {session tick : Nat} (h1 : 1 ≤ session) (h2 : session ≤ 65535)
    (htick : tick ≤ maxHouseTime) {a : Answer}
    (h : (s.enlist q 0x1C).search q.port q.tag (.atTick session tick) false =
      (s.enlist q 0x1C).replyQuery q.port 0x1C q.tag a.1 a.2) :
    ∃ t, exec (.atTick q ⟨session, tick, 0⟩) s = .next t ∧ QueryAnswered s t q 0x1C a := by
  have htick8 : holds 8 tick = true := decide_eq_true (Nat.lt_of_le_of_lt htick (by norm_num [maxHouseTime]))
  have hfits : AtTickArgs.fits ⟨session, tick, 0⟩ = true := by
    simp only [AtTickArgs.fits, holds_word (show session < 65536 by omega), htick8,
      holds_byte (show 0 < 256 by decide), Bool.and_self]
  refine arriveQuery_answered htaken hidle hset hfits ?_
  show (s.enlist q 0x1C).handAtTick q.port q.tag _ = _
  rw [State.handAtTick, if_neg (by dsimp only; omega), if_neg (by simp)]
  exact h

/-- A query with scope TABLE that names no take, over an order of the session's records. -/
theorem search_table_answer {k : Nat} {y : Search} {session : Nat} {order : List TakeRecord}
    (hy : ∀ a b c d i, y ≠ .whereIs a b c d (some i)) (hsess : y.session = session) (hk : y.kind = k)
    (horder : s.tableRecords session = order) :
    (s.enlist q k).search q.port q.tag y false = (s.enlist q k).replyQuery q.port k q.tag
      (y.answer s.house ((order.filterMap (y.examine s.houseTime)).take y.limit)).1
      (y.answer s.house ((order.filterMap (y.examine s.houseTime)).take y.limit)).2 := by
  rw [State.search_table hy, hsess, State.tableRecords_enlist, horder, State.enlist_houseTime,
    State.answerSearch, State.enlist_house, hk]

end

section
variable {q : Req} {s : State}

/-- What a WHERE_IS of the table that names its take answers. -/
def State.namedAnswer (s : State) (y : Search) (ix : Nat) : Answer :=
  match (s.tableRecords y.session).find? fun r => r.index = ix with
  | some r => y.answer s.house (y.examine s.houseTime r).toList
  | none => (.noTake, [])

theorem search_named_answer {session slot n rate ix : Nat} {y : Search}
    (hy : y = .whereIs session slot n rate (some ix)) :
    (s.enlist q 0x1B).search q.port q.tag y false = (s.enlist q 0x1B).replyQuery q.port 0x1B q.tag
      (s.namedAnswer y ix).1 (s.namedAnswer y ix).2 := by
  have hsearch : (s.enlist q 0x1B).search q.port q.tag y false =
      (s.enlist q 0x1B).searchNamed q.port q.tag y ix false := by rw [hy]; rfl
  have hkind : y.kind = 0x1B := by rw [hy]; rfl
  rw [hsearch, State.searchNamed, State.tableRecords_enlist, State.enlist_houseTime, State.namedAnswer]
  cases (s.tableRecords y.session).find? fun r => r.index = ix with
  | none => rw [← hkind]; rfl
  | some r =>
    show (s.enlist q 0x1B).answerSearch _ _ _ _ = _
    rw [State.answerSearch, State.enlist_house, hkind]

end

/-- Settles O47: the table's records in their order, the matches among them, and the answer. -/
theorem conformAnswersTable : Obligations.ConformAnswersTable := by
  intro q session slot tick rate l rs s htaken hidle hset h1 h2 hrs
  have hperm : (s.tableRecords session).Perm rs := hrs ▸ s.tableRecords_perm session
  have horder : ∀ order : List TakeRecord, order.Perm rs →
      order.Pairwise (fun x y => y.index < x.index) → s.tableRecords session = order :=
    fun order hp hs => State.tableRecords_eq (by rw [State.sessionRecords, hrs]; exact hp) hs
  have hempty : rs = [] → s.tableRecords session = [] := by
    rintro rfl
    exact hperm.eq_nil
  have hone : ∀ r, rs = [r] → s.tableRecords session = [r] := by
    rintro r rfl
    exact List.perm_singleton.1 hperm
  refine ⟨fun hslot hr1 hr2 hl hok => ⟨?_, fun ix hix1 hix2 => ?_⟩, fun htick => ?_⟩
  · obtain ⟨t, ht, hi, hs, hother, hout⟩ := whereIs_answered (index := none) htaken hidle hset h1 h2
      hslot hr1 hr2 hl hok nofun
      (search_table_answer (session := session) (order := s.tableRecords session) nofun rfl rfl rfl)
    refine ⟨t, ht, hi, hs, hother, fun he => ?_, fun r i he hst hins => ?_,
      fun order ms hp hsort hms => ⟨fun hnil => ?_, fun m rest hcons => ?_⟩⟩
    · rw [hout, hempty he]
      rfl
    · rw [hout, hone r he]
      simp only [List.filterMap_cons, List.filterMap_nil, Search.examine, hins, Option.map_some,
        if_neg hst]
      rfl
    · rw [horder order hp hsort] at hout
      have hfound : order.filterMap (Search.examine
          (.whereIs session slot (frameOf rate l) rate none) s.houseTime) = ms := hms.symm
      rw [hout, hfound, hnil]
      rfl
    · rw [horder order hp hsort] at hout
      have hfound : order.filterMap (Search.examine
          (.whereIs session slot (frameOf rate l) rate none) s.houseTime) = ms := hms.symm
      have hmore : decide (rest.take 1 ≠ []) = decide (rest ≠ []) := by cases rest <;> rfl
      rw [hout, hfound, hcons, show (m :: rest).take (Search.limit (.whereIs session slot
        (frameOf rate l) rate none)) = m :: rest.take 1 from rfl, Search.answer_where, hmore]
  · obtain ⟨y, hy⟩ : ∃ y, y = Search.whereIs session slot (frameOf rate l) rate (some ix) := ⟨_, rfl⟩
    obtain ⟨t, ht, hi, hs, hother, hout⟩ := whereIs_answered (index := some ix) htaken hidle hset h1 h2
      hslot hr1 hr2 hl hok (fun n hn => by cases hn; exact ⟨hix1, hix2⟩)
      (search_named_answer rfl)
    rw [← hy] at hout
    have hfind : s.namedAnswer y ix =
        match (s.tableRecords session).find? fun r => r.index = ix with
        | some r => y.answer s.house (y.examine s.houseTime r).toList
        | none => (.noTake, []) := by rw [hy]; rfl
    refine ⟨t, ht, hi, hs, hother, fun hne => ?_, fun r hr hrix hu => ?_⟩
    · have hnone : ((s.tableRecords session).find? fun r => r.index = ix) = none :=
        List.find?_eq_none.2 fun r hr => by simpa using hne r (hperm.subset hr)
      rw [hout, hfind, hnone]
    · have hsome : ((s.tableRecords session).find? fun r => r.index = ix) = some r := by
        cases hf : (s.tableRecords session).find? fun r => r.index = ix with
        | none => exact absurd (List.find?_eq_none.1 hf r (hperm.symm.subset hr)) (by simp [hrix])
        | some z =>
          have hz : z.index = ix := by simpa using List.find?_some hf
          rw [hu z (hperm.subset (List.mem_of_find?_eq_some hf)) hz]
      rw [hsome] at hfind
      refine ⟨fun hnone => ?_, fun i hins => ?_⟩
      · rw [hout, hfind, hy]
        simp only [Search.examine, hnone]
        rfl
      · rw [hout, hfind, hy]
        simp only [Search.examine, hins]
        rfl
  · obtain ⟨t, ht, hi, hs, hother, hout⟩ := atTick_answered htaken hidle hset h1 h2 htick
      (search_table_answer (session := session) (order := s.tableRecords session) nofun rfl rfl rfl)
    rw [show Search.limit (.atTick session tick) = 5 from rfl, Search.answer_at_take] at hout
    refine ⟨t, ht, hi, hs, hother, fun he => ?_, fun r fin he hst hfin hle1 hle2 => ?_,
      fun order ms hp hsort hend hms => ?_⟩
    · rw [hout, hempty he]
      rfl
    · have hexamine : Search.examine (.atTick session tick) s.houseTime r = some ⟨r, tick, none⟩ := by
        rw [Search.examine, TakeRecord.spans, if_neg hst, hfin]
        simp [hle1, hle2, hst]
      rw [hout, hone r he]
      simp only [List.filterMap_cons, List.filterMap_nil, hexamine]
      rw [Search.answer_at (by simp)]
      simp
    · rw [horder order hp hsort, examine_atTick fun r hr => hend r (hp.subset hr), ← hms] at hout
      refine ⟨fun hnil => ?_, fun hne => ?_⟩
      · rw [hout, hnil]
        rfl
      · rw [hout, Search.answer_at hne]

end Sys2Proof.Machine
end

section
/-!
SUPPORT. What a store read answers: the search that asked it, and the exporter.
-/

namespace Sys2Proof.Machine

/-! ### A read of a conform query -/

section
variable {s u : State} {p : Port} {tag session index : Nat}

/-- The flash free again after a read. -/
def State.readDone (s : State) : State :=
  { s with store := { s.store with op := .idle, lastWrite := false } }

theorem mum_readDone (s : State) : Mum s s.readDone := .of_eq rfl rfl rfl

theorem noReply_readDone (s : State) : NoReply s s.readDone := .of_eq rfl rfl

theorem exec_conformRead {x : Option TakeRecord}
    (hop : s.store.op = .read ⟨.conform p, session, index⟩ true)
    (hx : x = readTake s.store.directory s.flash.log session index) :
    exec .storeReadDone s = .next (s.readDone.conformAnswer p x).arbitrate.pump := by
  show finish _ = _
  rw [hop, hx]
  rfl

theorem State.port_readDone (s : State) (p : Port) : s.readDone.port p = s.port p := by
  cases p <;> rfl

/-- A read of the store that answers a query ends it. -/
theorem readAnswered {k : Nat} {st : Status} {l : List Field} (hset : s.readDone.settled)
    (hexec : exec .storeReadDone s =
      .next (s.readDone.replyQuery p k tag st l).arbitrate.pump) :
    ∃ t, exec .storeReadDone s = .next t ∧ t.inner = (s.readDone.contextAnswered p).inner ∧
      Silent s t ∧ t.outgoing (otherPort p) = s.outgoing (otherPort p) ∧
      t.outgoing p = s.outgoing p ++ [⟨replyMessage k tag st l, true, true⟩] := by
  obtain ⟨h1, h2, h3, h4⟩ := replyQuery_sent (p := p) (k := k) (tag := tag) (st := st) (l := l) hset
  exact ⟨_, hexec, h1, (mum_readDone s).silent.trans h2, h3.trans (noReply_readDone s _),
    h4.trans (by rw [noReply_readDone s p])⟩

/-- The search of the store phase goes on from the record read. -/
theorem State.conformAnswer_on {q : Search} {rest : List Nat} {found : List Match}
    {x : Option TakeRecord} (hbusy : (s.port p).conform = .busy tag q (index :: rest) found)
    (hq : ∀ a b c d i, q ≠ .whereIs a b c d (some i)) :
    s.conformAnswer p x = s.searchOn p tag q rest
      (found ++ (x.bind (q.examine s.houseTime)).toList) := by
  unfold State.conformAnswer
  rw [hbusy]
  cases x with
  | none =>
    rw [Option.bind_none, Option.toList_none, List.append_nil]
    cases q with
    | atTick a b => rfl
    | whereIs a b c d i =>
      cases i with
      | none => rfl
      | some i => exact absurd rfl (hq a b c d i)
  | some r =>
    rw [Option.bind_some]
    cases q with
    | atTick a b => rfl
    | whereIs a b c d i =>
      cases i with
      | none => rfl
      | some i => exact absurd rfl (hq a b c d i)

/-- The query goes on to its next index: one read more begins at once. -/
theorem readGoesOn {q : Search} {j : Nat} {more : List Nat} {found : List Match}
    (hsave : s.store.save = none) (hclear : s.store.clear = none) (hreads : s.store.reads = [])
    (hw : s.nothingToWrite) (hlt : found.length < q.limit) (hsess : q.session = session)
    (hexec : exec .storeReadDone s =
      .next (s.readDone.searchOn p tag q (j :: more) found).arbitrate.pump) :
    ∃ t, exec .storeReadDone s = .next t ∧
      t.inner = ({ s with store := { s.store with
        op := .read ⟨.conform p, session, j⟩ true
        lastWrite := false } }.modPort p fun x => { x with
          conform := .busy tag q (j :: more) found }).inner ∧ NoReply s t ∧ Silent s t := by
  obtain ⟨b, hb⟩ : ∃ b, b = s.readDone.modPort p fun x => { x with
    conform := .busy tag q (j :: more) found } := ⟨_, rfl⟩
  obtain ⟨v, hv⟩ : ∃ v : State, v = { b with store := { b.store with
    reads := b.store.reads ++ [⟨.conform p, q.session, j⟩] } } := ⟨_, rfl⟩
  have hbs : b.store = s.readDone.store := by rw [hb, State.modPort_store]
  have hbt : b.takes = s.takes := by rw [hb, State.modPort_takes]; rfl
  have hon : s.readDone.searchOn p tag q (j :: more) found = v := by
    unfold State.searchOn
    rw [if_neg (by omega), hv, hb]
  have hvs : v.store = { s.store with
      op := .idle, lastWrite := false, reads := [⟨.conform p, session, j⟩] } := by
    rw [hv]
    dsimp only
    rw [hbs, hsess, show s.readDone.store.reads = [] from hreads]
    rfl
  have hwrite : v.beginWrite = v := by
    refine State.beginWrite_none ?_
    rcases hw with hst | ⟨ham, -, hq⟩
    · exact .inl (by rw [hvs]; exact hst)
    · refine .inr ⟨by rw [hvs]; exact ham, ?_⟩
      rw [State.eligibleHead, show v.takes.queue = [] by rw [hv]; exact hbt ▸ hq]
  obtain ⟨w, hw'⟩ : ∃ w : State, w = { v with store := { s.store with
    op := .read ⟨.conform p, session, j⟩ true, lastWrite := false } } := ⟨_, rfl⟩
  have hread : v.beginRead = w := by
    unfold State.beginRead
    rw [show v.store.op = .idle by rw [hvs],
      show v.store.reads = [⟨.conform p, session, j⟩] by rw [hvs], hw']
    dsimp only
    rw [hvs, ← hreads]
  have harb : v.arbitrate = w := by
    rw [State.arbitrate_write (by rw [hvs]) (by rw [hvs]; exact hsave) (by rw [hvs]; exact hclear)
      (by rw [hvs]; nofun), hwrite, hread]
  rw [hon, harb] at hexec
  have hport : ∀ i, w.outgoing i = s.outgoing i := by
    intro i
    rw [hw', hv, hb]
    cases p <;> cases i <;> rfl
  have hm : Mum s w := by
    rw [hw', hv, hb]
    cases p <;> exact ⟨rfl, rfl, rfl⟩
  obtain ⟨hr, hs⟩ := quiet_pump (u := w) hport hm
  refine ⟨_, hexec, ?_, hr, hs⟩
  rw [State.inner_pump, hw', hv, hb]
  cases p <;> rfl

/-- What the read of a query that names its take answers. -/
def Search.readAnswer (q : Search) (house now : Nat) : Option TakeRecord → Answer
  | none => (.noTake, [])
  | some r => q.answer house (q.examine now r).toList

theorem State.conformAnswer_named {slot n rate i : Nat} {q : Search} {x : Option TakeRecord}
    (hq : q = .whereIs session slot n rate (some i))
    (hbusy : (s.port p).conform = .busy tag q [index] []) :
    s.conformAnswer p x = s.replyQuery p 0x1B tag (q.readAnswer s.house s.houseTime x).1
      (q.readAnswer s.house s.houseTime x).2 := by
  unfold State.conformAnswer
  rw [hbusy, hq]
  cases x with
  | none => rfl
  | some r => exact State.searchOn_done (.inr rfl)

/-- The store phase of a search after a read: it goes on to the next index, or is answered. -/
theorem readSearched {q : Search} {k : Nat} {rest : List Nat} {found found' : List Match}
    {x : Option TakeRecord} (hop : s.store.op = .read ⟨.conform p, session, index⟩ true)
    (hsave : s.store.save = none) (hclear : s.store.clear = none) (hreads : s.store.reads = [])
    (hw : s.nothingToWrite) (hbusy : (s.port p).conform = .busy tag q (index :: rest) found)
    (hq : ∀ a b c d i, q ≠ .whereIs a b c d (some i)) (hsess : q.session = session) (hk : q.kind = k)
    (hx : x = readTake s.store.directory s.flash.log session index)
    (hfound : found' = found ++ (x.bind (q.examine s.houseTime)).toList) :
    (∀ j more, rest = j :: more → found'.length < q.limit → ∃ t, exec .storeReadDone s = .next t ∧
      t.inner = ({ s with store := { s.store with
        op := .read ⟨.conform p, session, j⟩ true
        lastWrite := false } }.modPort p fun x => { x with
          conform := .busy tag q rest found' }).inner ∧ NoReply s t ∧ Silent s t) ∧
    (rest = [] ∨ q.limit ≤ found'.length → ∃ t, exec .storeReadDone s = .next t ∧
      t.inner = (s.readDone.contextAnswered p).inner ∧ Silent s t ∧
      t.outgoing (otherPort p) = s.outgoing (otherPort p) ∧
      t.outgoing p = s.outgoing p ++ [⟨replyMessage k tag (q.answer s.house found').1
        (q.answer s.house found').2, true, true⟩]) := by
  have hexec := exec_conformRead hop hx
  rw [State.conformAnswer_on (s := s.readDone) (by rw [State.port_readDone]; exact hbusy) hq] at hexec
  rw [show s.readDone.houseTime = s.houseTime from rfl, ← hfound] at hexec
  refine ⟨fun j more hrest hlt => ?_, fun hend => ?_⟩
  · rw [hrest] at hexec ⊢
    exact readGoesOn hsave hclear hreads hw hlt hsess hexec
  · rw [State.searchOn_done hend.symm, State.answerSearch, hk] at hexec
    exact readAnswered (.inr ⟨hsave, hclear, hreads, hw⟩) hexec

end

/-- The two ways in which a read leaves the matches found are one. -/
theorem found_of_read {q : Search} {now : Nat} {x : Option TakeRecord} {found found' : List Match}
    (h : (found' = found ∧ ∀ r, x = some r → q.examine now r = none) ∨
      ∃ r m, x = some r ∧ q.examine now r = some m ∧ found' = found ++ [m]) :
    found' = found ++ (x.bind (q.examine now)).toList := by
  rcases h with ⟨rfl, h⟩ | ⟨r, m, rfl, h, rfl⟩
  · cases x with
    | none => simp
    | some r => simp [h r rfl]
  · simp [h]

/-! ### A read of the exporter -/

section
variable {s : State} {session index : Nat}

theorem exec_exportRead {live : Bool} {x : Option TakeRecord}
    (hop : s.store.op = .read ⟨.exporter, session, index⟩ live)
    (hx : x = readTake s.store.directory s.flash.log session index) :
    exec .storeReadDone s = .next (if live then
      (({ s.readDone with exporter := s.exporter.answer x }).exportRun).arbitrate
      else s.readDone.arbitrate).pump := by
  show finish _ = _
  rw [hop, hx]
  rfl

/-- A read of the exporter ends with its context `y`, when the engine leaves it so. -/
theorem exportRead_ends {x : Option TakeRecord} {y : Exporter}
    (hop : s.store.op = .read ⟨.exporter, session, index⟩ true)
    (hset : s.readDone.settled)
    (hx : x = readTake s.store.directory s.flash.log session index)
    (hrun : ({ s.readDone with exporter := s.exporter.answer x } : State).exportRun =
      { s.readDone with exporter := y }) :
    ∃ t, exec .storeReadDone s = .next t ∧ ExportReadEnds s t y := by
  have hexec := exec_exportRead hop hx
  have hset' : ({ s.readDone with exporter := y } : State).settled := hset
  rw [if_pos rfl, hrun, State.arbitrate_settled hset'] at hexec
  obtain ⟨hr, hs⟩ := quiet_pump (s := s) (u := { s.readDone with exporter := y })
    (.of_eq rfl rfl) (.of_eq rfl rfl rfl)
  exact ⟨_, hexec, State.inner_pump _, hr, hs⟩

/-- With a message on the way and no index left, the final block is formed. -/
theorem State.exportMove_final (hh : s.exporter.handed ≠ none) (hp : s.exporter.phase = .counting)
    (hc : s.exporter.cancel = none) (hf : s.exporter.formed = none)
    (hr : s.exporter.reading = none) (he : s.exporter.ended = false)
    (hn : s.exporter.nextIndex = none) :
    s.exportMove = some { s with exporter := s.exporter.formCount true } := by
  obtain ⟨m, hm⟩ := Option.ne_none_iff_exists'.1 hh
  unfold State.exportMove
  dsimp only
  rw [if_neg (by simp [hp, hc]), hm]
  simp [Exporter.stalled, hr, hf, hc, hp, he, hn]

/-- With a message on the way and an empty follow queue the engine waits. -/
theorem State.exportMove_drained (hh : s.exporter.handed ≠ none) (hp : s.exporter.phase = .following)
    (hq : s.exporter.queue = []) : s.exportMove = none := by
  obtain ⟨m, hm⟩ := Option.ne_none_iff_exists'.1 hh
  unfold State.exportMove
  dsimp only
  rw [hm]
  simp [hp, hq]

/-- A final block formed, the engine waits for the message on the way. -/
theorem State.exportRun_final (hh : s.exporter.handed ≠ none) (hp : s.exporter.phase = .counting)
    (hc : s.exporter.cancel = none) (hf : s.exporter.formed = none)
    (hr : s.exporter.reading = none) (he : s.exporter.ended = false)
    (hn : s.exporter.nextIndex = none) :
    s.exportRun = { s with exporter := s.exporter.formCount true } := by
  have hstall : ({ s with exporter := s.exporter.formCount true } : State).exportMove = none :=
    State.exportMove_stalled hh nofun
  rw [State.exportRun, exportMoves_step (State.exportMove_final hh hp hc hf hr he hn),
    exportMoves_of_none hstall]

end

/-! ### The answer to the exporter's read -/

section
variable {x : Exporter} {i b : Nat} {r : TakeRecord}

/-- A record collected that fills the block. -/
theorem Exporter.answer_full {a : Nat} (hreading : x.reading = some i) (hp : x.phase = .counting)
    (hrange : x.range = some (a, b)) (hlt : i < b) (hfull : x.forming.length + 1 = x.blockSize) :
    x.answer (some r) = { x with
      reading := none
      last := some i
      forming := []
      formed := some ⟨x.seq, false, x.forming ++ [r], b - i, false, x.skippedOpen, x.skippedNone, 0⟩
      seq := nextSeq x.seq
      ended := false } := by
  simp [Exporter.answer, hreading, hp, Exporter.collect, Exporter.formFull, Exporter.nextIndex, hrange,
    hlt, hfull, Exporter.formCount, Exporter.remaining]

/-- The last record of the range collected. -/
theorem Exporter.answer_last {a : Nat} (hreading : x.reading = some b) (hp : x.phase = .counting)
    (hrange : x.range = some (a, b)) : x.answer (some r) =
      { x with reading := none, last := some b, forming := x.forming ++ [r] } := by
  simp [Exporter.answer, hreading, hp, Exporter.collect, Exporter.formFull, Exporter.nextIndex, hrange]

/-- A take of the count found nowhere. -/
theorem Exporter.answer_skip (hreading : x.reading = some i) (hp : x.phase = .counting) :
    x.answer none = { x with
      reading := none
      last := some i
      skippedNone := x.skippedNone + 1
      amendments := x.amendments.filter fun h => h.amendment.index ≠ i } := by
  simp [Exporter.answer, hreading, hp, Exporter.skipNone, Exporter.dropAmendment]

/-- The head of the follow queue read. -/
theorem Exporter.answer_follow {rest : List Nat} (hreading : x.reading = some i)
    (hp : x.phase = .following) (hq : x.queue = i :: rest) : x.answer (some r) = { x with
      reading := none
      formed := some ⟨x.seq, true, [r], 0, false, 0, 0, x.losses⟩
      seq := nextSeq x.seq
      losses := 0
      queue := rest } := by
  simp [Exporter.answer, hreading, hp, Exporter.formFollow, hq]

/-- The only head of the follow queue found nowhere. -/
theorem Exporter.answer_lost (hreading : x.reading = some i) (hp : x.phase = .following)
    (hq : x.queue = [i]) (hl : x.losses < 65535) : x.answer none = { x with
      reading := none
      losses := x.losses + 1
      queue := []
      amendments := x.amendments.filter fun h => h.amendment.index ≠ i } := by
  simp [Exporter.answer, hreading, hp, Exporter.loseHead, Exporter.dropAmendment, hq, bump16, hl]

/-- The final block of what has been collected, with no index left. -/
theorem Exporter.formCount_final {a : Nat} (hrange : x.range = some (a, b)) (hlast : x.last = some b) :
    x.formCount true = { x with
      formed := some ⟨x.seq, false, x.forming, 0, true, x.skippedOpen, x.skippedNone, 0⟩
      forming := []
      seq := nextSeq x.seq
      ended := true } := by
  simp [Exporter.formCount, Exporter.remaining, hrange, hlast]

theorem Exporter.nextIndex_none {a : Nat} (hrange : x.range = some (a, b)) (hlast : x.last = some b) :
    x.nextIndex = none := by
  simp [Exporter.nextIndex, hrange, hlast]

end

/-- Settles O43: the record read is examined by the query, or joins the block of the exporter. -/
theorem storeReadAnswers : Obligations.StoreReadAnswers := by
  refine ⟨fun p tag session slot frame rate index s hop hsave hclear hreads hw =>
    ⟨fun hbusy => ?_, fun rest found found' hbusy hlen hread => ?_,
      fun tick rest found found' hbusy hlen hread => ?_⟩,
    fun session index live s hop hsave hclear hreads hw => ⟨fun hlive => ?_,
      fun hlive hreading hc hf hh => ⟨fun a b hp hrange hend => ⟨fun r hr hlt hfull => ?_,
        fun r hr heq => ?_, fun hr heq => ?_⟩, fun rest hp hqueue => ⟨fun r hr => ?_,
          fun hr hrest hlosses => ?_⟩⟩⟩⟩
  · obtain ⟨x, hx⟩ : ∃ x, x = readTake s.store.directory s.flash.log session index := ⟨_, rfl⟩
    have hexec := exec_conformRead hop hx
    rw [State.conformAnswer_named (s := s.readDone) rfl
      (by rw [State.port_readDone]; exact hbusy)] at hexec
    obtain ⟨t, ht, hi, hs, hother, hout⟩ := readAnswered (.inr ⟨hsave, hclear, hreads, hw⟩) hexec
    rw [← hx]
    refine ⟨t, ht, hi, hs, hother, fun hnone => ?_, fun r hr hnone => ?_, fun r i hr hins hst => ?_⟩
    · rw [hout, hnone]
      rfl
    · have hexamine : Search.examine (.whereIs session slot frame rate (some index))
          s.readDone.houseTime r = none := by
        rw [Search.examine, show s.readDone.houseTime = s.houseTime from rfl, hnone]
        rfl
      rw [hout, hr, Search.readAnswer, hexamine]
      rfl
    · have hexamine : Search.examine (.whereIs session slot frame rate (some index))
          s.readDone.houseTime r = some ⟨r, i, none⟩ := by
        rw [Search.examine, show s.readDone.houseTime = s.houseTime from rfl, hins, if_neg hst]
        rfl
      rw [hout, hr, Search.readAnswer, hexamine]
      rfl
  · have hfound := found_of_read (q := .whereIs session slot frame rate none) (now := s.houseTime)
      (x := readTake s.store.directory s.flash.log session index) (found := found) (found' := found') (by
        rcases hread with ⟨h, hnone⟩ | ⟨r, i, hr, hins, hst, h⟩
        · exact .inl ⟨h, fun r hr => by rw [Search.examine, hnone r hr]; rfl⟩
        · exact .inr ⟨r, _, hr, by rw [Search.examine, hins, if_neg hst]; rfl, h⟩)
    obtain ⟨hon, hdone⟩ := readSearched (k := 0x1B) hop hsave hclear hreads hw hbusy nofun rfl rfl rfl
      hfound
    refine ⟨hon, fun h => ?_⟩
    obtain ⟨t, ht, hi, hs, hother, hout⟩ := hdone (h.imp_right fun h => h.ge)
    refine ⟨t, ht, hi, hs, hother, fun hnil => ?_, fun m ms hcons => ?_⟩
    · rw [hout, hnil]
      rfl
    · rw [hout, hcons, Search.answer_where]
  · have hfound := found_of_read (q := .atTick session tick) (now := s.houseTime)
      (x := readTake s.store.directory s.flash.log session index) (found := found) (found' := found') (by
        rcases hread with ⟨h, hnone⟩ | ⟨r, fin, hr, hst, hfin, hle1, hle2, h⟩
        · refine .inl ⟨h, fun r hr => ?_⟩
          obtain ⟨hst, fin, hfin, hout⟩ := hnone r hr
          rw [Search.examine, TakeRecord.spans, if_neg hst, hfin]
          exact if_neg (by simp; omega)
        · refine .inr ⟨r, _, hr, ?_, h⟩
          rw [Search.examine, TakeRecord.spans, if_neg hst, hfin, if_neg hst]
          exact if_pos (by simp [hle1, hle2]))
    have hlen' : found'.length ≤ 5 := by
      rw [hfound, List.length_append]
      have := Option.length_toList_le (o := (readTake s.store.directory s.flash.log session index).bind
        (Search.examine (.atTick session tick) s.houseTime))
      omega
    obtain ⟨hon, hdone⟩ := readSearched (k := 0x1C) hop hsave hclear hreads hw hbusy nofun rfl rfl rfl
      hfound
    refine ⟨hon, fun h => ?_⟩
    obtain ⟨t, ht, hi, hs, hother, hout⟩ := hdone (h.imp_right fun h => h.ge)
    refine ⟨t, ht, hi, hs, hother, fun hnil => ?_, fun hne => ?_⟩
    · rw [hout, hnil]
      rfl
    · have hflag : (if 4 < found'.length then 1 else 0) = if found'.length = 5 then 1 else 0 := by
        by_cases h5 : found'.length = 5
        · rw [if_pos h5, if_pos (by omega)]
        · rw [if_neg h5, if_neg (by omega)]
      rw [hout, Search.answer_at hne, hflag]
  · have hexec := exec_exportRead hop rfl
    rw [hlive, if_neg nofun, State.arbitrate_settled (s := s.readDone) (.inr ⟨hsave, hclear, hreads, hw⟩)] at hexec
    obtain ⟨hr, hs⟩ := quiet_pump (noReply_readDone s) (mum_readDone s)
    exact ⟨_, hexec, State.inner_pump _, hr, hs⟩
  · have hset : s.readDone.settled := .inr ⟨hsave, hclear, hreads, hw⟩
    subst hlive
    refine exportRead_ends hop hset hr.symm (State.exportRun_of_none (State.exportMove_stalled ?_ ?_) |>.trans ?_)
    · rw [Exporter.answer_full hreading hp hrange hlt hfull]
      exact hh
    · rw [Exporter.answer_full hreading hp hrange hlt hfull]
      nofun
    · rw [Exporter.answer_full hreading hp hrange hlt hfull, ← hend]
      rfl
  · have hset : s.readDone.settled := .inr ⟨hsave, hclear, hreads, hw⟩
    subst hlive heq
    refine exportRead_ends hop hset hr.symm ?_
    obtain ⟨x, hx⟩ : ∃ x : Exporter, x = { s.exporter with
      reading := none, last := some index, forming := s.exporter.forming ++ [r] } := ⟨_, rfl⟩
    rw [Exporter.answer_last hreading hp hrange, ← hx]
    rw [State.exportRun_final (s := { s.readDone with exporter := x }) (by rw [hx]; exact hh) (by rw [hx]; exact hp) (by rw [hx]; exact hc) (by rw [hx]; exact hf)
      (by rw [hx]) (by rw [hx]; exact hend)
      (Exporter.nextIndex_none (x := x) (by rw [hx]; exact hrange) (by rw [hx]))]
    dsimp only
    rw [Exporter.formCount_final (x := x) (by rw [hx]; exact hrange) (by rw [hx]), hx]
    rfl
  · have hset : s.readDone.settled := .inr ⟨hsave, hclear, hreads, hw⟩
    subst hlive heq
    refine exportRead_ends hop hset hr.symm ?_
    obtain ⟨x, hx⟩ : ∃ x : Exporter, x = { s.exporter with
      reading := none
      last := some index
      skippedNone := s.exporter.skippedNone + 1
      amendments := s.exporter.amendments.filter fun h => h.amendment.index ≠ index } := ⟨_, rfl⟩
    rw [Exporter.answer_skip hreading hp, ← hx]
    rw [State.exportRun_final (s := { s.readDone with exporter := x }) (by rw [hx]; exact hh) (by rw [hx]; exact hp) (by rw [hx]; exact hc) (by rw [hx]; exact hf)
      (by rw [hx]) (by rw [hx]; exact hend)
      (Exporter.nextIndex_none (x := x) (by rw [hx]; exact hrange) (by rw [hx]))]
    dsimp only
    rw [Exporter.formCount_final (x := x) (by rw [hx]; exact hrange) (by rw [hx]), hx]
    rfl
  · have hset : s.readDone.settled := .inr ⟨hsave, hclear, hreads, hw⟩
    subst hlive
    refine exportRead_ends hop hset hr.symm ?_
    rw [Exporter.answer_follow hreading hp hqueue]
    exact State.exportRun_of_none (State.exportMove_stalled hh nofun)
  · have hset : s.readDone.settled := .inr ⟨hsave, hclear, hreads, hw⟩
    subst hlive hrest
    refine exportRead_ends hop hset hr.symm ?_
    rw [Exporter.answer_lost hreading hp hqueue hlosses]
    exact State.exportRun_of_none (State.exportMove_drained hh hp rfl)

end Sys2Proof.Machine
end

section
/-!
SUPPORT and THEOREM. A beacon mark: what each slot's step, release and countdown do and leave alone,
and O26.
-/

namespace Sys2Proof.Machine

/-! ### What the steps of a mark leave alone -/

/-- What the tracking unit's steps of one mark keep: everything but slots, waiting requests, entries of
the take table and notices. -/
structure MarkKept (s t : State) : Prop where
  clock : t.clock = s.clock
  origin : t.origin = s.origin
  ref : t.ref = s.ref
  lines : t.lines = s.lines
  units : t.units = s.units
  store : t.store = s.store
  flash : t.flash = s.flash
  profiles : t.profiles = s.profiles
  exporter : t.exporter = s.exporter
  marks : t.marks = s.marks
  control : t.control = s.control
  suite : t.suite = s.suite
  lastIndex : t.takes.lastIndex = s.takes.lastIndex
  queue : t.takes.queue = s.takes.queue
  radio : OnlyPosted s.radio t.radio .drift .overdue

theorem MarkKept.refl (s : State) : MarkKept s s :=
  ⟨rfl, rfl, rfl, rfl, rfl, rfl, rfl, rfl, rfl, rfl, rfl, rfl, rfl, rfl, .refl _ _ _⟩

theorem MarkKept.trans {s t u : State} (h : MarkKept s t) (g : MarkKept t u) : MarkKept s u where
  clock := g.clock.trans h.clock
  origin := g.origin.trans h.origin
  ref := g.ref.trans h.ref
  lines := g.lines.trans h.lines
  units := g.units.trans h.units
  store := g.store.trans h.store
  flash := g.flash.trans h.flash
  profiles := g.profiles.trans h.profiles
  exporter := g.exporter.trans h.exporter
  marks := g.marks.trans h.marks
  control := g.control.trans h.control
  suite := g.suite.trans h.suite
  lastIndex := g.lastIndex.trans h.lastIndex
  queue := g.queue.trans h.queue
  radio := h.radio.trans g.radio

/-- A request that waits goes on waiting. -/
theorem MarkKept.waits {s t : State} (h : MarkKept s t) {c : ReqClass} {i : Nat}
    (hx : ∃ x ∈ s.radio.requests, x.cls = c ∧ x.slot = i) :
    ∃ x ∈ t.radio.requests, x.cls = c ∧ x.slot = i := by
  obtain ⟨x, hx, hc, hs⟩ := hx
  obtain ⟨y, hy, hyc, hys, -⟩ := h.radio.kept hx
  exact ⟨y, hy, hyc.trans hc, hys.trans hs⟩

/-- New slots alone. -/
theorem MarkKept.of_slots (s : State) (x : Vector (Option Device) 32) : MarkKept s { s with slots := x } :=
  ⟨rfl, rfl, rfl, rfl, rfl, rfl, rfl, rfl, rfl, rfl, rfl, rfl, rfl, rfl, .refl _ _ _⟩

section
variable (s : State) (i : Nat)

theorem markKept_modLive (f : Live → Live) : MarkKept s (s.modLive i f) := by
  obtain ⟨x, hx⟩ : ∃ x, s.modLive i f = { s with slots := x } := ⟨_, s.modLive_eq f i⟩
  rw [hx]
  exact .of_slots s x

theorem markKept_setDev (o : Option Device) : MarkKept s (s.setDev i o) := .of_slots s _

theorem markKept_post {c : ReqClass} (hc : c = .drift ∨ c = .overdue) : MarkKept s (s.post c i) :=
  ⟨rfl, rfl, rfl, rfl, rfl, rfl, rfl, rfl, rfl, rfl, rfl, rfl, rfl, rfl,
    Radio.post_onlyPosted s.radio i none hc⟩

theorem State.holdTrigger_takes (b : Bool) : (s.holdTrigger i b).takes.lastIndex = s.takes.lastIndex ∧
    (s.holdTrigger i b).takes.queue = s.takes.queue := by
  have hwrite : ∀ (u : State) (f : Participant → Participant),
      (u.writeEntry i f).takes.lastIndex = u.takes.lastIndex ∧
      (u.writeEntry i f).takes.queue = u.takes.queue := by
    intro u f
    unfold State.writeEntry
    split <;> exact ⟨rfl, rfl⟩
  unfold State.holdTrigger
  split
  · exact ⟨rfl, rfl⟩
  dsimp only
  split
  · simp
  split
  · exact ⟨(hwrite _ _).1.trans (by simp), (hwrite _ _).2.trans (by simp)⟩
  · simp

theorem markKept_holdTrigger (b : Bool) : MarkKept s (s.holdTrigger i b) where
  clock := by simp
  origin := by simp
  ref := by simp
  lines := by simp
  units := by simp
  store := by simp
  flash := by simp
  profiles := by simp
  exporter := by simp
  marks := by simp
  control := by simp
  suite := by simp
  lastIndex := (s.holdTrigger_takes i b).1
  queue := (s.holdTrigger_takes i b).2
  radio := by rw [State.holdTrigger_radio]; exact .refl _ _ _

theorem markKept_postOrHold (b : Bool) : MarkKept s (s.postOrHold .drift i b) := by
  unfold State.postOrHold
  split
  · split
    · exact markKept_holdTrigger s i b
    · exact markKept_post s i (.inl rfl)
  · exact .refl s

theorem markKept_endHold : MarkKept s (s.endHold i) := by
  unfold State.endHold
  split
  · split
    · exact (markKept_modLive s i _).trans (markKept_post _ i (.inr rfl))
    · exact .refl s
  · exact .refl s

theorem markKept_predictOne (t : Int) : MarkKept s (s.predictOne t i) := by
  unfold State.predictOne
  split
  · exact .refl s
  split
  · dsimp only
    split
    · exact (markKept_modLive s i _).trans (markKept_postOrHold _ i _)
    · exact markKept_modLive s i _
  · exact .refl s

theorem markKept_releaseOne : MarkKept s (s.releaseOne i) := by
  unfold State.releaseOne
  split
  · split
    · exact markKept_endHold s i
    · exact .refl s
  · exact .refl s

end

/-! ### One slot after another -/

section
variable {s : State} {i j : Nat}

theorem State.dev_holdTrigger_ne (h : j ≠ i) (b : Bool) : (s.holdTrigger i b).dev j = s.dev j := by
  unfold State.holdTrigger
  split
  · rfl
  dsimp only
  split
  · rw [State.dev_modLive_ne _ h, State.dev_modLive_ne _ h]
  split
  · rw [State.dev_congr (State.writeEntry_slots _ _ _), State.noteDevice,
      State.dev_congr (State.notify_slots _ _ _), State.dev_enter_ne _ h, State.dev_modLive_ne _ h,
      State.dev_modLive_ne _ h]
  · rw [State.dev_modLive_ne _ h]

theorem State.dev_postOrHold_ne (h : j ≠ i) (c : ReqClass) (b : Bool) :
    (s.postOrHold c i b).dev j = s.dev j := by
  unfold State.postOrHold
  split
  · split
    · exact State.dev_holdTrigger_ne h b
    · rfl
  · rfl

theorem State.dev_predictOne_ne (h : j ≠ i) (t : Int) : (s.predictOne t i).dev j = s.dev j := by
  unfold State.predictOne
  split
  · rfl
  split
  · dsimp only
    split
    · rw [State.dev_postOrHold_ne h, State.dev_modLive_ne _ h]
    · rw [State.dev_modLive_ne _ h]
  · rfl

theorem State.dev_releaseOne_ne (h : j ≠ i) : (s.releaseOne i).dev j = s.dev j := by
  unfold State.releaseOne
  split
  · rename_i d hd
    split
    · rw [State.endHold_dev hd, if_neg h]
    · rfl
  · rfl

/-- A rule worked slot by slot acts on each slot's device once, in a state that differs from the first
in other slots alone. -/
theorem foldl_slots {f : State → Nat → State} (hother : ∀ s i j, j ≠ i → (f s i).dev j = s.dev j)
    (hkept : ∀ s i, MarkKept s (f s i)) {l : List Nat} (hn : l.Nodup) (s : State) :
    MarkKept s (l.foldl f s) ∧ (∀ j, j ∉ l → (l.foldl f s).dev j = s.dev j) ∧
    ∀ i ∈ l, ∃ u, MarkKept s u ∧ u.dev i = s.dev i ∧ (l.foldl f s).dev i = (f u i).dev i ∧
      MarkKept (f u i) (l.foldl f s) := by
  induction l generalizing s with
  | nil => exact ⟨.refl s, fun _ _ => rfl, fun i hi => by cases hi⟩
  | cons k l ih =>
    obtain ⟨hk, hl⟩ := List.nodup_cons.1 hn
    obtain ⟨hkeep, hout, hin⟩ := ih hl (f s k)
    refine ⟨(hkept s k).trans hkeep, fun j hj => ?_, fun i hi => ?_⟩
    · obtain ⟨hjk, hjl⟩ := not_or.1 (mt List.mem_cons.2 hj)
      exact (hout j hjl).trans (hother s k j hjk)
    · rcases List.mem_cons.1 hi with rfl | hi
      · exact ⟨s, .refl s, rfl, hout i hk, hkeep⟩
      · obtain ⟨u, hu, hdev, hfin, hrest⟩ := hin i hi
        have hne : i ≠ k := fun h => hk (h ▸ hi)
        exact ⟨u, (hkept s k).trans hu, hdev.trans (hother s k i hne), hfin, hrest⟩

end

/-! ### One device at a mark -/

/-- The live fields that a mark leaves alone once the age is counted. -/
def MarkOnly (l l' : Live) : Prop := l' = { l with
  predicted := l'.predicted
  crc := l'.crc
  tMeas := l'.tMeas
  anchorAge := l'.anchorAge
  state := l'.state
  missedRejams := l'.missedRejams
  held := l'.held
  pollLeft := l'.pollLeft
  periodicLeft := l'.periodicLeft }

theorem MarkOnly.trans {a b c : Live} (h : MarkOnly a b) (g : MarkOnly b c) : MarkOnly a c := by
  unfold MarkOnly at *
  rw [h] at g
  exact g

/-- A radio device one beacon mark older. -/
def Device.aged (d : Device) : Device := { d with live := { d.live with age := d.live.age + 1 } }

/-- A device whose hold has ended when it is not quiet. -/
def Device.released (d : Device) : Device :=
  if d.set.quiet then d else { d with live := { d.live with held := false } }

theorem State.ageAll_dev (s : State) (i : Nat) :
    s.ageAll.dev i = (s.dev i).map fun d => if d.isRadio then d.aged else d :=
  State.dev_mapSlots (s := s) rfl i

theorem State.countAll_dev (s : State) (i : Nat) : s.countAll.dev i =
    (s.dev i).map fun d => if d.isRadio then { d with live := s.countDown d } else d :=
  State.dev_mapSlots (s := s) rfl i

/-- The release of a radio device: an OVERDUE request waits when its hold ended (R112). -/
theorem State.releaseOne_spec {s : State} {i : Nat} {d : Device} (hd : s.dev i = some d)
    (hr : d.isRadio = true) : (s.releaseOne i).dev i = some d.released ∧
    (d.set.quiet = false → d.live.held = true →
      ∃ x ∈ (s.releaseOne i).radio.requests, x.cls = .overdue ∧ x.slot = i) := by
  have hcase : s.releaseOne i = if d.set.quiet then s else s.endHold i := by
    unfold State.releaseOne
    simp only [hd, hr]
    cases d.set.quiet <;> rfl
  unfold Device.released
  rw [hcase]
  cases hq : d.set.quiet with
  | true => exact ⟨by simpa using hd, nofun⟩
  | false =>
    refine ⟨by simp [State.endHold_dev hd], fun _ hh => ?_⟩
    rw [if_neg Bool.false_ne_true, State.endHold_radio hd, if_pos hh]
    exact s.radio.mem_post .overdue i none

/-! ### The prediction step of one device (R73, R108, R109, R111) -/

section
variable {s : State} {i : Nat} {d g : Device} {t : Int}

theorem State.grown_crc : (s.grown d t).crc = s.profileCrc d.set.profile := by
  unfold State.grown Live.reanchor
  dsimp only
  split
  · assumption
  · split <;> rfl

theorem State.grown_anchored (h : d.live.crc ≠ s.profileCrc d.set.profile) (hm : d.live.hasMeas = true) :
    (s.grown d t).tMeas = some t ∧ (s.grown d t).anchorAge = some d.live.age := by
  unfold State.grown Live.reanchor
  rw [if_neg h, if_pos hm]
  exact ⟨rfl, rfl⟩

theorem State.grown_kept (h : d.live.crc = s.profileCrc d.set.profile ∨ d.live.hasMeas = false) :
    (s.grown d t).tMeas = d.live.tMeas ∧ (s.grown d t).anchorAge = d.live.anchorAge := by
  unfold State.grown Live.reanchor
  rcases h with h | h
  · rw [if_pos h]
    exact ⟨rfl, rfl⟩
  · by_cases hc : d.live.crc = s.profileCrc d.set.profile
    · rw [if_pos hc]
      exact ⟨rfl, rfl⟩
    · rw [if_neg hc, if_neg (by simp [h])]
      exact ⟨rfl, rfl⟩

/-- A re-anchor changes CRC, measurement tick and anchor age alone. -/
theorem Live.reanchor_only (l : Live) (c : Option Nat) : MarkOnly l (l.reanchor c t) ∧
    (l.reanchor c t).predicted = l.predicted ∧ (l.reanchor c t).state = l.state ∧
    (l.reanchor c t).missedRejams = l.missedRejams ∧ (l.reanchor c t).held = l.held := by
  unfold Live.reanchor
  split
  · exact ⟨rfl, rfl, rfl, rfl, rfl⟩
  split <;> exact ⟨rfl, rfl, rfl, rfl, rfl⟩

theorem Live.reanchor_read (l : Live) (c : Option Nat) : (l.reanchor c t).age = l.age ∧
    (l.reanchor c t).rate = l.rate ∧ (l.reanchor c t).hasMeas = l.hasMeas := by
  unfold Live.reanchor
  split
  · exact ⟨rfl, rfl, rfl⟩
  split <;> exact ⟨rfl, rfl, rfl⟩

theorem State.grown_only : MarkOnly d.live (s.grown d t) ∧ (s.grown d t).state = d.live.state ∧
    (s.grown d t).missedRejams = d.live.missedRejams ∧ (s.grown d t).held = d.live.held := by
  obtain ⟨ho, -, hs, hm, hh⟩ := d.live.reanchor_only (t := t) (s.profileCrc d.set.profile)
  exact ⟨ho.trans rfl, hs, hm, hh⟩

theorem State.grown_measured {a : Nat} (hm : d.live.hasMeas = true)
    (ha : (s.grown d t).anchorAge = some a) : (s.grown d t).predicted = d.live.predicted +
      96 * (d.live.rate + 10 * ((s.profileAnswer d.set.profile d.live.age).1 -
        (s.profileAnswer d.set.profile a).1)) := by
  obtain ⟨hage, hrate, hmeas⟩ := d.live.reanchor_read (t := t) (s.profileCrc d.set.profile)
  obtain ⟨-, hp, -⟩ := d.live.reanchor_only (t := t) (s.profileCrc d.set.profile)
  have ha' : (d.live.reanchor (s.profileCrc d.set.profile) t).anchorAge = some a := ha
  show (d.live.reanchor _ t).predicted + s.rateUsed _ (d.live.reanchor _ t) * 96 = _
  unfold State.rateUsed
  dsimp only
  rw [if_pos (hmeas.trans hm), hp, hage, hrate, ha', Option.getD_some, mul_comm]

theorem State.grown_unmeasured (hm : d.live.hasMeas = false) :
    (s.grown d t).predicted = d.live.predicted + 960 *
      ((s.profileAnswer d.set.profile d.live.age).1 + (s.profileAnswer d.set.profile d.live.age).2) := by
  obtain ⟨hage, -, hmeas⟩ := d.live.reanchor_read (t := t) (s.profileCrc d.set.profile)
  obtain ⟨-, hp, -⟩ := d.live.reanchor_only (t := t) (s.profileCrc d.set.profile)
  show (d.live.reanchor _ t).predicted + s.rateUsed _ (d.live.reanchor _ t) * 96 = _
  unfold State.rateUsed
  dsimp only
  rw [if_neg (by simp [hmeas, hm]), hp, hage]
  ring

/-- What the prediction step of a TRACKED or DRIFTING device leaves: the growth, then a DRIFT request
or a re-jam held back of a TRACKED device at its tolerance. -/
structure PredictionLeaves (s : State) (t : Int) (i : Nat) (d g : Device) (r : Radio) : Prop where
  set : g.set = d.set
  only : MarkOnly d.live g.live
  predicted : g.live.predicted = (s.grown d t).predicted
  crc : g.live.crc = (s.grown d t).crc
  tMeas : g.live.tMeas = (s.grown d t).tMeas
  anchorAge : g.live.anchorAge = (s.grown d t).anchorAge
  calm : (d.live.state = .drifting ∨ g.live.predicted.natAbs < 1000 * d.toleranceTicks ∨
    d.heldBack = false) → g.live.state = d.live.state ∧ g.live.missedRejams = d.live.missedRejams ∧
      g.live.held = d.live.held
  drift : d.live.state = .tracked → 1000 * d.toleranceTicks ≤ g.live.predicted.natAbs →
    d.heldBack = false → ∃ x ∈ r.requests, x.cls = .drift ∧ x.slot = i
  held : d.live.state = .tracked → 1000 * d.toleranceTicks ≤ g.live.predicted.natAbs →
    d.heldBack = true → g.live.held = true ∧
      (d.live.missedRejams = 0 → g.live.missedRejams = 1 ∧ g.live.state = .tracked) ∧
      (d.live.missedRejams = 1 →
        (2000 * d.toleranceTicks ≤ g.live.predicted.natAbs →
          g.live.missedRejams = 2 ∧ g.live.state = .drifting) ∧
        (g.live.predicted.natAbs < 2000 * d.toleranceTicks →
          g.live.missedRejams = 1 ∧ g.live.state = .tracked))

/-- The device after a re-jam held back: its fields beside state, missed re-jams, hold and poll
countdown stay (R111). -/
theorem State.holdTrigger_spec (hd : s.dev i = some d) (hst : d.live.state = .tracked) (b : Bool) :
    ∃ m st p, (s.holdTrigger i b).dev i = some { d with live := { d.live with
        state := st, missedRejams := m, held := true, pollLeft := p } } ∧
      (d.live.missedRejams = 0 → m = 1 ∧ st = .tracked) ∧
      (d.live.missedRejams = 1 → (b = true → m = 2 ∧ st = .drifting) ∧
        (b = false → m = 1 ∧ st = .tracked)) := by
  by_cases h0 : d.live.missedRejams = 0
  · rw [State.holdTrigger_first hd hst h0, s.dev_setDev_same hd]
    exact ⟨1, d.live.state, d.live.pollLeft, rfl, fun _ => ⟨rfl, hst⟩, fun h => by omega⟩
  by_cases h1 : d.live.missedRejams = 1 ∧ b = true
  · obtain ⟨h1, rfl⟩ := h1
    obtain ⟨u, hu⟩ : ∃ u, u = s.holdTrigger i true := ⟨_, rfl⟩
    rw [← hu]
    rw [State.holdTrigger_second hd hst h1] at hu
    obtain ⟨hi, -⟩ := State.drifted_spec hd hu
    refine ⟨2, .drifting, (s.drifted d).live.pollLeft, ?_, fun h => absurd h h0,
      fun _ => ⟨fun _ => ⟨rfl, rfl⟩, nofun⟩⟩
    exact (State.dev_congr (State.slots_of_inner hi) i).trans (s.dev_setDev_same hd (some (s.drifted d)))
  · have hb : d.live.missedRejams ≠ 1 ∨ b = false := by
      rcases b with _ | _
      · exact .inr rfl
      · exact .inl fun h => h1 ⟨h, rfl⟩
    rw [State.holdTrigger_other hd b (.inr ⟨h0, hb⟩), s.dev_setDev_same hd]
    exact ⟨d.live.missedRejams, d.live.state, d.live.pollLeft, rfl, fun h => absurd h h0,
      fun h => ⟨fun hb' => absurd ⟨h, hb'⟩ h1, fun _ => ⟨h, hst⟩⟩⟩

theorem State.predictOne_spec (hd : s.dev i = some d) (hp : d.live.predictedState = true) :
    ∃ g, (s.predictOne t i).dev i = some g ∧ PredictionLeaves s t i d g (s.predictOne t i).radio := by
  obtain ⟨ho, hst, hm, hh⟩ := State.grown_only (s := s) (d := d) (t := t)
  obtain ⟨g, hg⟩ : ∃ g : Device, g = { d with live := s.grown d t } := ⟨_, rfl⟩
  obtain ⟨u, hu⟩ : ∃ u, u = s.setDev i (some g) := ⟨_, rfl⟩
  have hud : u.dev i = some g := by rw [hu]; exact s.dev_setDev_same hd _
  have hcase : s.predictOne t i =
      if d.live.state = .tracked ∧ 1000 * d.toleranceTicks ≤ (s.grown d t).predicted.natAbs then
        u.postOrHold .drift i (decide (2000 * d.toleranceTicks ≤ (s.grown d t).predicted.natAbs))
      else u := by
    unfold State.predictOne
    simp only [hd, hp, if_true]
    rw [State.modLive_some hd, hu, hg]
  have hgb : g.heldBack = d.heldBack := by
    have hcur : g.live.current = d.live.current := by rw [hg, show (s.grown d t) = _ from ho]
    rw [Device.heldBack, hcur, hg]
    rfl
  have hgp : g.live.predicted = (s.grown d t).predicted := by rw [hg]
  by_cases hfar : d.live.state = .tracked ∧ 1000 * d.toleranceTicks ≤ (s.grown d t).predicted.natAbs
  · obtain ⟨htr, hfar⟩ := hfar
    rw [if_pos ⟨htr, hfar⟩] at hcase
    rw [hcase]
    cases hb : d.heldBack with
    | false =>
      rw [State.postOrHold_free hud (hgb.trans hb)]
      refine ⟨g, hud, ⟨by rw [hg], by rw [hg]; exact ho, hgp, by rw [hg], by rw [hg], by rw [hg],
        fun _ => by rw [hg]; exact ⟨hst, hm, hh⟩, fun _ _ _ => u.radio.mem_post .drift i none,
        fun _ _ h => by rw [hb] at h; cases h⟩⟩
    | true =>
      rw [State.postOrHold_held hud (hgb.trans hb)]
      have hgst : g.live.state = .tracked := by rw [hg]; exact hst.trans htr
      have hgm : g.live.missedRejams = d.live.missedRejams := by rw [hg]; exact hm
      obtain ⟨m, st, p, hdev, hfirst, hsecond⟩ := State.holdTrigger_spec hud hgst
        (decide (2000 * d.toleranceTicks ≤ (s.grown d t).predicted.natAbs))
      rw [hgm] at hfirst hsecond
      refine ⟨_, hdev, ⟨by rw [hg], ?_, hgp, by rw [hg], by rw [hg], by rw [hg], ?_, ?_, ?_⟩⟩
      · rw [hg]
        exact ho.trans rfl
      · rintro (h | h | h)
        · rw [htr] at h; cases h
        · rw [hgp] at h; omega
        · rw [hb] at h; cases h
      · intro _ _ h
        rw [hb] at h; cases h
      · intro _ _ _
        refine ⟨rfl, hfirst, fun h1 => ⟨fun h => ?_, fun h => ?_⟩⟩
        · rw [hgp] at h
          exact (hsecond h1).1 (decide_eq_true h)
        · rw [hgp] at h
          exact (hsecond h1).2 (decide_eq_false (Nat.not_le.2 h))
  · rw [if_neg hfar] at hcase
    rw [hcase]
    refine ⟨g, hud, ⟨by rw [hg], by rw [hg]; exact ho, hgp, by rw [hg], by rw [hg], by rw [hg],
      fun _ => by rw [hg]; exact ⟨hst, hm, hh⟩, fun htr h _ => ?_, fun htr h _ => ?_⟩⟩
    all_goals exact absurd ⟨htr, hgp ▸ h⟩ hfar

/-- A device that is not predicted is not stepped. -/
theorem State.predictOne_still (hd : s.dev i = some d) (hp : d.live.predictedState = false) :
    s.predictOne t i = s := by
  unfold State.predictOne
  simp only [hd, hp]
  rfl

end

/-! ### A mark handed to the tracking unit -/

section
variable {s t : State} {i : Nat} {d : Device}

theorem State.profileCrc_congr (h : t.profiles = s.profiles) (p : Option Nat) :
    t.profileCrc p = s.profileCrc p := by
  unfold State.profileCrc
  simp only [State.profile_congr h]

theorem State.profileAnswer_congr (h : t.profiles = s.profiles) (p : Option Nat) (age : Nat) :
    t.profileAnswer p age = s.profileAnswer p age := by
  unfold State.profileAnswer
  simp only [State.profile_congr h]

theorem Device.released_set (d : Device) : d.released.set = d.set := by
  unfold Device.released
  split <;> rfl

theorem Device.released_live (d : Device) :
    d.released.live = { d.live with held := d.set.quiet && d.live.held } := by
  unfold Device.released
  cases d.set.quiet <;> rfl

theorem MarkKept.predict (s : State) (t : Int) : MarkKept s (s.predict t) :=
  (foldl_slots (fun _ _ _ h => State.dev_predictOne_ne h t) (fun u j => markKept_predictOne u j t)
    allSlots_nodup s).1

/-- The state of a mark before its countdowns. -/
def State.marked (s : State) (number : Nat) (t : Int) : State :=
  if number % 4 = 0 then s.ageAll.predict t else s.ageAll

theorem State.trackMark_eq (s : State) (number : Nat) (t : Int) :
    s.trackMark number t = (allSlots.foldl State.releaseOne (s.marked number t)).countAll := rfl

theorem markKept_marked (s : State) (number : Nat) (t : Int) : MarkKept s.ageAll (s.marked number t) := by
  unfold State.marked
  split
  · exact .predict _ t
  · exact .refl _

theorem foldl_releaseOne (s : State) : MarkKept s (allSlots.foldl State.releaseOne s) ∧
    (∀ j, j ∉ allSlots → (allSlots.foldl State.releaseOne s).dev j = s.dev j) ∧
    ∀ i ∈ allSlots, ∃ u, MarkKept s u ∧ u.dev i = s.dev i ∧
      (allSlots.foldl State.releaseOne s).dev i = (u.releaseOne i).dev i ∧
      MarkKept (u.releaseOne i) (allSlots.foldl State.releaseOne s) :=
  foldl_slots (fun _ _ _ h => State.dev_releaseOne_ne h) (fun u j => markKept_releaseOne u j)
    allSlots_nodup s

theorem markKept_countAll (s : State) : MarkKept s s.countAll := .of_slots s _

theorem mum_countAll (s : State) : Mum s s.countAll := .of_eq rfl rfl rfl

theorem mum_ageAll (s : State) : Mum s s.ageAll := .of_eq rfl rfl rfl

theorem markKept_trackMark (s : State) (number : Nat) (t : Int) :
    MarkKept s.ageAll (s.trackMark number t) :=
  ((markKept_marked s number t).trans (foldl_releaseOne _).1).trans (markKept_countAll _)

theorem mem_allSlots (hd : s.dev i = some d) : i ∈ allSlots := List.mem_range.2 (s.dev_lt hd)

/-- A device that a mark steps, before its release. -/
theorem State.marked_stepped {number : Nat} {t : Int} (hd : s.dev i = some d) (hr : d.isRadio = true)
    (hn : number % 4 = 0) (hp : d.live.predictedState = true) :
    ∃ u g r, MarkKept s.ageAll u ∧ (s.marked number t).dev i = some g ∧
      PredictionLeaves u t i d.aged g r ∧ ((∃ x ∈ r.requests, x.cls = .drift ∧ x.slot = i) →
        ∃ x ∈ (s.marked number t).radio.requests, x.cls = .drift ∧ x.slot = i) := by
  have haged : s.ageAll.dev i = some d.aged := by rw [s.ageAll_dev, hd, Option.map_some, if_pos hr]
  have hmark : s.marked number t = allSlots.foldl (fun x i => x.predictOne t i) s.ageAll := if_pos hn
  obtain ⟨-, -, hin⟩ := foldl_slots (f := fun x i => x.predictOne t i)
    (fun _ _ _ h => State.dev_predictOne_ne h t) (fun u j => markKept_predictOne u j t)
    allSlots_nodup s.ageAll
  obtain ⟨u, hu, hdev, hfin, hrest⟩ := hin i (mem_allSlots hd)
  obtain ⟨g, hg, hleaves⟩ := State.predictOne_spec (t := t) (hdev.trans haged) hp
  rw [hmark]
  exact ⟨u, g, _, hu, hfin.trans hg, hleaves, hrest.waits⟩

/-- A device that a mark does not step keeps what the age left. -/
theorem State.marked_still {number : Nat} {t : Int} (hd : s.ageAll.dev i = some d)
    (h : number % 4 ≠ 0 ∨ d.live.predictedState = false) : (s.marked number t).dev i = some d := by
  unfold State.marked
  split
  · obtain ⟨-, -, hin⟩ := foldl_slots (f := fun x i => x.predictOne t i)
      (fun _ _ _ h => State.dev_predictOne_ne h t) (fun u j => markKept_predictOne u j t)
      allSlots_nodup s.ageAll
    obtain ⟨u, -, hdev, hfin, -⟩ := hin i (mem_allSlots hd)
    have hp : d.live.predictedState = false := h.resolve_left fun h => h ‹_›
    exact hfin.trans (by rw [State.predictOne_still (hdev.trans hd) hp, hdev, hd])
  · exact hd

/-- What release and countdowns leave of the live fields. -/
theorem State.countDown_released (v : State) (g : Device) : v.countDown g.released = { g.live with
    held := g.set.quiet && g.live.held
    pollLeft := pollDown (v.pollPeriod g) g.live.pollLeft
    periodicLeft := if g.live.predictedState then periodicDown g.set.periodic g.live.periodicLeft
      else g.live.periodicLeft } := by
  have hperiod : v.pollPeriod g.released = v.pollPeriod g :=
    State.pollPeriod_congr rfl g.released_set (by rw [g.released_live])
  unfold State.countDown
  rw [hperiod, g.released_set, g.released_live]
  rfl

/-- The release and the countdowns of a radio device, the last of its mark. -/
theorem State.trackMark_radioDev {number : Nat} {t : Int} {g : Device}
    (hg : (s.marked number t).dev i = some g) (hr : g.isRadio = true) :
    ∃ v, MarkKept s.ageAll v ∧
      (s.trackMark number t).dev i = some { g with live := v.countDown g.released } ∧
      (g.set.quiet = false → g.live.held = true →
        ∃ x ∈ (s.trackMark number t).radio.requests, x.cls = .overdue ∧ x.slot = i) := by
  obtain ⟨hkept, -, hin⟩ := foldl_releaseOne (s.marked number t)
  obtain ⟨u, -, hdev, hfin, hrest⟩ := hin i (mem_allSlots hg)
  obtain ⟨hrel, hover⟩ := State.releaseOne_spec (hdev.trans hg) hr
  have hrr : g.released.isRadio = true := by
    rw [Device.isRadio, g.released_set]
    exact hr
  have hlast : MarkKept (u.releaseOne i) (s.trackMark number t) := hrest.trans (markKept_countAll _)
  refine ⟨_, (markKept_marked s number t).trans hkept, ?_, fun hq hh => hlast.waits (hover hq hh)⟩
  rw [s.trackMark_eq, State.countAll_dev, hfin, hrel, Option.map_some, if_pos hrr, g.released_set]

/-- What a mark makes of a radio device: `g` after the prediction step, if it is stepped, then release
and countdowns. -/
theorem State.trackMark_device {number : Nat} {t : Int} (hd : s.dev i = some d) (hr : d.isRadio = true) :
    ∃ g x, g.set = d.set ∧ MarkOnly d.aged.live g.live ∧
      (d.set.quiet = false → g.live.held = d.live.held) ∧
      ((number % 4 ≠ 0 ∨ d.live.predictedState = false) → g = d.aged) ∧
      (number % 4 = 0 → d.live.predictedState = true → ∃ u r, MarkKept s.ageAll u ∧
        PredictionLeaves u t i d.aged g r ∧ ((∃ x ∈ r.requests, x.cls = .drift ∧ x.slot = i) →
          ∃ x ∈ (s.trackMark number t).radio.requests, x.cls = .drift ∧ x.slot = i)) ∧
      MarkKept s.ageAll x ∧
      (s.trackMark number t).dev i = some { g with live := x.countDown g.released } ∧
      (g.set.quiet = false → g.live.held = true →
        ∃ x ∈ (s.trackMark number t).radio.requests, x.cls = .overdue ∧ x.slot = i) := by
  obtain ⟨g, hg, hset, honly, hquiet, hstill, hstep⟩ :
      ∃ g, (s.marked number t).dev i = some g ∧ g.set = d.set ∧ MarkOnly d.aged.live g.live ∧
        (d.set.quiet = false → g.live.held = d.live.held) ∧
        ((number % 4 ≠ 0 ∨ d.live.predictedState = false) → g = d.aged) ∧
        (number % 4 = 0 → d.live.predictedState = true → ∃ u r, MarkKept s.ageAll u ∧
          PredictionLeaves u t i d.aged g r ∧ ((∃ x ∈ r.requests, x.cls = .drift ∧ x.slot = i) →
            ∃ x ∈ (s.trackMark number t).radio.requests, x.cls = .drift ∧ x.slot = i)) := by
    by_cases hcase : number % 4 ≠ 0 ∨ d.live.predictedState = false
    · have haged : s.ageAll.dev i = some d.aged := by
        rw [State.ageAll_dev, hd, Option.map_some, if_pos hr]
      exact ⟨d.aged, State.marked_still haged hcase, rfl, rfl, fun _ => rfl, fun _ => rfl,
        fun h1 h2 => (hcase.elim (fun h => h h1) fun h => by rw [h2] at h; cases h).elim⟩
    · obtain ⟨h4, hp⟩ := not_or.1 hcase
      obtain ⟨u, g, r, hu, hg, hleaves, hwaits⟩ :=
        State.marked_stepped (t := t) hd hr (not_not.1 h4) (Bool.of_not_eq_false hp)
      have hlast : MarkKept (s.marked number t) (s.trackMark number t) :=
        (foldl_releaseOne _).1.trans (markKept_countAll _)
      refine ⟨g, hg, hleaves.set, hleaves.only, fun hq => ?_, fun h => absurd h hcase,
        fun _ _ => ⟨u, r, hu, hleaves, fun h => hlast.waits (hwaits h)⟩⟩
      exact (hleaves.calm (.inr (.inr (by simp [Device.heldBack, Device.aged, hq])))).2.2
  obtain ⟨x, hx, hdev, hover⟩ := State.trackMark_radioDev hg (by rw [Device.isRadio, hset]; exact hr)
  exact ⟨g, x, hset, honly, hquiet, hstill, hstep, hx, hdev, hover⟩

/-- A wired device is not touched by release and countdowns. -/
theorem State.trackMark_wiredDev {number : Nat} {t : Int} {g : Device}
    (hg : (s.marked number t).dev i = some g) (hr : g.isRadio = false) :
    (s.trackMark number t).dev i = some g := by
  obtain ⟨-, -, hin⟩ := foldl_releaseOne (s.marked number t)
  obtain ⟨u, -, hdev, hfin, -⟩ := hin i (mem_allSlots hg)
  have hrel : u.releaseOne i = u := by
    unfold State.releaseOne
    simp only [hdev.trans hg, hr]
    rfl
  rw [s.trackMark_eq, State.countAll_dev, hfin, hrel, hdev, hg, Option.map_some,
    if_neg (by simp [hr])]

/-- An EMPTY slot stays EMPTY. -/
theorem State.trackMark_empty {number : Nat} {t : Int} (hd : s.dev i = none) :
    (s.trackMark number t).dev i = none := by
  have haged : s.ageAll.dev i = none := by rw [s.ageAll_dev, hd]; rfl
  have hmarked : (s.marked number t).dev i = none := by
    unfold State.marked
    split
    · obtain ⟨-, hout, hin⟩ := foldl_slots (f := fun x i => x.predictOne t i)
        (fun _ _ _ h => State.dev_predictOne_ne h t) (fun u j => markKept_predictOne u j t)
        allSlots_nodup s.ageAll
      by_cases hi : i ∈ allSlots
      · obtain ⟨u, -, hdev, hfin, -⟩ := hin i hi
        refine hfin.trans ?_
        unfold State.predictOne
        simp only [hdev.trans haged]
      · exact (hout i hi).trans haged
    · exact haged
  obtain ⟨-, hout, hin⟩ := foldl_releaseOne (s.marked number t)
  rw [s.trackMark_eq, State.countAll_dev]
  by_cases hi : i ∈ allSlots
  · obtain ⟨u, -, hdev, hfin, -⟩ := hin i hi
    have hrel : u.releaseOne i = u := by
      unfold State.releaseOne
      simp only [hdev.trans hmarked]
    rw [hfin, hrel, hdev, hmarked]
    rfl
  · rw [hout i hi, hmarked]
    rfl

/-- Releases raise no notice and change no take. -/
theorem foldl_releaseOne_quiet (l : List Nat) (s : State) :
    (l.foldl State.releaseOne s).takes = s.takes ∧ Mum s (l.foldl State.releaseOne s) := by
  have hone : ∀ (s : State) i, (s.releaseOne i).takes = s.takes ∧ Mum s (s.releaseOne i) := by
    intro s i
    unfold State.releaseOne
    split
    · split
      · exact ⟨by simp, .of_eq (markKept_endHold s i).control (by simp) (by simp)⟩
      · exact ⟨rfl, .refl s⟩
    · exact ⟨rfl, .refl s⟩
  induction l generalizing s with
  | nil => exact ⟨rfl, .refl s⟩
  | cons i l ih =>
    obtain ⟨htakes, hmum⟩ := ih (s.releaseOne i)
    exact ⟨htakes.trans (hone s i).1, (hone s i).2.trans hmum⟩

theorem State.trackMark_quiet {number : Nat} {t : Int} (hn : number % 4 ≠ 0) :
    (s.trackMark number t).takes = s.takes ∧ Mum s (s.trackMark number t) := by
  obtain ⟨htakes, hmum⟩ := foldl_releaseOne_quiet allSlots (s.marked number t)
  have hmarked : s.marked number t = s.ageAll := if_neg hn
  rw [hmarked] at htakes hmum
  rw [s.trackMark_eq, hmarked]
  refine ⟨Eq.trans ?_ htakes, ((mum_ageAll s).trans hmum).trans (mum_countAll _)⟩
  simp only [State.countAll]

end

/-! ### The beacon history (R79) -/

theorem addMark_last (h : List Mark) (m : Mark) : (addMark h m).getLast? = some m := by
  rw [addMark, List.getLast?_drop, if_neg (by simp), List.getLast?_concat]

theorem addMark_length (h : List Mark) (m : Mark) : (addMark h m).length ≤ 256 := by
  simp [addMark]
  omega

theorem Radio.mark_history (r : Radio) (t : Nat) :
    (r.mark t).history = addMark r.history ⟨r.next, t, r.enabled⟩ := by
  simp only [Radio.mark]

/-- Settles O26: the mark is taken, each device is aged, stepped, released and counted down once. -/
theorem beaconMarkTaken : Obligations.BeaconMarkTaken := by
  intro tick s hdue hflight
  obtain ⟨w, hw⟩ : ∃ w : State, w = { s with radio := s.radio.mark tick } := ⟨_, rfl⟩
  obtain ⟨v, hv⟩ : ∃ v, v = w.trackMark s.radio.next tick := ⟨_, rfl⟩
  have hexec : exec .beaconMark s = .next v.pump := by
    show finish _ = _
    have htake : s.radio.takeableMark = some tick := by simp [Radio.takeableMark, hflight, hdue]
    simp only [htake, hv, hw]
    rfl
  have hwdev : ∀ i, w.dev i = s.dev i := fun i => by rw [hw]; rfl
  have hwprof : w.ageAll.profiles = s.profiles := by rw [hw]; rfl
  have hwunits : w.ageAll.units = s.units := by rw [hw]; rfl
  have hkept : MarkKept w.ageAll v := by rw [hv]; exact markKept_trackMark _ _ _
  have hradio : v.pump.radio = { s.radio.mark tick with
      requests := v.radio.requests, nextAge := v.radio.nextAge } := by
    rw [State.pump_radio]
    exact hkept.radio.1.trans (by rw [hw]; rfl)
  have hreq : v.pump.radio.requests = v.radio.requests := by rw [State.pump_radio]
  have hdev : ∀ i, v.pump.dev i = v.dev i := State.dev_congr v.pump_slots
  refine ⟨_, hexec, ?_, ?_, ?_, ?_, fun hon => ?_, fun hoff => ?_, ?_, ?_, ?_, ?_, ?_, fun i d hd hr => ?_,
    fun i d hd hr hheld hp => ?_, fun i hd => ?_, fun hn => ?_, ?_, ?_, ?_, ?_, ?_, ?_, ?_, ?_, ?_, ?_, ?_,
    ?_⟩
  · rw [hradio]
    show (s.radio.next + 1) % 256 = _
    split <;> omega
  · rw [hradio, Radio.mark_history]
    exact addMark_last _ _
  · rw [hradio, Radio.mark_history]
    exact addMark_length _ _
  · rw [hradio]
    rfl
  · rw [hradio]
    exact if_pos hon
  · rw [hradio]
    exact if_neg (by simp [hoff])
  · rw [hradio]
    exact hflight
  · rw [hradio]
    rfl
  · rw [hradio]
    rfl
  · rw [hradio]
    rfl
  · rw [State.pump_marks, hkept.marks, hw]
    rfl
  · obtain ⟨g, x, hset, honly, hquiet, hstill, hstep, hx, hdevx, hover⟩ :=
      State.trackMark_device (number := s.radio.next) (t := tick) ((hwdev i).trans hd) hr
    rw [← hv] at hstep hdevx hover
    obtain ⟨e, he⟩ : ∃ e : Device, e = { g with live := x.countDown g.released } := ⟨_, rfl⟩
    rw [← he] at hdevx
    rw [x.countDown_released, hset] at he
    have hperiod : x.pollPeriod g = s.pollPeriod { d with live := g.live } :=
      State.pollPeriod_congr (hx.units.trans hwunits) hset rfl
    refine ⟨e, (hdev i).trans hdevx, by rw [he], ?_,
      fun hq => ⟨by rw [he]; simp [hq], fun hh => ?_⟩, fun hcase => ?_, fun h4 hp => ?_⟩
    · rw [he]
      exact honly.trans rfl
    · rw [hreq]
      exact hover (by rw [hset]; exact hq) ((hquiet hq).trans hh)
    · obtain rfl := hstill (hcase.imp_right fun h => decide_eq_false h)
      refine ⟨by rw [he]; rfl, by rw [he]; rfl, by rw [he]; rfl, by rw [he]; rfl, by rw [he]; rfl,
        by rw [he]; rfl, fun hq => by rw [he]; simp [hq, Device.aged], fun p c hpp hc => ?_,
        fun hp => ⟨fun h0 => ?_, fun c h1 hc => ?_⟩⟩
      · have hpp' : s.pollPeriod { d with live := d.aged.live } = some p :=
          (State.pollPeriod_congr rfl rfl rfl).trans hpp
        rw [he, hperiod, hpp']
        simp [pollDown, Device.aged, hc]
      · have hp' : d.aged.live.predictedState = true := decide_eq_true hp
        rw [he, hp']
        simp [periodicDown, h0]
      · have hp' : d.aged.live.predictedState = true := decide_eq_true hp
        have hne : d.set.periodic ≠ 0 := by omega
        rw [he, hp']
        simp [periodicDown, hne, Device.aged, hc]
    · obtain ⟨u, r, hu, hleaves, hwaits⟩ := hstep h4 (decide_eq_true hp)
      have hprof : u.profiles = s.profiles := hu.profiles.trans hwprof
      obtain ⟨hstate, hmissed, hheld, hcrc, htm, haa, hpr⟩ : e.live.state = g.live.state ∧
          e.live.missedRejams = g.live.missedRejams ∧
          e.live.held = (d.set.quiet && g.live.held) ∧ e.live.crc = g.live.crc ∧
          e.live.tMeas = g.live.tMeas ∧ e.live.anchorAge = g.live.anchorAge ∧
          e.live.predicted = g.live.predicted := by rw [he]; exact ⟨rfl, rfl, rfl, rfl, rfl, rfl, rfl⟩
      have hecrc : e.live.crc = u.profileCrc d.aged.set.profile :=
        (hcrc.trans hleaves.crc).trans State.grown_crc
      refine ⟨hecrc.trans (State.profileCrc_congr hprof _), fun hne hm => ?_, fun hk => ?_,
        fun a hm ha => ?_, fun hm => ?_, fun hdr => ?_, fun htr hlt => ?_,
        fun htr hle => ⟨fun hb => ?_, fun hb => ?_⟩⟩
      · rw [hecrc] at hne
        obtain ⟨h1, h2⟩ := State.grown_anchored (d := d.aged) (t := tick) hne hm
        exact ⟨htm.trans (hleaves.tMeas.trans h1), haa.trans (hleaves.anchorAge.trans h2)⟩
      · rw [hecrc] at hk
        obtain ⟨h1, h2⟩ := State.grown_kept (d := d.aged) (t := tick) hk
        exact ⟨htm.trans (hleaves.tMeas.trans h1), haa.trans (hleaves.anchorAge.trans h2)⟩
      · rw [haa, hleaves.anchorAge] at ha
        rw [hpr, hleaves.predicted, State.grown_measured (d := d.aged) hm ha,
          State.profileAnswer_congr hprof, State.profileAnswer_congr hprof]
        rfl
      · rw [hpr, hleaves.predicted, State.grown_unmeasured (d := d.aged) hm,
          State.profileAnswer_congr hprof]
        rfl
      · obtain ⟨h1, h2, -⟩ := hleaves.calm (.inl hdr)
        exact ⟨hstate.trans (h1.trans hdr), hmissed.trans h2⟩
      · rw [hpr] at hlt
        obtain ⟨h1, h2, h3⟩ := hleaves.calm (.inr (.inl hlt))
        exact ⟨hstate.trans (h1.trans htr), hmissed.trans h2,
          fun hq => by rw [hheld, h3, hq]; rfl⟩
      · rw [hpr] at hle
        obtain ⟨h1, h2, -⟩ := hleaves.calm (.inr (.inr hb))
        refine ⟨hstate.trans (h1.trans htr), hmissed.trans h2, ?_⟩
        rw [hreq]
        exact hwaits (hleaves.drift htr hle hb)
      · rw [hpr] at hle
        obtain ⟨h1, h2, h3⟩ := hleaves.held htr hle hb
        have hq : d.set.quiet = true := by
          rw [Device.heldBack, Bool.and_eq_true] at hb
          exact hb.1
        rw [hstate, hmissed, hpr, hheld, hq, h1]
        exact ⟨rfl, h2, h3⟩
  · have hp' : w.ageAll.dev i = some d := by
      rw [State.ageAll_dev, hwdev, hd, Option.map_some, if_neg (by simp [hr])]
    rw [hdev, hv]
    exact State.trackMark_wiredDev (State.marked_still hp' (.inr hp)) hr
  · rw [hdev, hv]
    exact State.trackMark_empty ((hwdev i).trans hd)
  · obtain ⟨htakes, hmum⟩ := State.trackMark_quiet (s := w) (t := tick) hn
    rw [← hv] at htakes hmum
    have hsw : Mum s w := by rw [hw]; exact .of_eq rfl rfl rfl
    exact ⟨by rw [State.pump_takes, htakes, hw], (hsw.trans hmum).silent.trans (silent_pump v)⟩
  · rw [State.pump_takes, hkept.lastIndex, hw]
    rfl
  · rw [State.pump_takes, hkept.queue, hw]
    rfl
  · rw [State.pump_clock, hkept.clock, hw]
    rfl
  · rw [State.pump_origin, hkept.origin, hw]
    rfl
  · rw [State.pump_ref, hkept.ref, hw]
    rfl
  · rw [State.pump_lines, hkept.lines, hw]
    rfl
  · rw [State.pump_units, hkept.units, hw]
    rfl
  · rw [State.pump_store, hkept.store, hw]
    rfl
  · rw [State.pump_flash, hkept.flash, hw]
    rfl
  · rw [State.pump_profiles, hkept.profiles, hw]
    rfl
  · rw [State.pump_exporter, hkept.exporter, hw]
    rfl
  · have hsv : NoReply s v := .of_eq (by rw [hkept.control, hw]; rfl) (by rw [hkept.suite, hw]; rfl)
    exact hsv.trans (noReply_pump v)

end Sys2Proof.Machine
end
